-- ==== Sys2Proof/Word.lean ====
section
/-!
DEFINITION. The words of the link and the names the manual gives to the numbered things of the part
(slots, handles, loads, channels, feeds, lines, pairs, classes) and to the values of its small enumerated fields.
-/

namespace Sys2Proof

/-- One byte of a Control Link frame (R147). -/
abbrev Byte := BitVec 8

/-- A two-byte parameter or result item, sent high byte first (R153). -/
abbrev Word16 := BitVec 16

/-- One of the 16 channels CH0 to CH15. -/
abbrev Ch := Fin 16

/-- A demand record's handle, 0 to 63; 60 to 63 belong to lines 0 to 3 (R7). -/
abbrev Handle := Fin 64

/-- A load number of the Load Map (R30). -/
abbrev LoadNo := Fin 32

/-- A requester slot: 0 SUPERVISOR, 1 to 10 network, 11 LINES (R1). -/
abbrev SlotNo := Fin 12

/-- A direct line, 0 to 3 (R130). -/
abbrev LineNo := Fin 4

/-- An interlock pair, 0 to 7 (R75). -/
abbrev PairNo := Fin 8

/-- A class: 0 SERVICE, 1 COMFORT, 2 STATUTORY, 3 PROTECTIVE (R7). -/
abbrev Cls := Fin 4

/-- A set of channels, bit n for CHn (R153). -/
abbrev ChSet := BitVec 16

/-- A set of notice kinds, one bit a kind (R153). -/
abbrev KindSet := BitVec 8

/-- A permission set: bit n for slot n, slots 0 to 10 (R30). -/
abbrev SlotSet := BitVec 11

/-- The three busbars (R49). -/
inductive Feed where
  | a | b | c
  deriving DecidableEq, Repr, Inhabited

/-- The place of a feed's state in a vector of three. -/
def Feed.index : Feed → Fin 3
  | .a => 0
  | .b => 1
  | .c => 2

/-- A level: OFF, STEADY, FLASH, or DIM with a duty of 1 to 63 (R7). -/
inductive Level where
  | off | steady | flash
  | dim (duty : Fin 64)
  deriving DecidableEq, Repr, Inhabited

/-- The load type of a configured channel (R49). -/
inductive LoadType where
  | lamp | motor | heater
  deriving DecidableEq, Repr, Inhabited

/-- The polarity of a line binding (R130). -/
inductive Polarity where
  | activeHigh | activeLow
  deriving DecidableEq, Repr, Inhabited

/-- The kinds of trip (R66). -/
inductive FaultKind where
  | short | overload | stall
  deriving DecidableEq, Repr

/-- The cause of a shed (R53). -/
inductive ShedCause where
  | budget | undervolt
  deriving DecidableEq, Repr

/-- The eight notice kinds (R159). -/
inductive NoticeKind where
  | channel | lapse | warn | openLoad | supply | check | link | store
  deriving DecidableEq, Repr

/-- The status codes of a response (R152). -/
inductive Status where
  | ok | frameCheck | unknownKind | notPermitted | noLoad | noRecord
  | tableFull | quotaFull | listFull | badValue | wrongState | busy
  deriving DecidableEq, Repr

end Sys2Proof
end

