-- ==== Sys2Proof/Config.lean ====
section
/-!
DEFINITION. The configuration of the part, in the shape in which the image holds it (R166), and the values the manual
leaves open as constants without a body: the computation of the check value, and what a cut-short store write leaves.
-/

namespace Sys2Proof

/-- The fifteen configuration fields of a channel and its configured flag (R49, R52). -/
structure ChannelConfig where
  feed          : Feed
  iNom          : Nat
  iRate         : Nat
  k             : Nat
  peakLimit     : Nat
  inrushLimit   : Nat
  inrushFactor  : Nat
  inrushWindow  : Nat
  loadType      : LoadType
  openLoadLevel : Nat
  stallLevel    : Nat
  stallTime     : Nat
  retryLimit    : Nat
  outageWatch   : Bool
  lockAtStart   : Bool
  configured    : Bool
  deriving DecidableEq, Repr, Inhabited

/-- One Load Map entry (R30). -/
structure LoadEntry where
  enabled   : Bool
  channel   : Ch
  permitted : SlotSet
  deriving DecidableEq, Repr, Inhabited

/-- The settings of one requester slot (R1). -/
structure Requester where
  enabled : Bool
  quota   : Nat
  ceiling : Cls
  deriving DecidableEq, Repr, Inhabited

/-- The stored part of an interlock pair (R75). -/
structure PairConfig where
  enabled : Bool
  a       : Ch
  b       : Ch
  deriving DecidableEq, Repr, Inhabited

/-- A line's binding (R130). -/
structure Binding where
  enabled  : Bool
  polarity : Polarity
  load     : LoadNo
  level    : Level
  cls      : Cls
  deriving DecidableEq, Repr, Inhabited

/-- The contents of the image (R166), and of the configuration in force.
`slots` holds slots 1 to 10; of slot 0 only the quota is a setting (R1). -/
structure Configuration where
  channels : Vector ChannelConfig 16
  loads    : Vector LoadEntry 32
  quota0   : Nat
  slots    : Vector Requester 10
  budgets  : Vector Nat 3
  pairs    : Vector PairConfig 8
  bindings : Vector Binding 4
  period   : Nat
  uv       : Nat
  recovery : Nat
  enable   : KindSet
  deriving DecidableEq, Repr, Inhabited

/-- The 16-bit check value over the image's contents. R166 names it and gives no computation (log entry 9). -/
opaque Config.checkValue : Configuration → BitVec 16

/-- The contents that a store write cut short leaves in the image (R170 gives none; log entry 10). -/
opaque Config.cutContents : Nat → Configuration

/-- The check value that a store write cut short leaves, before R170's disagreement is imposed (log entry 10). -/
opaque Config.cutCheck : Nat → BitVec 16

end Sys2Proof
end

