-- ==== Sys2Proof/Syntax.lean ====
section
/-!
DEFINITION. The commands of the part: one constructor for each row of spec/opcode_table.json. A request is a whole
frame taken when CSN rises (R147, R151): its header is byte 1, its other operands are its body's parameters in the
order and encoding of R153, every byte as sent. An event carries what the part reads within it.
-/

namespace Sys2Proof

/-- Byte 1 of a frame: the requesting slot and the tag (R151). -/
structure Header where
  slot : BitVec 4
  tag  : BitVec 4
  deriving DecidableEq, Repr

/-- A level parameter as sent: mode byte, then duty byte (R153). -/
structure LevelParam where
  mode : Byte
  duty : Byte
  deriving DecidableEq, Repr

/-- The parameters of SET CHANNEL LIMITS after the channel (R50). -/
structure LimitsParams where
  feed         : Byte
  iNom         : Word16
  iRate        : Word16
  k            : Byte
  peakLimit    : Word16
  inrushLimit  : Word16
  inrushFactor : Byte
  inrushWindow : Byte
  deriving DecidableEq, Repr

/-- The parameters of SET CHANNEL PROFILE after the channel (R51). -/
structure ProfileParams where
  loadType      : Byte
  openLoadLevel : Word16
  stallLevel    : Word16
  stallTime     : Byte
  retryLimit    : Byte
  outageWatch   : Byte
  lockAtStart   : Byte
  deriving DecidableEq, Repr

/-- The commands. -/
inductive Instr where
  /-- POLL (R155). -/
  | poll (h : Header)
  /-- READ NOTICES (R161). -/
  | readNotices (h : Header)
  /-- CLEAR NOTICES (R162). -/
  | clearNotices (h : Header) (mask : Byte)
  /-- SET NOTICE ENABLE (R163). -/
  | setNoticeEnable (h : Header) (kinds : Byte)
  /-- DESCRIBE (R164). -/
  | describe (h : Header)
  /-- PLACE (R9 to R12). -/
  | place (h : Header) (load : Byte) (level : LevelParam) (cls : Byte) (hold : Word16)
  /-- RENEW (R14, R15). -/
  | renew (h : Header) (handle : Byte)
  /-- AMEND (R16). -/
  | amend (h : Header) (handle : Byte) (level : LevelParam) (cls : Byte) (hold : Word16)
  /-- RETIRE (R17). -/
  | retire (h : Header) (handle : Byte)
  /-- RENEW ALL (R18). -/
  | renewAll (h : Header) (target : Byte)
  /-- RETIRE ALL (R19). -/
  | retireAll (h : Header) (target : Byte)
  /-- LOOKUP (R25, R156). -/
  | lookup (h : Header) (handle : Byte)
  /-- READ LAPSED (R26). -/
  | readLapsed (h : Header)
  /-- MAP LOAD (R32). -/
  | mapLoad (h : Header) (load enabled channel : Byte) (permitted : Word16)
  /-- READ LOAD (R34). -/
  | readLoad (h : Header) (load : Byte)
  /-- LIST (R46, R156). -/
  | list (h : Header) (channel : Byte)
  /-- SET REQUESTER (R3). -/
  | setRequester (h : Header) (target enabled quota ceiling : Byte)
  /-- ADD QUOTA (R5). -/
  | addQuota (h : Header) (target n : Byte)
  /-- READ REQUESTER (R6). -/
  | readRequester (h : Header) (target : Byte)
  /-- SET CHANNEL LIMITS (R50). -/
  | setChannelLimits (h : Header) (channel : Byte) (p : LimitsParams)
  /-- SET CHANNEL PROFILE (R51). -/
  | setChannelProfile (h : Header) (channel : Byte) (p : ProfileParams)
  /-- LOCK (R72). -/
  | lock (h : Header) (channel : Byte)
  /-- UNLOCK (R73). -/
  | unlock (h : Header) (channel : Byte)
  /-- CLEAR FAULT (R71). -/
  | clearFault (h : Header) (channel : Byte)
  /-- CHANNEL STATUS (R80, R157). -/
  | channelStatus (h : Header) (channel : Byte)
  /-- SET INTERLOCK (R78). -/
  | setInterlock (h : Header) (pair enabled a b : Byte)
  /-- READ INTERLOCK (R79). -/
  | readInterlock (h : Header) (pair : Byte)
  /-- SET BUDGET (R112, R113). -/
  | setBudget (h : Header) (feed : Byte) (budget : Word16)
  /-- FEED STATUS (R114, R158). -/
  | feedStatus (h : Header) (feed : Byte)
  /-- SET SUPPLY LIMITS (R119). -/
  | setSupplyLimits (h : Header) (uv recovery : Word16)
  /-- SET FLASH PERIOD (R127). -/
  | setFlashPeriod (h : Header) (period : Byte)
  /-- BIND LINE (R135). -/
  | bindLine (h : Header) (line enabled polarity load : Byte) (level : LevelParam) (cls : Byte)
  /-- READ LINE (R136). -/
  | readLine (h : Header) (line : Byte)
  /-- CHECK OUTPUTS (R140). -/
  | checkOutputs (h : Header) (selection : Word16)
  /-- CHECK RESULTS (R144, R158). -/
  | checkResults (h : Header)
  /-- STORE CONFIGURATION (R167). -/
  | storeConfiguration (h : Header)
  /-- RESTART (R172). -/
  | restart (h : Header)
  /-- A well-formed frame whose byte 0, `kind`, names no request (R151). -/
  | unknownKindFrame (kind : Byte) (h : Header)
  /-- A frame that is not well formed: `edges` rising edges were counted; with 160 of them the CRC disagrees (R150). -/
  | frameDiscard (edges : Nat)
  /-- The remaining time of a LIVE record reaches 0 (R21). -/
  | holdExpiry (handle : Handle)
  /-- The grace of a LAPSED record reaches 0 (R22). -/
  | graceExpiry (handle : Handle)
  /-- The dead time of a pair ends (R76, R77). -/
  | deadTimeExpiry (pair : PairNo)
  /-- The inrush timer of a channel expires (R59). -/
  | inrushTimerExpiry (channel : Ch)
  /-- The retry timer of a channel tripped SHORT or STALL expires (R67). -/
  | retryTimerExpiry (channel : Ch)
  /-- A channel tripped OVERLOAD stands at or below T_cool at a completion's report (R67, R92). -/
  | overloadRetry (channel : Ch)
  /-- A channel's cooling flag clears at a completion's report (R70, R92). -/
  | coolingFlagClear (channel : Ch)
  /-- The clean-run timer of a channel expires (R69). -/
  | cleanRunExpiry (channel : Ch)
  /-- A sample completion: `sense` is the channel current in counts before the conversion saturates (R83, R85). -/
  | sampleCompletion (channel : Ch) (sense : Nat)
  /-- The stall timer of a channel reaches 0 (R95). -/
  | stallTimerExpiry (channel : Ch)
  /-- The 100th counted reading below the open-load level (R96). -/
  | openFlagSet (channel : Ch)
  /-- The 100th counted reading at or above the open-load level (R96). -/
  | openFlagClear (channel : Ch)
  /-- A 5 ms PWM period starts (R55). -/
  | pwmPeriodStart
  /-- A VSENSE reading: `sense` is the rail in counts before the conversion saturates (R116). -/
  | supplyReading (sense : Nat)
  /-- The VSENSE reading that completes a recovery run (R118). -/
  | supplyRecovery (sense : Nat)
  /-- The phase timer of an off phase expires (R123). -/
  | onPhaseStart
  /-- The phase timer of an on phase expires (R123). -/
  | onPhaseExpiry
  /-- A reading of a LINEn input, high or low (R131). -/
  | lineReading (line : LineNo) (high : Bool)
  /-- The 20th differing reading of a line (R132). -/
  | debounceChange (line : LineNo)
  /-- The UNBIASED step ends; `sense` is the output voltage in counts before the conversion saturates (R139, R141). -/
  | unbiasedStepEnd (sense : Nat)
  /-- The BIASED step ends; `sense` as for the UNBIASED step (R139, R141). -/
  | biasedStepEnd (sense : Nat)
  /-- A store write is done; `readBack` is what the Configuration Store reads back from the image (R169). -/
  | storeWriteCompletion (readBack : Configuration)
  /-- VSUPPLY has risen with RESETN high, or RESETN is released (R171). -/
  | powerOn
  /-- RESETN goes low or the supply is lost (R170, R171). -/
  | resetAssert
  /-- CSN falls (R147). -/
  | csnFall
  deriving DecidableEq, Repr

end Sys2Proof
end

