-- ==== Sys2Proof/Machine/Frame.lean ====
section
/-!
DEFINITION. The frame of the Control Link, below the meaning of any request: the kind codes and who may send each
(R154), the CRC (R149), and the placing of bytes, two-byte values and header nibbles (R151, R153).
-/

namespace Sys2Proof.Machine

/-- The request kinds of R154. -/
inductive Kind where
  | poll | readNotices | clearNotices | setNoticeEnable | describe
  | place | renew | amend | retire | renewAll | retireAll | lookup | readLapsed
  | mapLoad | readLoad | list
  | setRequester | addQuota | readRequester
  | setChannelLimits | setChannelProfile | lock | unlock | clearFault | channelStatus
  | setInterlock | readInterlock
  | setBudget | feedStatus | setSupplyLimits | setFlashPeriod
  | bindLine | readLine | checkOutputs | checkResults | storeConfiguration | restart
  deriving DecidableEq, Repr

/-- Every kind, in the order of the codes. -/
def Kind.all : List Kind :=
  [.poll, .readNotices, .clearNotices, .setNoticeEnable, .describe,
   .place, .renew, .amend, .retire, .renewAll, .retireAll, .lookup, .readLapsed,
   .mapLoad, .readLoad, .list, .setRequester, .addQuota, .readRequester,
   .setChannelLimits, .setChannelProfile, .lock, .unlock, .clearFault, .channelStatus,
   .setInterlock, .readInterlock, .setBudget, .feedStatus, .setSupplyLimits, .setFlashPeriod,
   .bindLine, .readLine, .checkOutputs, .checkResults, .storeConfiguration, .restart]

/-- The code of a kind in byte 0 (R154). -/
def Kind.code : Kind → Byte
  | .poll => 0x01#8 | .readNotices => 0x02#8 | .clearNotices => 0x03#8
  | .setNoticeEnable => 0x04#8 | .describe => 0x05#8
  | .place => 0x10#8 | .renew => 0x11#8 | .amend => 0x12#8 | .retire => 0x13#8
  | .renewAll => 0x14#8 | .retireAll => 0x15#8 | .lookup => 0x16#8 | .readLapsed => 0x17#8
  | .mapLoad => 0x20#8 | .readLoad => 0x21#8 | .list => 0x22#8
  | .setRequester => 0x28#8 | .addQuota => 0x29#8 | .readRequester => 0x2A#8
  | .setChannelLimits => 0x30#8 | .setChannelProfile => 0x31#8 | .lock => 0x32#8
  | .unlock => 0x33#8 | .clearFault => 0x34#8 | .channelStatus => 0x35#8
  | .setInterlock => 0x38#8 | .readInterlock => 0x39#8
  | .setBudget => 0x40#8 | .feedStatus => 0x41#8 | .setSupplyLimits => 0x42#8
  | .setFlashPeriod => 0x48#8 | .bindLine => 0x50#8 | .readLine => 0x51#8
  | .checkOutputs => 0x58#8 | .checkResults => 0x59#8
  | .storeConfiguration => 0x60#8 | .restart => 0x61#8

/-- The kinds permitted to slot 0 alone (R154). -/
def Kind.supervisorOnly : Kind → Bool
  | .clearNotices | .setNoticeEnable | .mapLoad | .setRequester | .addQuota | .readRequester
  | .setChannelLimits | .setChannelProfile | .lock | .unlock | .clearFault | .setInterlock
  | .setBudget | .setSupplyLimits | .setFlashPeriod | .bindLine | .checkOutputs
  | .storeConfiguration | .restart => true
  | .poll | .readNotices | .describe | .place | .renew | .amend | .retire | .renewAll | .retireAll
  | .lookup | .readLapsed | .readLoad | .list | .channelStatus | .readInterlock | .feedStatus
  | .readLine | .checkResults => false

/-- The kind that byte 0 names, if any (R151 check 1, R154). -/
def kindOfByte (b : Byte) : Option Kind :=
  Kind.all.find? (fun k => k.code == b)

/-- One bit taken into the CRC register (R149). -/
def crcBit (r : Byte) (bit : Bool) : Byte :=
  if r.msb == bit then r <<< 1 else (r <<< 1) ^^^ 0x2F#8

/-- One byte taken into the CRC register, most significant bit first (R149). -/
def crcByte (r b : Byte) : Byte :=
  [7, 6, 5, 4, 3, 2, 1, 0].foldl (fun r i => crcBit r (b.getLsbD i)) r

/-- The CRC-8 of R149: register from FFh, polynomial 2Fh, no final inversion. -/
def crc8 (bytes : List Byte) : Byte :=
  bytes.foldl crcByte 0xFF#8

/-- The byte of a frame at a place; a place beyond the frame reads 00h. -/
def byteAt (bytes : List Byte) (i : Nat) : Byte := bytes.getD i 0#8

/-- A two-byte value, high byte first (R153). -/
def wordAt (bytes : List Byte) (i : Nat) : Word16 := byteAt bytes i ++ byteAt bytes (i + 1)

/-- The high byte of a two-byte value. -/
def hiByte (w : Word16) : Byte := w.extractLsb' 8 8

/-- The low byte of a two-byte value. -/
def loByte (w : Word16) : Byte := w.extractLsb' 0 8

/-- A two-byte value as its two bytes, high byte first (R153). -/
def wordBytes (w : Word16) : List Byte := [hiByte w, loByte w]

/-- Byte 1: slot in the high four bits, tag in the low four (R151). -/
def headerByte (h : Header) : Byte := h.slot ++ h.tag

/-- The header that byte 1 holds (R151). -/
def headerOf (b : Byte) : Header := ⟨b.extractLsb' 4 4, b.extractLsb' 0 4⟩

/-- A list filled with 00h to `n` bytes, or cut to them. -/
def fillTo (n : Nat) (l : List Byte) : List Byte := (l ++ List.replicate n 0#8).take n

end Sys2Proof.Machine
end

