-- ==== Sys2Proof/WellFormed.lean ====
section
/-!
DEFINITION. Which commands and which configurations are well formed. A configuration is well formed when every field is
in the range its rule gives and the relations between fields that the requests enforce hold (R49 to R51, R1, R75, R78,
R102, R116, R122, R130, R135). A command is well formed when it can be spelled at the part's pins or by its store.
-/

namespace Sys2Proof

/-- A level that exists: a DIM duty is 1 to 63 (R7). -/
abbrev Level.Valid (l : Level) : Prop := l ≠ .dim 0

/-- The ranges of R49, the order of the two limits (R50), and outage watch on LAMP alone (R51). -/
abbrev ChannelConfig.WellFormed (x : ChannelConfig) : Prop :=
  (1 ≤ x.iNom ∧ x.iNom ≤ 1023) ∧ (1 ≤ x.iRate ∧ x.iRate ≤ 1023) ∧ (8 ≤ x.k ∧ x.k ≤ 16) ∧
  (1 ≤ x.peakLimit ∧ x.peakLimit ≤ x.inrushLimit ∧ x.inrushLimit ≤ 1023) ∧
  (1 ≤ x.inrushFactor ∧ x.inrushFactor ≤ 16) ∧ x.inrushWindow ≤ 255 ∧ x.openLoadLevel ≤ 1023 ∧
  (1 ≤ x.stallLevel ∧ x.stallLevel ≤ 1023) ∧ (1 ≤ x.stallTime ∧ x.stallTime ≤ 255) ∧
  x.retryLimit ≤ 7 ∧ (x.outageWatch = true → x.loadType = .lamp)

/-- An enabled pair joins two different channels, and no channel is in two enabled pairs (R75, R78). -/
abbrev PairsWellFormed (pairs : Vector PairConfig 8) : Prop :=
  (∀ p : PairNo, pairs[p].enabled = true → pairs[p].a ≠ pairs[p].b) ∧
  (∀ p q : PairNo, pairs[p].enabled = true → pairs[q].enabled = true → p ≠ q →
    pairs[p].a ≠ pairs[q].a ∧ pairs[p].a ≠ pairs[q].b ∧
    pairs[p].b ≠ pairs[q].a ∧ pairs[p].b ≠ pairs[q].b)

/-- Every binding's level exists, and an enabled binding names a mapped load (R133, R135). -/
abbrev BindingsWellFormed (bindings : Vector Binding 4) (loads : Vector LoadEntry 32) : Prop :=
  ∀ n : LineNo, bindings[n].level.Valid ∧
    (bindings[n].enabled = true → loads[bindings[n].load].enabled = true)

/-- The quotas, the budgets, the flash period and the supply thresholds in their ranges (R1, R102, R116, R122). -/
abbrev Configuration.NumbersInRange (x : Configuration) : Prop :=
  x.quota0 ≤ 60 ∧ (∀ i : Fin 10, x.slots[i].quota ≤ 60) ∧ (∀ f : Fin 3, x.budgets[f] ≤ 4000) ∧
  (40 ≤ x.period ∧ x.period ≤ 200) ∧ (100 ≤ x.uv ∧ x.uv ≤ 300) ∧ (x.uv + 5 ≤ x.recovery ∧ x.recovery ≤ 350)

/-- Every field of a configuration in its range, and the relations kept between its parts. -/
abbrev Configuration.WellFormed (x : Configuration) : Prop :=
  (∀ c : Ch, x.channels[c].WellFormed) ∧ x.NumbersInRange ∧ PairsWellFormed x.pairs ∧
  BindingsWellFormed x.bindings x.loads

/-- The same as a test that can be run. -/
def Configuration.isWellFormed (x : Configuration) : Bool :=
  decide (∀ c : Ch, x.channels[c].WellFormed) && decide x.NumbersInRange && decide (PairsWellFormed x.pairs) &&
  decide (BindingsWellFormed x.bindings x.loads)

theorem Configuration.isWellFormed_iff (x : Configuration) : x.isWellFormed = true ↔ x.WellFormed := by
  simp [isWellFormed, Configuration.WellFormed, and_assoc]

/-- A command that the part can be given. Every request is: its bytes are any bytes. A frame of unknown kind has a
byte 0 outside the table of R154, and the image read back holds values the part can have written. -/
def Instr.wellFormed : Instr → Bool
  | .unknownKindFrame kind _ => (Machine.kindOfByte kind).isNone
  | .storeWriteCompletion readBack => readBack.isWellFormed
  | .poll _ | .readNotices _ | .clearNotices _ _ | .setNoticeEnable _ _ | .describe _ | .place _ _ _ _ _
  | .renew _ _ | .amend _ _ _ _ _ | .retire _ _ | .renewAll _ _ | .retireAll _ _ | .lookup _ _
  | .readLapsed _ | .mapLoad _ _ _ _ _ | .readLoad _ _ | .list _ _ | .setRequester _ _ _ _ _
  | .addQuota _ _ _ | .readRequester _ _ | .setChannelLimits _ _ _ | .setChannelProfile _ _ _ | .lock _ _
  | .unlock _ _ | .clearFault _ _ | .channelStatus _ _ | .setInterlock _ _ _ _ _ | .readInterlock _ _
  | .setBudget _ _ _ | .feedStatus _ _ | .setSupplyLimits _ _ _ | .setFlashPeriod _ _
  | .bindLine _ _ _ _ _ _ _ | .readLine _ _ | .checkOutputs _ _ | .checkResults _ | .storeConfiguration _
  | .restart _ | .frameDiscard _ | .holdExpiry _ | .graceExpiry _ | .deadTimeExpiry _ | .inrushTimerExpiry _
  | .retryTimerExpiry _ | .overloadRetry _ | .coolingFlagClear _ | .cleanRunExpiry _ | .sampleCompletion _ _
  | .stallTimerExpiry _ | .openFlagSet _ | .openFlagClear _ | .pwmPeriodStart | .supplyReading _
  | .supplyRecovery _ | .onPhaseStart | .onPhaseExpiry | .lineReading _ _ | .debounceChange _
  | .unbiasedStepEnd _ | .biasedStepEnd _ | .powerOn | .resetAssert | .csnFall => true

end Sys2Proof
end

