-- ==== Sys2Proof/Decode.lean ====
section
/-!
DEFINITION. The decoder. The rows of spec/opcode_table.json give no bits, so `decodeTableWord` answers none. What the
manual does give is the frame of the Control Link: `decodeFrame` reads the command a taken frame stands for from its
edge count and its bytes (R147, R149 to R154), and `encodeFrame` writes the frame of a request.
-/

namespace Sys2Proof

open Sys2Proof.Machine

/-- No row of the table gives bits: no word spells a command (log entry 6). -/
def decodeTableWord (_nbits _w : Nat) : Option Instr := none

/-- A level parameter at a place of the frame (R153). -/
def levelAt (b : List Byte) (i : Nat) : LevelParam := ⟨byteAt b i, byteAt b (i + 1)⟩

/-- The request of a kind whose frame holds `b`; parameters stand from byte 2 in the order of the request's rule, and
bytes beyond the last are ignored (R153). -/
def requestOf (k : Kind) (b : List Byte) : Instr :=
  let h := headerOf (byteAt b 1)
  match k with
  | .poll => .poll h
  | .readNotices => .readNotices h
  | .clearNotices => .clearNotices h (byteAt b 2)
  | .setNoticeEnable => .setNoticeEnable h (byteAt b 2)
  | .describe => .describe h
  | .place => .place h (byteAt b 2) (levelAt b 3) (byteAt b 5) (wordAt b 6)
  | .renew => .renew h (byteAt b 2)
  | .amend => .amend h (byteAt b 2) (levelAt b 3) (byteAt b 5) (wordAt b 6)
  | .retire => .retire h (byteAt b 2)
  | .renewAll => .renewAll h (byteAt b 2)
  | .retireAll => .retireAll h (byteAt b 2)
  | .lookup => .lookup h (byteAt b 2)
  | .readLapsed => .readLapsed h
  | .mapLoad => .mapLoad h (byteAt b 2) (byteAt b 3) (byteAt b 4) (wordAt b 5)
  | .readLoad => .readLoad h (byteAt b 2)
  | .list => .list h (byteAt b 2)
  | .setRequester => .setRequester h (byteAt b 2) (byteAt b 3) (byteAt b 4) (byteAt b 5)
  | .addQuota => .addQuota h (byteAt b 2) (byteAt b 3)
  | .readRequester => .readRequester h (byteAt b 2)
  | .setChannelLimits =>
      .setChannelLimits h (byteAt b 2)
        ⟨byteAt b 3, wordAt b 4, wordAt b 6, byteAt b 8, wordAt b 9, wordAt b 11, byteAt b 13, byteAt b 14⟩
  | .setChannelProfile =>
      .setChannelProfile h (byteAt b 2)
        ⟨byteAt b 3, wordAt b 4, wordAt b 6, byteAt b 8, byteAt b 9, byteAt b 10, byteAt b 11⟩
  | .lock => .lock h (byteAt b 2)
  | .unlock => .unlock h (byteAt b 2)
  | .clearFault => .clearFault h (byteAt b 2)
  | .channelStatus => .channelStatus h (byteAt b 2)
  | .setInterlock => .setInterlock h (byteAt b 2) (byteAt b 3) (byteAt b 4) (byteAt b 5)
  | .readInterlock => .readInterlock h (byteAt b 2)
  | .setBudget => .setBudget h (byteAt b 2) (wordAt b 3)
  | .feedStatus => .feedStatus h (byteAt b 2)
  | .setSupplyLimits => .setSupplyLimits h (wordAt b 2) (wordAt b 4)
  | .setFlashPeriod => .setFlashPeriod h (byteAt b 2)
  | .bindLine =>
      .bindLine h (byteAt b 2) (byteAt b 3) (byteAt b 4) (byteAt b 5) (levelAt b 6) (byteAt b 8)
  | .readLine => .readLine h (byteAt b 2)
  | .checkOutputs => .checkOutputs h (wordAt b 2)
  | .checkResults => .checkResults h
  | .storeConfiguration => .storeConfiguration h
  | .restart => .restart h

/-- The command a frame stands for when CSN rises: `edges` rising SCK edges were counted and `b` holds the bytes
sampled. 160 edges and an agreeing CRC make it well formed (R147, R149); byte 0 then names its kind (R151, R154). -/
def decodeFrame (edges : Nat) (b : List Byte) : Instr :=
  if edges ≠ 160 then .frameDiscard edges
  else if crc8 (b.take 19) ≠ byteAt b 19 then .frameDiscard 160
  else match kindOfByte (byteAt b 0) with
    | none => .unknownKindFrame (byteAt b 0) (headerOf (byteAt b 1))
    | some k => requestOf k b

/-- The level parameter as its two bytes (R153). -/
def levelBytes (l : LevelParam) : List Byte := [l.mode, l.duty]

/-- What a frame of a request holds: its kind, its header and its body's parameters (R151, R153). -/
def requestParts : Instr → Option (Kind × Header × List Byte)
  | .poll h => some (.poll, h, [])
  | .readNotices h => some (.readNotices, h, [])
  | .clearNotices h mask => some (.clearNotices, h, [mask])
  | .setNoticeEnable h kinds => some (.setNoticeEnable, h, [kinds])
  | .describe h => some (.describe, h, [])
  | .place h load level cls hold => some (.place, h, load :: levelBytes level ++ cls :: wordBytes hold)
  | .renew h handle => some (.renew, h, [handle])
  | .amend h handle level cls hold => some (.amend, h, handle :: levelBytes level ++ cls :: wordBytes hold)
  | .retire h handle => some (.retire, h, [handle])
  | .renewAll h target => some (.renewAll, h, [target])
  | .retireAll h target => some (.retireAll, h, [target])
  | .lookup h handle => some (.lookup, h, [handle])
  | .readLapsed h => some (.readLapsed, h, [])
  | .mapLoad h load enabled channel permitted =>
      some (.mapLoad, h, load :: enabled :: channel :: wordBytes permitted)
  | .readLoad h load => some (.readLoad, h, [load])
  | .list h channel => some (.list, h, [channel])
  | .setRequester h target enabled quota ceiling => some (.setRequester, h, [target, enabled, quota, ceiling])
  | .addQuota h target n => some (.addQuota, h, [target, n])
  | .readRequester h target => some (.readRequester, h, [target])
  | .setChannelLimits h channel p =>
      some (.setChannelLimits, h,
        channel :: p.feed :: wordBytes p.iNom ++ wordBytes p.iRate ++ p.k :: wordBytes p.peakLimit
          ++ wordBytes p.inrushLimit ++ [p.inrushFactor, p.inrushWindow])
  | .setChannelProfile h channel p =>
      some (.setChannelProfile, h,
        channel :: p.loadType :: wordBytes p.openLoadLevel ++ wordBytes p.stallLevel
          ++ [p.stallTime, p.retryLimit, p.outageWatch, p.lockAtStart])
  | .lock h channel => some (.lock, h, [channel])
  | .unlock h channel => some (.unlock, h, [channel])
  | .clearFault h channel => some (.clearFault, h, [channel])
  | .channelStatus h channel => some (.channelStatus, h, [channel])
  | .setInterlock h pair enabled a b => some (.setInterlock, h, [pair, enabled, a, b])
  | .readInterlock h pair => some (.readInterlock, h, [pair])
  | .setBudget h feed budget => some (.setBudget, h, feed :: wordBytes budget)
  | .feedStatus h feed => some (.feedStatus, h, [feed])
  | .setSupplyLimits h uv recovery => some (.setSupplyLimits, h, wordBytes uv ++ wordBytes recovery)
  | .setFlashPeriod h period => some (.setFlashPeriod, h, [period])
  | .bindLine h line enabled polarity load level cls =>
      some (.bindLine, h, line :: enabled :: polarity :: load :: levelBytes level ++ [cls])
  | .readLine h line => some (.readLine, h, [line])
  | .checkOutputs h selection => some (.checkOutputs, h, wordBytes selection)
  | .checkResults h => some (.checkResults, h, [])
  | .storeConfiguration h => some (.storeConfiguration, h, [])
  | .restart h => some (.restart, h, [])
  | .frameDiscard _ | .holdExpiry _ | .graceExpiry _ | .deadTimeExpiry _ | .inrushTimerExpiry _
  | .retryTimerExpiry _ | .overloadRetry _ | .coolingFlagClear _ | .cleanRunExpiry _
  | .sampleCompletion _ _ | .stallTimerExpiry _ | .openFlagSet _ | .openFlagClear _ | .pwmPeriodStart
  | .supplyReading _ | .supplyRecovery _ | .onPhaseStart | .onPhaseExpiry | .lineReading _ _
  | .debounceChange _ | .unbiasedStepEnd _ | .biasedStepEnd _ | .powerOn | .resetAssert | .csnFall
  | .storeWriteCompletion _ | .unknownKindFrame _ _ => none

/-- A whole frame: byte 0, byte 1, 17 bytes of body filled with 00h, and the CRC (R149, R151). -/
def frameOf (kind : Byte) (h : Header) (body : List Byte) : List Byte :=
  let front := kind :: headerByte h :: fillTo 17 body
  front ++ [crc8 front]

/-- The frame of a request or of an unknown kind; an event of the part has none. -/
def encodeFrame : Instr → Option (List Byte)
  | .unknownKindFrame kind h => some (frameOf kind h [])
  | i => (requestParts i).map (fun p => frameOf p.1.code p.2.1 p.2.2)

end Sys2Proof
end

