-- ==== Sys2Proof/Machine/Blocks.lean ====
section
/-!
DEFINITION. The state of each block of the part, as plain data. The configuration in force is kept apart, in the shape
of the image (`Configuration`), so that a block's structure holds only what its own events change.
-/

namespace Sys2Proof.Machine

/-- The fields of a LIVE or LAPSED record (R7). -/
structure Demand where
  owner   : SlotNo
  load    : LoadNo
  channel : Ch
  level   : Level
  cls     : Cls
  hold    : Nat
  deriving DecidableEq, Repr, Inhabited

/-- A demand record: FREE, LIVE with its remaining time when it has a hold, or LAPSED with its grace (R7). -/
inductive Record where
  | free
  | live (d : Demand) (remaining : Option Nat)
  | lapsed (d : Demand) (grace : Nat)
  deriving DecidableEq, Repr, Inhabited

/-- Why a channel waits; a wait for the pair holds its start (R53, R56). -/
inductive WaitCause where
  | cooling
  | interlock (since : Nat)
  | budget
  deriving DecidableEq, Repr

/-- The seven channel states (R53). -/
inductive ChanState where
  | disabled | off
  | waiting (cause : WaitCause)
  | inrush | on | tripped | latched
  deriving DecidableEq, Repr

/-- One channel: the pair of values the Channel Resolver holds for it (R41), its Channel Sequencer (R53), whether its
gate has taken up its DIM duty at a period start (R55), and those parts of its Channel Monitor that its Sequencer's own
events set: its open-load counter and flag (R96, R97) and its stall timer (R58, R95). -/
structure Channel where
  wanted      : Level
  cls         : Option Cls
  state       : ChanState
  applied     : Level
  reservation : Nat
  retries     : Nat
  lastFault   : Option FaultKind
  cooling     : Bool
  upgrade     : Bool
  lastShed    : Option ShedCause
  inrushTimer : Option Nat
  retryTimer  : Option Nat
  cleanTimer  : Option Nat
  pwmSettled  : Bool
  openCount   : Nat
  openFlag    : Bool
  stallTimer  : Nat
  deriving DecidableEq, Repr

/-- The rest of a channel's Channel Monitor (chapter 04, table): heat accumulator H, warn flag, last on-sample. -/
structure Monitor where
  heat       : Nat
  warn       : Bool
  lastI      : Nat
  deriving DecidableEq, Repr

/-- The holder of an interlock pair (R75). -/
inductive Holder where
  | none | a | b
  deriving DecidableEq, Repr

/-- The part of an interlock pair that is not configuration (R75). -/
structure PairState where
  holder : Holder
  dead   : Option Nat
  deriving DecidableEq, Repr

/-- The two kinds of queue entry (R104). -/
inductive EntryKind where
  | fresh | upgrade
  deriving DecidableEq, Repr

/-- An entry of an admission queue; its class and needed amount are those of its channel (R104). -/
structure Entry where
  ch   : Ch
  kind : EntryKind
  deriving DecidableEq, Repr

/-- A feed's Feed Admission Unit, less its budget (R102). -/
structure FeedState where
  committed : Nat
  queue     : List Entry
  admitted  : List Ch
  deriving DecidableEq, Repr

/-- The phases of a flash cycle (R122). -/
inductive Phase where
  | on | off
  deriving DecidableEq, Repr

/-- The rates of a flash cycle (R122). -/
inductive Rate where
  | normal | fast
  deriving DecidableEq, Repr

/-- The cycle in progress of a RUNNING Flash Generator (R122). -/
structure Cycle where
  phase  : Phase
  timer  : Nat
  rate   : Rate
  onLen  : Nat
  offLen : Nat
  deriving DecidableEq, Repr

/-- The result of one channel's output check (R139). -/
inductive CheckResult where
  | notTested | ok | openLoad | shortToSupply
  deriving DecidableEq, Repr

/-- The steps of a channel's test (R139). -/
inductive TestStep where
  | unbiased | biased
  deriving DecidableEq, Repr

/-- A test in progress: the channel under test, the step and its timer (R139). -/
structure Test where
  ch    : Ch
  step  : TestStep
  timer : Nat
  deriving DecidableEq, Repr

/-- A run in progress (R139). Between events a run always has a channel under test (R141). -/
structure Run where
  selection : ChSet
  test      : Test
  deriving DecidableEq, Repr

/-- The Output Check Unit; no run is run state IDLE (R139). -/
structure Check where
  run      : Option Run
  results  : Vector CheckResult 16
  untested : Nat
  deriving DecidableEq, Repr

/-- The Notice Unit, less its enable set, which is configuration (chapter 09, Notice Unit table). -/
structure Notice where
  kinds   : KindSet
  changed : ChSet
  warn    : ChSet
  openSet : ChSet
  deriving DecidableEq, Repr

/-- What decides and drives: the channels, the pairs, the feeds, the Flash Generator (`none` is STOPPED), the Output
Check Unit and the Notice Unit. Admissions, sheds, trips and releases change these and nothing else. -/
structure Drive where
  chans  : Vector Channel 16
  pairs  : Vector PairState 8
  feeds  : Vector FeedState 3
  flash  : Option Cycle
  check  : Check
  notice : Notice
  deriving DecidableEq, Repr

/-- The Supply Monitor, less its thresholds, with the latest VSENSE reading (R116, R139). -/
structure Supply where
  low    : Bool
  count  : Nat
  vsense : Nat
  deriving DecidableEq, Repr

/-- A line's debounce filter (R130). -/
structure Line where
  debounced : Bool
  counter   : Nat
  deriving DecidableEq, Repr

/-- A response, less its CRC byte, which is computed (R152). -/
structure Response where
  kind    : Byte
  slotTag : Byte
  status  : Status
  flags   : Byte
  result  : List Byte
  deriving DecidableEq, Repr

/-- The frame assembler (00_scope.md, block table; R147): the rising SCK edges counted, the falling ones, which move SDO
on, and the SDI bits sampled at the first 160 rising edges, first bit first. -/
structure Assembler where
  rises : Nat
  falls : Nat
  bits  : List Bool
  deriving DecidableEq, Repr

/-- The assembler as the fall of CSN leaves it: nothing counted, nothing sampled (R147). -/
def Assembler.start : Assembler := { rises := 0, falls := 0, bits := [] }

/-- The CSN pin as the Control Link takes it: high; low with a frame in progress, shifting out the response that stood
when CSN fell while the assembler takes the bits that come in; or low with no frame counted, CSN having fallen before
power-on completed (R147, R148). -/
inductive Csn where
  | high
  | frame (shifting : Response) (taken : Assembler)
  | lowUncounted
  deriving DecidableEq, Repr

/-- The Control Link: its pending response and the frame in progress (R147, R148). -/
structure Link where
  response : Response
  csn      : Csn
  deriving DecidableEq, Repr

/-- The non-volatile image: its contents and its check value (R166). -/
structure Image where
  contents : Configuration
  check    : BitVec 16
  deriving DecidableEq, Repr

/-- The last store result (R166). -/
inductive StoreResult where
  | none | inFlight | ok | failed
  deriving DecidableEq, Repr

/-- The Configuration Store. `writing` holds the contents taken while a store is in flight (R166, R167). -/
structure Store where
  image   : Image
  valid   : Bool
  writing : Option Configuration
  result  : StoreResult
  deriving DecidableEq, Repr

end Sys2Proof.Machine
end

