-- ==== Sys2Proof/Machine/Start.lean ====
section
/-!
DEFINITION. The values of power-on: the defaults loaded with an invalid image (R49, R171) and what each block takes
(R28, R47, R81, R100, R120, R129, R138, R146, R148, R165, R171).
-/

namespace Sys2Proof.Machine

/-- The field defaults of R49, configured flag clear (R52). -/
def defaultChannel : ChannelConfig :=
  { feed := .a, iNom := 1, iRate := 1, k := 8, peakLimit := 1023, inrushLimit := 1023, inrushFactor := 1,
    inrushWindow := 0, loadType := .heater, openLoadLevel := 0, stallLevel := 1023, stallTime := 255,
    retryLimit := 0, outageWatch := false, lockAtStart := true, configured := false }

/-- The defaults loaded with an invalid image (R171). -/
def defaultConfiguration : Configuration :=
  { channels := Vector.replicate 16 defaultChannel
    loads    := Vector.replicate 32 { enabled := false, channel := 0, permitted := 0#11 }
    quota0   := 8
    slots    := Vector.replicate 10 { enabled := false, quota := 0, ceiling := 1 }
    budgets  := Vector.replicate 3 0
    pairs    := Vector.replicate 8 { enabled := false, a := 0, b := 0 }
    bindings := Vector.replicate 4 { enabled := false, polarity := .activeHigh, load := 0, level := .off, cls := 0 }
    period   := 67
    uv       := 180
    recovery := 200
    enable   := 0#8 }

/-- The reload value of the stall timer (R95). -/
def stallReload (cfg : ChannelConfig) : Nat := cfg.stallTime * 10

/-- A channel's state at power-on: DISABLED when unconfigured or locked at start, OFF otherwise (R81). -/
def startState (cfg : ChannelConfig) : ChanState :=
  if cfg.configured && !cfg.lockAtStart then .off else .disabled

/-- A channel at power-on (R47, R81, R100). -/
def startChannel (cfg : ChannelConfig) : Channel :=
  { wanted := .off, cls := none, state := startState cfg, applied := .off, reservation := 0, retries := 0,
    lastFault := none, cooling := false, upgrade := false, lastShed := none, inrushTimer := none,
    retryTimer := none, cleanTimer := none, pwmSettled := false, openCount := 0, openFlag := false,
    stallTimer := stallReload cfg }

/-- A channel's monitor at power-on (R100). -/
def startMonitor : Monitor := { heat := 0, warn := false, lastI := 0 }

/-- A line's filter at power-on: the level at which the line is inactive, counter 20 (R138). -/
def startLine (b : Binding) : Line :=
  { debounced := decide (b.polarity = .activeLow), counter := 20 }

/-- The Notice Unit at power-on: nothing pending, or STORE alone with an invalid image (R165, R171). -/
def startNotice (valid : Bool) : Notice :=
  { kinds := if valid then 0#8 else 0x80#8, changed := 0#16, warn := 0#16, openSet := 0#16 }

/-- The drive side at power-on (R81, R120, R129, R146, R165). -/
def startDrive (conf : Configuration) (valid : Bool) : Drive :=
  { chans  := Vector.ofFn (fun c : Ch => startChannel conf.channels[c])
    pairs  := Vector.replicate 8 { holder := .none, dead := none }
    feeds  := Vector.replicate 3 { committed := 0, queue := [], admitted := [] }
    flash  := none
    check  := { run := none, results := Vector.replicate 16 .notTested, untested := 0 }
    notice := startNotice valid }

/-- NO_RESPONSE (R148). -/
def noResponse : Response :=
  { kind := 0#8, slotTag := 0#8, status := .ok, flags := 0#8, result := List.replicate 15 0#8 }

/-- The length of a PWM period in ms (R55). -/
def pwmPeriod : Nat := 5

end Sys2Proof.Machine
end

