-- ==== Sys2Proof/Machine/State.lean ====
section
/-!
DEFINITION. The state of the whole part, the reasons a step could stop, and the state right after reset.
-/

namespace Sys2Proof.Machine

/-- The part. -/
structure State where
  /-- Commands waiting, first in, first out. -/
  pending   : List Instr
  /-- Milliseconds since power-on: the present time of R56. -/
  now       : Nat
  /-- Held in reset: RESETN low or VSUPPLY below its operating level (R171). -/
  inReset   : Bool
  link      : Link
  /-- The configuration in force (R166). -/
  conf      : Configuration
  /-- The demand records (R7). -/
  records   : Vector Record 64
  /-- The held count of each slot (R2). -/
  held      : Vector Nat 12
  /-- The demand list of each channel, rank 0 first (R36). -/
  lists     : Vector (List Handle) 16
  monitors  : Vector Monitor 16
  drive     : Drive
  supply    : Supply
  lines     : Vector Line 4
  store     : Store
  /-- Milliseconds to the next PWM period start (R55). -/
  pwmLeft   : Nat
  /-- How many free values have been taken (log entry 10); the model's own. -/
  freeCount : Nat
  deriving DecidableEq, Repr

/-- No fault stops the part: the manual gives none. Trips are effects on State (R66). Safe: nothing is cut off. -/
inductive Fault where
  deriving DecidableEq, Repr

/-- Why a command could have no meaning. -/
inductive Refusal where
  /-- Raised by `exec` alone, for a row that has no meaning yet; no arm raises it. Safe: it stops the run. -/
  | notModelled (mnemonic : String)
  deriving DecidableEq, Repr

/-- An image whose check value disagrees: a part that was never stored (log entry 7). -/
def blankImage : Image :=
  { contents := defaultConfiguration, check := Config.checkValue defaultConfiguration + 1 }

/-- The part right after the power-on of R171 with an invalid image (log entry 7). -/
def State.reset : State :=
  { pending   := []
    now       := 0
    inReset   := false
    link      := { response := noResponse, csn := .high }
    conf      := defaultConfiguration
    records   := Vector.replicate 64 .free
    held      := Vector.replicate 12 0
    lists     := Vector.replicate 16 []
    monitors  := Vector.replicate 16 startMonitor
    drive     := startDrive defaultConfiguration false
    supply    := { low := true, count := 0, vsense := 0 }
    lines     := Vector.ofFn (fun n : LineNo => startLine defaultConfiguration.bindings[n])
    store     := { image := blankImage, valid := false, writing := none, result := .none }
    pwmLeft   := pwmPeriod
    freeCount := 0 }

end Sys2Proof.Machine
end

