-- ==== Sys2Proof/Machine/Ops.lean ====
section
/-!
DEFINITION. The named operations over the drive side: reservations and the committed sum, the admission queue, the
admitted list, notices, the Flash Generator's start and stop, the Output Check Unit's visits, and the claim and release
of interlock pairs. What they read and never change is the environment: the configuration in force, the monitors, the
present time and the supply-low flag.
-/

namespace Sys2Proof.Machine

/-- What the drive side reads. -/
structure Env where
  conf     : Configuration
  monitors : Vector Monitor 16
  now      : Nat
  low      : Bool

/-- The environment of a state. -/
def State.env (s : State) : Env := ⟨s.conf, s.monitors, s.now, s.supply.low⟩

/-- The channels in ascending order. -/
def allChans : List Ch := [0, 1, 2, 3, 4, 5, 6, 7, 8, 9, 10, 11, 12, 13, 14, 15]

/-- The feeds A, B, C. -/
def allFeeds : List (Fin 3) := [0, 1, 2]

/-- The interlock pairs in ascending order. -/
def allPairs : List PairNo := [0, 1, 2, 3, 4, 5, 6, 7]

def Env.cfg (e : Env) (c : Ch) : ChannelConfig := e.conf.channels[c]

/-- The feed that a channel's feed field names (R49). -/
def Env.feedOf (e : Env) (c : Ch) : Fin 3 := (e.cfg c).feed.index

/-! ### Thresholds (R88) -/

def tTrip (cfg : ChannelConfig) : Nat := cfg.iRate * cfg.iRate * 256
def tWarn (cfg : ChannelConfig) : Nat := cfg.iRate * cfg.iRate * 192
def tCool (cfg : ChannelConfig) : Nat := cfg.iRate * cfg.iRate * 64

/-- H is above T_cool. -/
def Env.hot (e : Env) (c : Ch) : Bool := decide (tCool (e.cfg c) < e.monitors[c].heat)

/-! ### Levels and reservations (R54) -/

/-- The level to apply for a wanted level: FLASH gives STEADY on a channel that is not LAMP (R54). -/
def levelToApply (cfg : ChannelConfig) (wanted : Level) : Level :=
  if wanted = .flash ∧ cfg.loadType ≠ .lamp then .steady else wanted

/-- The steady reservation of a level to apply (R54); OFF holds none (R53). -/
def steadyReservation (cfg : ChannelConfig) : Level → Nat
  | .off => 0
  | .steady => cfg.iNom
  | .flash => cfg.iNom
  | .dim d => (cfg.iNom * d.val + 63) / 64

/-- The inrush reservation (R54). -/
def inrushReservation (cfg : ChannelConfig) : Nat := min 1023 (cfg.iNom * cfg.inrushFactor)

/-- A channel is driven in INRUSH and in ON (R53). -/
def ChanState.driven : ChanState → Bool
  | .inrush | .on => true
  | .disabled | .off | .waiting _ | .tripped | .latched => false

/-- The channel stands in WAITING, whatever the cause. -/
def ChanState.isWaiting : ChanState → Bool
  | .waiting _ => true
  | .disabled | .off | .inrush | .on | .tripped | .latched => false

/-- TRIPPED or LATCHED. -/
def ChanState.faulted : ChanState → Bool
  | .tripped | .latched => true
  | .disabled | .off | .waiting _ | .inrush | .on => false

/-- The channel stands in WAITING(INTERLOCK). -/
def ChanState.waitsForPair : ChanState → Bool
  | .waiting (.interlock _) => true
  | _ => false

/-! ### Updates of one part of the drive side -/

def Drive.modChan (d : Drive) (c : Ch) (g : Channel → Channel) : Drive :=
  { d with chans := d.chans.set c (g d.chans[c]) }

def Drive.modFeed (d : Drive) (f : Fin 3) (g : FeedState → FeedState) : Drive :=
  { d with feeds := d.feeds.set f (g d.feeds[f]) }

def Drive.modPair (d : Drive) (p : PairNo) (g : PairState → PairState) : Drive :=
  { d with pairs := d.pairs.set p (g d.pairs[p]) }

/-! ### Notices (R159) -/

/-- The bit of a notice kind (R153). -/
def kindBit : NoticeKind → KindSet
  | .channel => 0x01#8
  | .lapse => 0x02#8
  | .warn => 0x04#8
  | .openLoad => 0x08#8
  | .supply => 0x10#8
  | .check => 0x20#8
  | .link => 0x40#8
  | .store => 0x80#8

/-- The set that holds one channel (R153). -/
def chBit (c : Ch) : ChSet := 1#16 <<< c.val

/-- A block sets a notice kind (R159). -/
def Drive.setKind (d : Drive) (k : NoticeKind) : Drive :=
  { d with notice := { d.notice with kinds := d.notice.kinds ||| kindBit k } }

/-- The notice of a trip, a latch or a shed: CHANNEL, with the channel in the changed-channel set (R159). -/
def Drive.noteChanged (d : Drive) (c : Ch) : Drive :=
  { d with notice := { d.notice with kinds := d.notice.kinds ||| kindBit .channel,
                                     changed := d.notice.changed ||| chBit c } }

/-- The notice of a warn flag being set (R90, R159). -/
def Drive.noteWarn (d : Drive) (c : Ch) : Drive :=
  { d with notice := { d.notice with kinds := d.notice.kinds ||| kindBit .warn,
                                     warn := d.notice.warn ||| chBit c } }

/-- The notice of an open flag being set: OPEN, with the channel in the open set and the changed-channel set (R97). -/
def Drive.noteOpen (d : Drive) (c : Ch) : Drive :=
  { d with notice := { d.notice with kinds := d.notice.kinds ||| kindBit .openLoad,
                                     openSet := d.notice.openSet ||| chBit c,
                                     changed := d.notice.changed ||| chBit c } }

/-! ### The Flash Generator's membership, start and stop (R122 to R126) -/

/-- A channel is a member while it is driven and its applied level is FLASH (R122). -/
def Channel.flashes (x : Channel) : Bool := x.state.driven && decide (x.applied = .flash)

/-- The member set, ascending (R122). -/
def Drive.members (d : Drive) : List Ch := allChans.filter (fun c => d.chans[c].flashes)

/-- The outage set: members with outage watch whose open flag is set (R126). -/
def Drive.outages (d : Drive) (e : Env) : List Ch :=
  d.members.filter (fun c => (e.cfg c).outageWatch && d.chans[c].openFlag)

/-- The on length of a cycle (R122). -/
def onLength (period : Nat) : Rate → Nat
  | .normal => 10 * period / 2
  | .fast => 10 * period / 2 / 2

/-- The off length of a cycle: the cycle length less the on length (R122). -/
def offLength (period : Nat) : Rate → Nat
  | .normal => 10 * period - onLength period .normal
  | .fast => 10 * period / 2 - onLength period .fast

/-- The cycle that an on-phase start begins, for the outage set and the period setting then in force (R123). -/
def newCycle (e : Env) (d : Drive) : Cycle :=
  let rate : Rate := if (d.outages e).isEmpty then .normal else .fast
  { phase := .on, timer := onLength e.conf.period rate, rate := rate,
    onLen := onLength e.conf.period rate, offLen := offLength e.conf.period rate }

/-- The generator after a join or a leave: the first member starts it with an on phase, and with no member left it
stops (R124). A join or a leave of another member changes nothing (R125). -/
def Drive.syncFlash (d : Drive) (e : Env) : Drive :=
  match d.flash, d.members.isEmpty with
  | none, false => { d with flash := some (newCycle e d) }
  | some _, true => { d with flash := none }
  | none, true => d
  | some _, false => d

/-! ### The feed: reservations, queue, admitted list (R102 to R104) -/

/-- A channel's reservation becomes `r`, and the committed sum of its feed moves by the same amount (R102). -/
def Drive.setReservation (d : Drive) (e : Env) (c : Ch) (r : Nat) : Drive :=
  (d.modFeed (e.feedOf c)
      (fun f => { f with committed := f.committed + r - d.chans[c].reservation })).modChan c
    (fun x => { x with reservation := r })

/-- The free budget of a feed (R102). -/
def Drive.free (d : Drive) (e : Env) (f : Fin 3) : Nat := e.conf.budgets[f] - d.feeds[f].committed

/-- The effective class as a number; none counts as 0. -/
def Channel.rank (x : Channel) : Nat :=
  match x.cls with
  | none => 0
  | some k => k.val

/-- The channel's entry, fresh or upgrade, leaves the queue of its feed (R105). -/
def Drive.leaveQueue (d : Drive) (e : Env) (c : Ch) : Drive :=
  d.modFeed (e.feedOf c) (fun f => { f with queue := f.queue.filter (fun x => x.ch ≠ c) })

/-- The queue with an entry joined behind every entry of its class or a higher one (R104). -/
def queueJoin (rank : Ch → Nat) (x : Entry) (q : List Entry) : List Entry :=
  q.takeWhile (fun y => rank x.ch ≤ rank y.ch) ++ x :: q.dropWhile (fun y => rank x.ch ≤ rank y.ch)

/-- An entry joins the queue of its channel's feed (R104, R105). -/
def Drive.joinQueue (d : Drive) (e : Env) (x : Entry) : Drive :=
  d.modFeed (e.feedOf x.ch)
    (fun f => { f with queue := queueJoin (fun c => d.chans[c].rank) x f.queue })

/-- The needed amount of an entry (R104). -/
def Drive.needed (d : Drive) (e : Env) (x : Entry) : Nat :=
  match x.kind with
  | .fresh => inrushReservation (e.cfg x.ch)
  | .upgrade =>
      steadyReservation (e.cfg x.ch) (levelToApply (e.cfg x.ch) d.chans[x.ch].wanted)
        - d.chans[x.ch].reservation

/-- The channel becomes WAITING(BUDGET) and its fresh entry joins the queue (R56 test 3, R105). -/
def Drive.joinFresh (d : Drive) (e : Env) (c : Ch) : Drive :=
  (d.modChan c (fun x => { x with state := .waiting .budget })).joinQueue e ⟨c, .fresh⟩

/-- A level is applied. The gate keeps its PWM on part only where the level does not change (R55). -/
def Channel.apply (x : Channel) (l : Level) : Channel :=
  { x with applied := l, pwmSettled := x.pwmSettled && decide (x.applied = l) }

/-- A channel goes to, or stays in, a state in which it is not driven: gate off, applied level OFF, reservation 0, the
timers of driving discarded, its queue entry and its place on the admitted list gone, upgrade pending no (R63, R65,
R66, R72), its open flag and counter cleared (R97), and the generator told of the leave (R122). -/
def Drive.undrive (d : Drive) (e : Env) (c : Ch) (target : ChanState) : Drive :=
  let d := d.setReservation e c 0
  let d := d.modChan c (fun x =>
    { x with state := target, applied := .off, pwmSettled := false, inrushTimer := none, cleanTimer := none,
             upgrade := false, openCount := 0, openFlag := false })
  let d := d.modFeed (e.feedOf c) (fun f =>
    { f with queue := f.queue.filter (fun x => x.ch ≠ c), admitted := f.admitted.filter (fun x => x ≠ c) })
  d.syncFlash e

/-! ### The Output Check Unit (R141 to R143) -/

/-- The visit of the next member at or above a channel number: driven members are skipped; after the last member the
run ends and CHECK is set (R141, R142). -/
def Drive.visitFrom (d : Drive) (selection : ChSet) (start : Nat) : Drive :=
  match allChans.find? (fun c => decide (start ≤ c.val) && selection.getLsbD c.val && !d.chans[c].state.driven) with
  | some c => { d with check := { d.check with run := some ⟨selection, ⟨c, .unbiased, 1⟩⟩ } }
  | none => ({ d with check := { d.check with run := none } }).setKind .check

/-- The channel under test becomes driven: its test is abandoned and the next member visited (R143). -/
def Drive.abandonTest (d : Drive) (c : Ch) : Drive :=
  match d.check.run with
  | none => d
  | some r => if r.test.ch = c then d.visitFrom r.selection (c.val + 1) else d

/-! ### Interlock pairs (R75, R76) -/

/-- The enabled pair that a channel is a member of (R75). -/
def Env.pairOf (e : Env) (c : Ch) : Option PairNo :=
  allPairs.find? (fun p => e.conf.pairs[p].enabled && (e.conf.pairs[p].a = c || e.conf.pairs[p].b = c))

/-- Which member of a pair a channel is. -/
def Env.sideOf (e : Env) (p : PairNo) (c : Ch) : Holder := if e.conf.pairs[p].a = c then .a else .b

/-- The length of the dead time in ms (R76). -/
def deadTime : Nat := 50

/-- The holder gives up its pair and the dead time starts; a channel that holds no pair releases nothing (R76). -/
def Drive.releasePair (d : Drive) (e : Env) (c : Ch) : Drive :=
  match e.pairOf c with
  | none => d
  | some p =>
      if d.pairs[p].holder = e.sideOf p c then d.modPair p (fun _ => ⟨.none, some deadTime⟩) else d

end Sys2Proof.Machine
end

