-- ==== Sys2Proof/Machine/Admission.lean ====
section
/-!
DEFINITION. Admission and shedding: what an admitted entry does to its channel (R58, R59, R62, R110), the shed of a
channel (R65), the choice of victims (R109, R113), and the admission pass (R107, R108).
-/

namespace Sys2Proof.Machine

/-- The clean-run time in ms (R59, R69). -/
def cleanRun : Nat := 10000

/-- The channel enters ON: the level to apply for the wanted level in force, its steady reservation, the clean-run
timer started (R59), the open flag and counter clear (R97), the generator told of a join or a leave (R122). -/
def Drive.enterOn (d : Drive) (e : Env) (c : Ch) : Drive :=
  let level := levelToApply (e.cfg c) d.chans[c].wanted
  let d := d.modChan c (fun x =>
    { x.apply level with state := .on, inrushTimer := none, cleanTimer := some cleanRun,
                         openCount := 0, openFlag := false })
  let d := d.setReservation e c (steadyReservation (e.cfg c) level)
  d.syncFlash e

/-- A fresh entry is admitted: the channel goes to INRUSH with its stall timer at its reload, and with a window of 0
straight on to ON (R58, R110; log entry 31). Its output check, if it is under test, is abandoned (R143). -/
def Drive.admitFresh (d : Drive) (e : Env) (c : Ch) : Drive :=
  let level := levelToApply (e.cfg c) d.chans[c].wanted
  let d := d.leaveQueue e c
  let d := d.modFeed (e.feedOf c) (fun f => { f with admitted := f.admitted ++ [c] })
  let d := d.modChan c (fun x =>
    { x with state := .inrush, applied := level, pwmSettled := false,
             inrushTimer := some ((e.cfg c).inrushWindow * 10), stallTimer := stallReload (e.cfg c) })
  let d := d.setReservation e c (inrushReservation (e.cfg c))
  let d := (d.syncFlash e).abandonTest c
  if (e.cfg c).inrushWindow = 0 then d.enterOn e c else d

/-- An upgrade entry is admitted: the larger level is applied and its reservation held (R62, R110). -/
def Drive.admitUpgrade (d : Drive) (e : Env) (c : Ch) : Drive :=
  let level := levelToApply (e.cfg c) d.chans[c].wanted
  let reservation := d.chans[c].reservation + d.needed e ⟨c, .upgrade⟩
  let d := d.leaveQueue e c
  let d := d.modChan c (fun x => { x.apply level with upgrade := false })
  let d := d.setReservation e c reservation
  d.syncFlash e

/-- An entry is admitted (R110). -/
def Drive.letIn (d : Drive) (e : Env) (x : Entry) : Drive :=
  match x.kind with
  | .fresh => d.admitFresh e x.ch
  | .upgrade => d.admitUpgrade e x.ch

/-- A driven channel is shed: it becomes WAITING(BUDGET) with a fresh entry at the end of its class group, and the
changed-channel set and CHANNEL are set (R65). -/
def Drive.shed (d : Drive) (e : Env) (c : Ch) (cause : ShedCause) : Drive :=
  let d := d.undrive e c (.waiting .budget)
  let d := d.modChan c (fun x => { x with lastShed := some cause })
  let d := d.joinQueue e ⟨c, .fresh⟩
  d.noteChanged c

/-- The victim among a list of channels: lowest class first, and within one class the last of the list (R109). -/
def lastOfLowest (rank : Ch → Nat) (l : List Ch) : Option Ch :=
  l.foldl (fun best c =>
    match best with
    | none => some c
    | some b => if rank c ≤ rank b then some c else some b) none

/-- The admitted channels of a feed whose class is below `bound` (R108). -/
def Drive.below (d : Drive) (f : Fin 3) (bound : Nat) : List Ch :=
  d.feeds[f].admitted.filter (fun c => d.chans[c].rank < bound)

/-- The available amount for an entry of class `bound` (R108 test 3). -/
def Drive.available (d : Drive) (e : Env) (f : Fin 3) (bound : Nat) : Nat :=
  d.free e f + ((d.below f bound).map (fun c => d.chans[c].reservation)).sum

/-- Victims of class below `bound` are shed one at a time until `need` is at or below the free budget (R109). At most
`fuel` are shed, as many as the admitted list is long. -/
def Drive.shedFor (e : Env) (f : Fin 3) (bound need : Nat) : Nat → Drive → Drive
  | 0, d => d
  | fuel + 1, d =>
      if need ≤ d.free e f then d
      else match lastOfLowest (fun c => d.chans[c].rank) (d.below f bound) with
        | none => d
        | some v => Drive.shedFor e f bound need fuel (d.shed e v .budget)

/-- Channels of any class are shed in victim order until the committed sum is at or below the budget, at most `fuel` of
them (R113). -/
def Drive.shedDown (e : Env) (f : Fin 3) : Nat → Drive → Drive
  | 0, d => d
  | fuel + 1, d =>
      if d.feeds[f].committed ≤ e.conf.budgets[f] then d
      else match lastOfLowest (fun c => d.chans[c].rank) d.feeds[f].admitted with
        | none => d
        | some v => Drive.shedDown e f fuel (d.shed e v .budget)

/-- The visit of one entry: the supply test, the fit test, and preemption, all or nothing; after the sheds the free
budget is tested again (R108, R109). -/
def Drive.visit (d : Drive) (e : Env) (f : Fin 3) (x : Entry) : Drive :=
  let cls := d.chans[x.ch].rank
  let need := d.needed e x
  if e.low = true ∧ cls ≤ 1 then d
  else if need ≤ d.free e f then d.letIn e x
  else if need ≤ d.available e f cls then
    let shed := Drive.shedFor e f cls need d.feeds[f].admitted.length d
    if need ≤ shed.free e f then shed.letIn e x else shed
  else d

/-- The walk of a pass: the first entry whose channel has not been visited is visited next; victims shed meanwhile
stand behind it (R107). -/
def Drive.passLoop (e : Env) (f : Fin 3) : Nat → List Ch → Drive → Drive
  | 0, _, d => d
  | fuel + 1, seen, d =>
      match d.feeds[f].queue.find? (fun x => !seen.contains x.ch) with
      | none => d
      | some x => Drive.passLoop e f fuel (x.ch :: seen) (d.visit e f x)

/-- An admission pass of a feed: each of the 16 channels is visited at most once (R107). -/
def Drive.pass (d : Drive) (e : Env) (f : Fin 3) : Drive := Drive.passLoop e f 16 [] d

/-- The pass of a channel's feed, where the event calls for one (R106). -/
def Drive.passIf (e : Env) (c : Ch) (r : Drive × Bool) : Drive :=
  if r.2 then r.1.pass e (e.feedOf c) else r.1

/-- Passes on the feeds of a list, in the order A, B, C (R106; log entry 16). -/
def Drive.passes (d : Drive) (e : Env) (due : List (Fin 3)) : Drive :=
  allFeeds.foldl (fun d f => if due.contains f then d.pass e f else d) d

end Sys2Proof.Machine
end

