-- ==== Sys2Proof/Machine/Sequencer.lean ====
section
/-!
DEFINITION. The Channel Sequencer's shared operations: the switch-on path (R56), going to OFF (R63), the handing over of
a new wanted level and class (R60, R61, R64), trips (R66), and the pair arbiter (R77). An operation that may call for an
admission pass answers whether it does; the pass runs after the event's own change (R106).
-/

namespace Sys2Proof.Machine

/-- The retry time in ms after SHORT or STALL (R67). -/
def retryTime : Nat := 1000

/-- Test 2 of the switch-on path, then test 3 (R56, R76). -/
def Drive.interlockTest (d : Drive) (e : Env) (c : Ch) : Drive × Bool :=
  match e.pairOf c with
  | none => (d.joinFresh e c, true)
  | some p =>
      let holder := d.pairs[p].holder
      if holder = e.sideOf p c ∨ (holder = .none ∧ d.pairs[p].dead = none) then
        ((d.modPair p (fun x => { x with holder := e.sideOf p c })).joinFresh e c, true)
      else (d.modChan c (fun x => { x with state := .waiting (.interlock e.now) }), false)

/-- The switch-on path from its first test (R56). -/
def Drive.switchOn (d : Drive) (e : Env) (c : Ch) : Drive × Bool :=
  if d.chans[c].cooling = true ∧ e.hot c = true then
    (d.modChan c (fun x => { x with state := .waiting .cooling }), false)
  else d.interlockTest e c

/-- The cooling flag of a channel that leaves its state by wanted OFF, CLEAR FAULT or LOCK (R70). -/
def Channel.coolingOnLeave (x : Channel) (hot : Bool) : Bool := x.cooling || (x.state.faulted && hot)

/-- A channel goes to OFF because its wanted level became OFF (R63). -/
def Drive.goOff (d : Drive) (e : Env) (c : Ch) : Drive × Bool :=
  let released := decide (d.chans[c].reservation ≠ 0)
  let d := d.modChan c (fun x =>
    { x with cooling := x.coolingOnLeave (e.hot c), retries := 0, lastFault := none, retryTimer := none })
  let d := d.undrive e c .off
  (d.releasePair e c, released)

/-- The channel's entry moves to the end of its class group (R105, move by class change). -/
def Drive.requeue (d : Drive) (e : Env) (c : Ch) : Drive :=
  match d.feeds[e.feedOf c].queue.find? (fun x => x.ch = c) with
  | none => d
  | some x => (d.leaveQueue e c).joinQueue e x

/-- A channel in ON takes a new wanted level that is not OFF, already recorded: at once, or as an upgrade (R61). -/
def Drive.levelInOn (d : Drive) (e : Env) (c : Ch) : Drive × Bool :=
  let level := levelToApply (e.cfg c) d.chans[c].wanted
  let steady := steadyReservation (e.cfg c) level
  let present := d.chans[c].reservation
  let d := d.leaveQueue e c
  if steady ≤ present then
    let d := d.modChan c (fun x => { x.apply level with upgrade := false })
    let d := d.setReservation e c steady
    (d.syncFlash e, decide (steady < present))
  else
    let d := d.modChan c (fun x => { x with upgrade := true })
    (d.joinQueue e ⟨c, .upgrade⟩, true)

/-- The new class of a channel, already recorded, reaches its feed: a queued entry moves, and a driven channel calls
for a pass (R64, R105, R106). -/
def Drive.classInFeed (d : Drive) (e : Env) (c : Ch) : Drive × Bool :=
  match d.chans[c].state with
  | .waiting .budget => (d.requeue e c, true)
  | .inrush => (d, true)
  | .on => (d.requeue e c, true)
  | .disabled | .off | .waiting .cooling | .waiting (.interlock _) | .tripped | .latched => (d, false)

/-- The Channel Sequencer takes a wanted level and an effective class (R42, R60, R64). The class is recorded first; a
driven channel whose class falls to 0 or 1 while supply-low is set is shed unless its wanted level is OFF. -/
def Drive.takePair (d : Drive) (e : Env) (c : Ch) (wanted : Level) (cls : Option Cls) : Drive × Bool :=
  let old := d.chans[c]
  let newLevel := decide (wanted ≠ old.wanted)
  let newClass := decide (cls ≠ old.cls)
  let d := d.modChan c (fun x => { x with wanted := wanted, cls := cls })
  if newLevel = true ∧ wanted = .off then
    match old.state with
    | .disabled | .off => (d, false)
    | .waiting _ | .inrush | .on | .tripped | .latched => d.goOff e c
  else if newClass = true ∧ old.state.driven = true ∧ e.low = true ∧ d.chans[c].rank ≤ 1 then
    (d.shed e c .undervolt, true)
  else
    let r : Drive × Bool := if newClass then d.classInFeed e c else (d, false)
    if newLevel then
      match old.state with
      | .off => r.1.switchOn e c
      | .on => let q := r.1.levelInOn e c; (q.1, r.2 || q.2)
      | .disabled | .waiting _ | .inrush | .tripped | .latched => r
    else r

/-- Several channels take their new pairs, one after the other, and then each feed that is due runs its pass (R43, R106;
log entry 16). -/
def Drive.takePairs (d : Drive) (e : Env) (news : List (Ch × Level × Option Cls)) : Drive :=
  let r := news.foldl (fun (acc : Drive × List (Fin 3)) n =>
    let q := acc.1.takePair e n.1 n.2.1 n.2.2
    (q.1, if q.2 then e.feedOf n.1 :: acc.2 else acc.2)) (d, [])
  r.1.passes e r.2

/-- A trip of a driven channel, with its kind (R66, R67, R68). -/
def Drive.trip (d : Drive) (e : Env) (c : Ch) (kind : FaultKind) : Drive :=
  let retry := decide (d.chans[c].retries < (e.cfg c).retryLimit)
  let d := d.undrive e c (if retry then .tripped else .latched)
  let d := d.modChan c (fun x =>
    { x with lastFault := some kind,
             retries := if retry then x.retries + 1 else x.retries,
             retryTimer := if retry && decide (kind ≠ .overload) then some retryTime else none })
  let d := if retry then d else d.releasePair e c
  (d.noteChanged c).pass e (e.feedOf c)

/-- The channel goes to DISABLED by LOCK (R72). -/
def Drive.lock (d : Drive) (e : Env) (c : Ch) : Drive :=
  let released := decide (d.chans[c].reservation ≠ 0)
  let d := d.modChan c (fun x =>
    { x with cooling := x.coolingOnLeave (e.hot c), retries := 0, retryTimer := none })
  let d := d.undrive e c .disabled
  Drive.passIf e c (d.releasePair e c, released)

/-- A DISABLED channel goes to OFF by UNLOCK, and enters the switch-on path if its wanted level is not OFF (R73). -/
def Drive.unlock (d : Drive) (e : Env) (c : Ch) : Drive :=
  let d := d.modChan c (fun x => { x with state := .off, retries := 0, lastFault := none })
  if d.chans[c].wanted = .off then d else Drive.passIf e c (d.switchOn e c)

/-- CLEAR FAULT of a TRIPPED or LATCHED channel (R71). -/
def Drive.clearFault (d : Drive) (e : Env) (c : Ch) : Drive :=
  let d := d.modChan c (fun x =>
    { x with cooling := x.coolingOnLeave (e.hot c), retries := 0, lastFault := none, retryTimer := none })
  Drive.passIf e c (d.switchOn e c)

/-- The retry of a TRIPPED channel: the switch-on path from test 1, with c and the last fault kept (R56, R67). A cooling
flag that still stands with H above T_cool holds a SHORT or STALL retry back, where R56 says that the flag is clear at a
retry and R67 that heat does not delay one (log entry 37). -/
def Drive.retry (d : Drive) (e : Env) (c : Ch) : Drive :=
  let d := d.modChan c (fun x => { x with retryTimer := none })
  Drive.passIf e c (d.switchOn e c)

/-- The cooling flag clears; a channel in WAITING(COOLING) goes on at the interlock test (R70, R92). -/
def Drive.clearCooling (d : Drive) (e : Env) (c : Ch) : Drive :=
  let d := d.modChan c (fun x => { x with cooling := false })
  if d.chans[c].state = .waiting .cooling then Drive.passIf e c (d.interlockTest e c) else d

/-- The inrush timer of an INRUSH channel expires; a pass runs on what it releases, if anything (R59, R111). -/
def Drive.endInrush (d : Drive) (e : Env) (c : Ch) : Drive :=
  let held := d.chans[c].reservation
  let d := d.enterOn e c
  Drive.passIf e c (d, decide (d.chans[c].reservation ≠ held))

/-! ### The pair arbiter and SET INTERLOCK (R77, R78) -/

/-- The wait start of a member in WAITING(INTERLOCK). -/
def ChanState.waitStart : ChanState → Option Nat
  | .waiting (.interlock since) => some since
  | _ => none

/-- The member the arbiter grants: the only one that waits, or of two the higher class, then the earlier wait start,
then the lower channel number (R77). -/
def Drive.arbiterChoice (d : Drive) (a b : Ch) : Option Ch :=
  match d.chans[a].state.waitStart, d.chans[b].state.waitStart with
  | none, none => none
  | some _, none => some a
  | none, some _ => some b
  | some sa, some sb =>
      if d.chans[b].rank < d.chans[a].rank then some a
      else if d.chans[a].rank < d.chans[b].rank then some b
      else if sa < sb then some a
      else if sb < sa then some b
      else if a ≤ b then some a else some b

/-- The arbiter acts on a pair with no holder and no dead time; a granted member goes on at the budget test (R77). -/
def Drive.arbitrate (d : Drive) (e : Env) (p : PairNo) : Drive × List (Fin 3) :=
  match d.arbiterChoice e.conf.pairs[p].a e.conf.pairs[p].b with
  | none => (d, [])
  | some c => ((d.modPair p (fun x => { x with holder := e.sideOf p c })).joinFresh e c, [e.feedOf c])

/-- A channel that SET INTERLOCK makes a holder when neither member is driven (R78). -/
def ChanState.claims : ChanState → Bool
  | .waiting .budget | .tripped => true
  | .disabled | .off | .waiting .cooling | .waiting (.interlock _) | .inrush | .on | .latched => false

/-- The holder that SET INTERLOCK sets for an enabled pair (R78). -/
def Drive.holderFor (d : Drive) (a b : Ch) : Holder :=
  if d.chans[a].state.driven then .a
  else if d.chans[b].state.driven then .b
  else match d.chans[a].state.claims, d.chans[b].state.claims with
    | true, true => if a ≤ b then .a else .b
    | true, false => .a
    | false, true => .b
    | false, false => .none

/-- A member in WAITING(BUDGET) that is not made the holder waits for the pair instead (R78). -/
def Drive.displace (d : Drive) (e : Env) (c : Ch) : Drive :=
  if d.chans[c].state = .waiting .budget then
    (d.leaveQueue e c).modChan c (fun x => { x with state := .waiting (.interlock e.now) })
  else d

/-- A channel that is no longer a member of the pair and stands in WAITING(INTERLOCK) goes on at the budget test
(R78). -/
def Drive.leavePair (d : Drive) (e : Env) (c : Ch) : Drive × List (Fin 3) :=
  if d.chans[c].state.waitsForPair then (d.joinFresh e c, [e.feedOf c]) else (d, [])

/-- The effect of a taken SET INTERLOCK on the pair and its members; `e` holds the new configuration and `old` is the
pair as it was (R78). -/
def Drive.setPair (d : Drive) (e : Env) (p : PairNo) (old : PairConfig) : Drive :=
  let new := e.conf.pairs[p]
  let holder := if new.enabled then d.holderFor new.a new.b else .none
  let d := d.modPair p (fun _ => ⟨holder, none⟩)
  let d := if new.enabled ∧ holder = .b then d.displace e new.a else d
  let d := if new.enabled ∧ holder = .a then d.displace e new.b else d
  let r1 : Drive × List (Fin 3) := if new.enabled ∧ holder = .none then d.arbitrate e p else (d, [])
  let isMember (c : Ch) : Bool := new.enabled && (decide (c = new.a) || decide (c = new.b))
  let r2 : Drive × List (Fin 3) :=
    if old.enabled && !isMember old.a then r1.1.leavePair e old.a else (r1.1, [])
  let r3 : Drive × List (Fin 3) :=
    if old.enabled && !isMember old.b then r2.1.leavePair e old.b else (r2.1, [])
  r3.1.passes e (r1.2 ++ r2.2 ++ r3.2)

end Sys2Proof.Machine
end

