-- ==== Sys2Proof/Machine/Flags.lean ====
section
/-!
DEFINITION. The flags and packed codes that requests answer with: status codes (R152), adjustment flags (R10, R152),
state and fault codes (R153, R157, R161), the heat level (R91), and sets of channels, kinds, slots and handles (R153).
-/

namespace Sys2Proof.Machine

/-- The code of a status (R152). -/
def statusCode : Status → Byte
  | .ok => 0x00#8 | .frameCheck => 0x01#8 | .unknownKind => 0x02#8 | .notPermitted => 0x03#8
  | .noLoad => 0x04#8 | .noRecord => 0x05#8 | .tableFull => 0x06#8 | .quotaFull => 0x07#8
  | .listFull => 0x08#8 | .badValue => 0x09#8 | .wrongState => 0x0A#8 | .busy => 0x0B#8

/-- The adjustment flags: bit 0 CLASS_LOWERED, bit 1 HOLD_CLAMPED, bit 2 DUTY_CLAMPED (R152). -/
def adjustFlags (classLowered holdClamped dutyClamped : Bool) : Byte :=
  (if classLowered then 0x01#8 else 0#8) ||| (if holdClamped then 0x02#8 else 0#8) |||
    (if dutyClamped then 0x04#8 else 0#8)

/-- A number as a result byte. -/
def numByte (n : Nat) : Byte := BitVec.ofNat 8 n

/-- A number as two result bytes, high byte first (R153). -/
def numWord (n : Nat) : List Byte := wordBytes (BitVec.ofNat 16 n)

/-- A yes/no item of a result (R153). -/
def flagByte (b : Bool) : Byte := if b then 0x01#8 else 0x00#8

/-- High and low four bits of a byte. -/
def nibbles (hi lo : Nat) : Byte := BitVec.ofNat 8 (hi * 16 + lo)

/-- The code of a channel state (R153). -/
def stateCode : ChanState → Nat
  | .disabled => 0 | .off => 1 | .waiting _ => 2 | .inrush => 3 | .on => 4 | .tripped => 5 | .latched => 6

/-- The code of a wait cause, Fh when none is present (R153). -/
def causeCode : ChanState → Nat
  | .waiting .cooling => 0 | .waiting (.interlock _) => 1 | .waiting .budget => 2
  | .disabled | .off | .inrush | .on | .tripped | .latched => 15

/-- A channel state with its wait cause (R153). -/
def stateByte (s : ChanState) : Byte := nibbles (stateCode s) (causeCode s)

/-- A level item: mode byte, then duty byte, 00h for modes other than DIM (R153). -/
def levelItem : Level → List Byte
  | .off => [0x00#8, 0x00#8]
  | .steady => [0x01#8, 0x00#8]
  | .flash => [0x02#8, 0x00#8]
  | .dim d => [0x03#8, numByte d.val]

/-- The load type bits of CHANNEL STATUS, 3 for an unconfigured channel (R157). -/
def loadTypeBits (cfg : ChannelConfig) : Nat :=
  if cfg.configured then
    match cfg.loadType with
    | .lamp => 0
    | .motor => 1
    | .heater => 2
  else 3

/-- The last fault bits of CHANNEL STATUS (R157). -/
def faultBits : Option FaultKind → Nat
  | none => 0
  | some .short => 1
  | some .overload => 2
  | some .stall => 3

/-- The last-shed cause bits of CHANNEL STATUS (R157). -/
def shedBits : Option ShedCause → Nat
  | none => 0
  | some .budget => 1
  | some .undervolt => 2

/-- The heat level (R91). -/
def heatLevel (cfg : ChannelConfig) (heat : Nat) : Nat := min 255 (heat * 100 / tTrip cfg)

/-- The code of a record state (R153). -/
def recordCode : Record → Byte
  | .free => 0x00#8
  | .live _ _ => 0x01#8
  | .lapsed _ _ => 0x02#8

/-- The code of a pair's holder (R153). -/
def holderCode : Holder → Byte
  | .none => 0x00#8
  | .a => 0x01#8
  | .b => 0x02#8

/-- The code of the last store result (R161). -/
def storeCode : StoreResult → Byte
  | .none => 0x00#8
  | .inFlight => 0x01#8
  | .ok => 0x02#8
  | .failed => 0x03#8

/-- The two result bits of a channel in CHECK RESULTS (R158). -/
def checkBits : CheckResult → Nat
  | .notTested => 0
  | .ok => 1
  | .openLoad => 2
  | .shortToSupply => 3

/-- The number whose bit n is set for the n-th true of a list. -/
def bitsOf : List Bool → Nat
  | [] => 0
  | b :: rest => (if b then 1 else 0) + 2 * bitsOf rest

end Sys2Proof.Machine
end

