-- ==== Sys2Proof/Machine/Operands.lean ====
section
/-!
DEFINITION. The operand forms of the requests: numbers with a range, levels, feeds, load types and polarities as R153
encodes them, the clamps of R10 and the value checks of R11 and R135.
-/

namespace Sys2Proof.Machine

/-- A numbered thing, where the byte names one. -/
def numOf (n : Nat) (b : Byte) : Option (Fin n) :=
  if h : b.toNat < n then some ⟨b.toNat, h⟩ else none

def chOf (b : Byte) : Option Ch := numOf 16 b
def loadOf (b : Byte) : Option LoadNo := numOf 32 b
def handleOf (b : Byte) : Option Handle := numOf 64 b
def pairOfByte (b : Byte) : Option PairNo := numOf 8 b
def lineOf (b : Byte) : Option LineNo := numOf 4 b
def clsOf (b : Byte) : Option Cls := numOf 4 b

/-- A yes/no field: 00h no, any other value yes (R153). -/
def yes (b : Byte) : Bool := decide (b ≠ 0#8)

/-- The feed a byte names (R153). -/
def feedOfByte (b : Byte) : Option Feed :=
  if b = 0x00#8 then some .a else if b = 0x01#8 then some .b else if b = 0x02#8 then some .c else none

/-- The load type a byte names (R153). -/
def loadTypeOf (b : Byte) : Option LoadType :=
  if b = 0x00#8 then some .lamp else if b = 0x01#8 then some .motor
  else if b = 0x02#8 then some .heater else none

/-- The polarity a byte names (R153). -/
def polarityOf (b : Byte) : Option Polarity :=
  if b = 0x00#8 then some .activeHigh else if b = 0x01#8 then some .activeLow else none

/-- A permission set, unless it names a slot above 10 (R32, R153 note 1). -/
def slotSetOf (w : Word16) : Option SlotSet :=
  if w.toNat < 2048 then some (w.setWidth 11) else none

/-- The level a parameter names with duties 1 to 63 for DIM and nothing clamped (R135 check 4, R153). -/
def exactLevel (p : LevelParam) : Option Level :=
  if p.mode = 0x00#8 then some .off
  else if p.mode = 0x01#8 then some .steady
  else if p.mode = 0x02#8 then some .flash
  else if p.mode = 0x03#8 then
    if h : p.duty.toNat < 64 then
      if p.duty.toNat = 0 then none else some (.dim ⟨p.duty.toNat, h⟩)
    else none
  else none

/-- DIM with a duty of 64 or more (R10). -/
def dutyTooLarge (p : LevelParam) : Bool := decide (p.mode = 0x03#8) && decide (64 ≤ p.duty.toNat)

/-- A demand's values after the clamps of R10, with the adjustment flags; a level or a class that names none is
absent. -/
structure Clamped where
  level : Option Level
  cls   : Option Cls
  hold  : Nat
  flags : Byte

/-- The longest hold in 100 ms units (R7, R10). -/
def maxHold : Nat := 3000

/-- The clamps of R10 with the ceiling in force. -/
def clampDemand (ceiling : Cls) (level : LevelParam) (cls : Byte) (hold : Word16) : Clamped :=
  let lowered := match clsOf cls with
    | none => false
    | some k => decide (ceiling < k)
  { level := if dutyTooLarge level then some .steady else exactLevel level
    cls := (clsOf cls).map (fun k => if ceiling < k then ceiling else k)
    hold := min maxHold hold.toNat
    flags := adjustFlags lowered (decide (maxHold < hold.toNat)) (dutyTooLarge level) }

/-- FLASH is asked of a channel that is not a configured LAMP (R11, R135). -/
def flashRefused (cfg : ChannelConfig) (level : Level) : Bool :=
  decide (level = .flash) && !(cfg.configured && decide (cfg.loadType = .lamp))

/-- The value checks of R11 on clamped values; answers the level and the class when they pass. -/
def checkDemand (cfg : ChannelConfig) (x : Clamped) : Option (Level × Cls) :=
  match x.level, x.cls with
  | some level, some cls =>
      if flashRefused cfg level then none
      else if x.hold = 0 ∧ cls ≤ 1 then none
      else some (level, cls)
  | _, _ => none

/-- The remaining time a hold gives: hold x 100 ms, absent for hold 0 (R12). -/
def holdTime (hold : Nat) : Option Nat := if hold = 0 then none else some (hold * 100)

end Sys2Proof.Machine
end

