-- ==== Sys2Proof/Machine/Link.lean ====
section
/-!
DEFINITION. The Control Link: how a frame's bits come in and a response's bits go out (R147, R148, R152), and how a
request frame is taken: the link's own checks, then the block's answer, which becomes the pending response (R148, R151).
The edges of SCK are no commands: `State.sckRise` and `State.sckFall` say what each does to the frame assembler, and
`State.frameTaken` which command the assembled frame is (log entry 5).
-/

namespace Sys2Proof.Machine

/-- What a block answers to a request: status, adjustment flags and result items from byte 4. -/
structure Answer where
  status : Status
  flags  : Byte
  items  : List Byte

/-- A refusal: its status, flags 0, result all 00h (R152). -/
def refuse (status : Status) : Answer := ⟨status, 0#8, []⟩

/-- A request taken, with its result items. -/
def taken (items : List Byte) : Answer := ⟨.ok, 0#8, items⟩

/-- The response with byte 0, byte 1 and an answer; bytes beyond the last item are 00h (R152). -/
def respond (kind slotTag : Byte) (a : Answer) : Response :=
  { kind := kind, slotTag := slotTag, status := a.status, flags := a.flags, result := fillTo 15 a.items }

/-- Bytes 0 to 18 of a response (R152). -/
def Response.front (r : Response) : List Byte := [r.kind, r.slotTag, statusCode r.status, r.flags] ++ r.result

/-- The 20 bytes of a response, the CRC last (R149, R152). -/
def Response.bytes (r : Response) : List Byte := r.front ++ [crc8 r.front]

/-- The bit on SDO after `n` falling SCK edges of a frame: bytes in order, most significant bit first, 0 after the last
(R147). -/
def sdoBit (r : Response) (n : Nat) : Bool :=
  if n < 160 then (byteAt r.bytes (n / 8)).getLsbD (7 - n % 8) else false

/-- SDO: high-impedance while CSN is high and in reset, and in a frame the bit of the response being shifted out that
the falling edges so far have come to (R147, R171). With CSN low since before power-on completed no response is being
shifted out, and SDO stays high-impedance until CSN has risen and fallen again (log entry 32). -/
def State.sdo (s : State) : Option Bool :=
  if s.inReset then none
  else match s.link.csn with
    | .frame r a => some (sdoBit r a.falls)
    | .high | .lowUncounted => none

/-- The bits of a frame that the assembler keeps (R147). -/
def frameBits : Nat := 160

/-- A rising SCK edge: it is counted and SDI sampled; no bit beyond a frame's length is kept (R147). -/
def Assembler.rise (a : Assembler) (sdi : Bool) : Assembler :=
  { a with rises := a.rises + 1, bits := if a.rises < frameBits then a.bits ++ [sdi] else a.bits }

/-- A falling SCK edge: SDO goes on to the next bit (R147). -/
def Assembler.fall (a : Assembler) : Assembler := { a with falls := a.falls + 1 }

/-- Eight bits as a byte, most significant bit first (R147). -/
def byteOfBits (bits : List Bool) : Byte := BitVec.ofNat 8 (bits.foldl (fun n b => 2 * n + b.toNat) 0)

/-- The whole bytes of the bits sampled (R147). -/
def Assembler.bytes (a : Assembler) : List Byte :=
  (List.range (a.bits.length / 8)).map (fun i => byteOfBits ((a.bits.drop (8 * i)).take 8))

/-- A change of the frame in progress; with CSN high, in reset, and in a low that began before power-on completed, SCK
and SDI are not looked at (R147, R148, R171). -/
def State.inFrame (s : State) (f : Assembler → Assembler) : State :=
  if s.inReset then s
  else match s.link.csn with
    | .frame r a => { s with link := { s.link with csn := .frame r (f a) } }
    | .high | .lowUncounted => s

/-- A rising SCK edge with SDI at a level (R147). -/
def State.sckRise (s : State) (sdi : Bool) : State := s.inFrame (fun a => a.rise sdi)

/-- A falling SCK edge (R147). -/
def State.sckFall (s : State) : State := s.inFrame Assembler.fall

/-- The command that the rise of CSN makes of what the assembler holds (R147). A low that began before power-on
completed ends in a frame that is not taken (R148). -/
def State.frameTaken (s : State) : Option Instr :=
  match s.link.csn with
  | .high => none
  | .frame _ a => some (decodeFrame a.rises a.bytes)
  | .lowUncounted => some (.frameDiscard 0)

/-- CSN rises: no frame is in progress. -/
def State.csnRise (s : State) : State := { s with link := { s.link with csn := .high } }

/-- The frame in progress ends and its response becomes pending (R148). -/
def State.endFrame (s : State) (r : Response) : State := { s with link := { response := r, csn := .high } }

/-- The part takes the frame that ends now: it is not held in reset, and CSN did not fall before power-on completed
(R148, R171). -/
def State.takesFrames (s : State) : Bool := !s.inReset && decide (s.link.csn ≠ .lowUncounted)

/-- The settings of a slot, the fixed items of slots 0 and 11 among them (R1). -/
def requesterOf (x : Configuration) (n : SlotNo) : Requester :=
  if n.val = 0 then { enabled := true, quota := x.quota0, ceiling := 3 }
  else if h : n.val - 1 < 10 then x.slots[n.val - 1]
  else { enabled := true, quota := 4, ceiling := 3 }

/-- The slot number of a header whose slot field is 0 to 11. -/
def slotOf (h : Header) : SlotNo := Fin.ofNat 12 h.slot.toNat

/-- Checks 2 to 4 of R151; check 1 is made by `decodeFrame`. -/
def linkRefusal (s : State) (k : Kind) (h : Header) : Option Status :=
  if 11 ≤ h.slot.toNat then some .notPermitted
  else if (requesterOf s.conf (slotOf h)).enabled = false then some .notPermitted
  else if k.supervisorOnly = true ∧ h.slot ≠ 0#4 then some .notPermitted
  else none

/-- A well-formed request frame is taken (R151): the link's checks, then the block that owns the request. `body` answers
for the block. -/
def request (k : Kind) (h : Header) (body : State → State × Answer) (s : State) : State :=
  if s.takesFrames then
    let r := match linkRefusal s k h with
      | some status => (s, refuse status)
      | none => body s
    r.1.endFrame (respond k.code (headerByte h) r.2)
  else s.csnRise

/-- A request that only reads: it changes nothing but the pending response. -/
def reading (k : Kind) (h : Header) (answer : State → Answer) (s : State) : State :=
  request k h (fun s => (s, answer s)) s

/-- A request that is refused BUSY while a store write is in flight (R168). -/
def unlessStoring (body : State → State × Answer) (s : State) : State × Answer :=
  if s.store.writing.isSome then (s, refuse .busy) else body s

/-- An event of the part: it is not taken while the part is held in reset (R171). -/
def event (f : State → State) (s : State) : State := if s.inReset then s else f s

end Sys2Proof.Machine
end

