-- ==== Sys2Proof/Machine/Resolver.lean ====
section
/-!
DEFINITION. The Channel Resolver and the record events of the Demand Table: insert, remove and reposition on a channel's
list (R38 to R40), the winner and its two values (R41), the handing over of changed pairs (R42, R43), and records made
LIVE and freed with their owners' held counts (R2).
-/

namespace Sys2Proof.Machine

/-- The class of a LIVE record as a number; a record that is not LIVE counts as 0. -/
def Record.rank : Record → Nat
  | .live d _ => d.cls.val
  | .free | .lapsed _ _ => 0

/-- A list with a handle inserted at the head of its class group (R38). -/
def listInsert (rank : Handle → Nat) (h : Handle) (l : List Handle) : List Handle :=
  l.takeWhile (fun y => rank h < rank y) ++ h :: l.dropWhile (fun y => rank h < rank y)

/-- The number of requester records on a list (R36). -/
def requesterCount (l : List Handle) : Nat := l.countP (fun h => decide (h.val < 60))

def State.putRecord (s : State) (h : Handle) (r : Record) : State := { s with records := s.records.set h r }

/-- An insert on a channel's list (R38). -/
def State.insertOn (s : State) (c : Ch) (h : Handle) : State :=
  { s with lists := s.lists.set c (listInsert (fun y => s.records[y].rank) h s.lists[c]) }

/-- A remove from a channel's list (R39). -/
def State.removeFrom (s : State) (c : Ch) (h : Handle) : State :=
  { s with lists := s.lists.set c (s.lists[c].filter (fun y => y ≠ h)) }

/-- The held count of a slot rises by 1 (R2). -/
def State.raiseHeld (s : State) (n : SlotNo) : State := { s with held := s.held.set n (s.held[n] + 1) }

/-- The held count of a slot falls by 1 (R2). -/
def State.lowerHeld (s : State) (n : SlotNo) : State := { s with held := s.held.set n (s.held[n] - 1) }

/-- The values that a channel's winner gives: wanted level and effective class (R41). -/
def State.winnerPair (s : State) (c : Ch) : Level × Option Cls :=
  match s.lists[c] with
  | [] => (.off, none)
  | h :: _ =>
      match s.records[h] with
      | .live d _ => (d.level, some d.cls)
      | .free | .lapsed _ _ => (.off, none)

/-- The Channel Resolvers of the given channels hand on the pairs their lists now give; a pair that has not changed has
no effect at the Channel Sequencer (R42, R43). -/
def State.handOver (s : State) (cs : List Ch) : State :=
  { s with drive := s.drive.takePairs s.env (cs.map (fun c => (c, s.winnerPair c))) }

/-- A record becomes LIVE and is inserted as the newest of its class; nothing is handed on yet (R12, R15, R133). -/
def State.makeLive (s : State) (h : Handle) (d : Demand) (remaining : Option Nat) : State :=
  (s.putRecord h (.live d remaining)).insertOn d.channel h

/-- A record becomes FREE: its owner's held count falls and a LIVE record leaves its list; nothing is handed on yet
(R2, R17, R134). -/
def State.freeRecord (s : State) (h : Handle) : State :=
  match s.records[h] with
  | .free => s
  | .live d _ => ((s.putRecord h .free).lowerHeld d.owner).removeFrom d.channel h
  | .lapsed d _ => (s.putRecord h .free).lowerHeld d.owner

/-- The channel whose list a record stands on, if it is LIVE. -/
def Record.liveChannel : Record → List Ch
  | .live d _ => [d.channel]
  | .free | .lapsed _ _ => []

/-- Every record that `p` picks becomes FREE and leaves its list; held counts are the caller's (R19, R29). -/
def State.freeAll (s : State) (p : Handle → Bool) : State :=
  { s with records := Vector.ofFn (fun h : Handle => if p h then .free else s.records[h])
           lists := Vector.ofFn (fun c : Ch => s.lists[c].filter (fun h => !p h)) }

/-- The handles in ascending order. -/
def allHandles : List Handle := List.finRange 64

/-- The record is not FREE and its owner is the slot. -/
def Record.ownedBy (r : Record) (n : SlotNo) : Bool :=
  match r with
  | .free => false
  | .live d _ | .lapsed d _ => decide (d.owner = n)

/-- The record is not FREE and names the load (R33). -/
def Record.names (r : Record) (l : LoadNo) : Bool :=
  match r with
  | .free => false
  | .live d _ | .lapsed d _ => decide (d.load = l)

def Record.isFree : Record → Bool
  | .free => true
  | .live _ _ | .lapsed _ _ => false

def Record.isLapsed : Record → Bool
  | .lapsed _ _ => true
  | .free | .live _ _ => false

end Sys2Proof.Machine
end

