-- ==== Sys2Proof/Machine/Notices.lean ====
section
/-!
DEFINITION. Commands of the Control Link and the Notice Unit: POLL, READ NOTICES, CLEAR NOTICES, SET NOTICE ENABLE,
DESCRIBE, a frame of unknown kind, a discarded frame, and the fall of CSN.
-/

namespace Sys2Proof.Machine

/-- The number of channels that a test picks. -/
def Drive.count (d : Drive) (p : ChanState → Bool) : Nat := allChans.countP (fun c => p d.chans[c].state)

/-- POLL's snapshot (R155). -/
def pollAnswer (s : State) : Answer :=
  taken [s.drive.notice.kinds, flagByte s.supply.low, numByte (s.drive.count ChanState.driven),
    numByte (s.drive.count ChanState.isWaiting), numByte (s.drive.count ChanState.faulted)]

/-- The items of READ NOTICES (R161). -/
def noticesAnswer (s : State) : Answer :=
  let n := s.drive.notice
  taken ([n.kinds, s.conf.enable] ++ wordBytes n.changed ++ wordBytes n.warn ++ wordBytes n.openSet ++
    [flagByte s.supply.low, flagByte s.store.valid, storeCode s.store.result])

/-- The Notice Unit after the kinds of a mask are cleared, with the sets of CHANNEL, WARN and OPEN (R162 step 2). A set
named by the mask is emptied whether or not its kind is pending (log entry 38). -/
def Notice.clear (n : Notice) (mask : KindSet) : Notice :=
  { kinds := n.kinds &&& ~~~mask
    changed := if mask &&& kindBit .channel = 0#8 then n.changed else 0#16
    warn := if mask &&& kindBit .warn = 0#8 then n.warn else 0#16
    openSet := if mask &&& kindBit .openLoad = 0#8 then n.openSet else 0#16 }

/-- The items of DESCRIBE (R164). -/
def describeAnswer (s : State) : Answer :=
  taken [0x3A#8, 0x01#8, 16#8, 3#8, 32#8, 64#8, 12#8, 4#8, 8#8, 20#8, flagByte s.store.valid]

/-- POLL (R155). -/
def execPoll (h : Header) (s : State) : Host.Outcome State Fault Refusal :=
  .next (reading .poll h pollAnswer s)

/-- READ NOTICES (R161). -/
def execReadNotices (h : Header) (s : State) : Host.Outcome State Fault Refusal :=
  .next (reading .readNotices h noticesAnswer s)

/-- CLEAR NOTICES (R162): the result shows what stood before the clear. -/
def execClearNotices (h : Header) (mask : Byte) (s : State) : Host.Outcome State Fault Refusal :=
  .next (request .clearNotices h (fun s =>
    ({ s with drive := { s.drive with notice := s.drive.notice.clear mask } }, noticesAnswer s)) s)

/-- SET NOTICE ENABLE (R163). -/
def execSetNoticeEnable (h : Header) (kinds : Byte) (s : State) : Host.Outcome State Fault Refusal :=
  .next (request .setNoticeEnable h (unlessStoring fun s =>
    ({ s with conf := { s.conf with enable := kinds } }, taken [s.drive.notice.kinds, kinds])) s)

/-- DESCRIBE (R164). -/
def execDescribe (h : Header) (s : State) : Host.Outcome State Fault Refusal :=
  .next (reading .describe h describeAnswer s)

/-- A well-formed frame whose byte 0 names no request is refused UNKNOWN_KIND with byte 0 as received (R151, R152 note
1). A byte 0 that names a request makes no such frame, and nothing is taken (log entry 21). -/
def execUnknownKindFrame (kind : Byte) (h : Header) (s : State) : Host.Outcome State Fault Refusal :=
  .next (
    if (kindOfByte kind).isSome then s
    else if s.takesFrames then s.endFrame (respond kind (headerByte h) (refuse .unknownKind))
    else s.csnRise)

/-- The FRAME_CHECK response: reason LENGTH or CRC, and the number of whole bytes clocked (R150). -/
def frameCheckResponse (edges : Nat) : Response :=
  respond 0#8 0#8
    ⟨.frameCheck, 0#8, [if edges = 160 then 0x02#8 else 0x01#8, numByte (min 255 (edges / 8))]⟩

/-- A frame that is not well formed is discarded and LINK is set (R150). -/
def execFrameDiscard (edges : Nat) (s : State) : Host.Outcome State Fault Refusal :=
  .next (
    if s.takesFrames then { s.endFrame (frameCheckResponse edges) with drive := s.drive.setKind .link }
    else s.csnRise)

/-- CSN falls: a frame begins, with the pending response to be shifted out; during reset the fall is not watched, and
the frame it would begin is not counted (R147, R148, R171). -/
def execCsnFall (s : State) : Host.Outcome State Fault Refusal :=
  .next { s with link := { s.link with csn := if s.inReset then .lowUncounted else .frame s.link.response .start } }

end Sys2Proof.Machine
end

