-- ==== Sys2Proof/Machine/Demand.lean ====
section
/-!
DEFINITION. Commands of the Demand Table: the record requests PLACE to READ LAPSED (R8 to R19, R25, R26), the requester
requests (R3 to R6), and hold and grace expiry (R20 to R22).
-/

namespace Sys2Proof.Machine

/-! ### Placing -/

/-- The lowest FREE handle among 0 to 59 (R8). -/
def State.lowestFree (s : State) : Option Handle :=
  allHandles.find? (fun h => decide (h.val < 60) && s.records[h].isFree)

/-- The requester places of a channel's list (R36). -/
def listCapacity : Nat := 6

/-- PLACE as the Demand Table takes it, for the requesting slot (R9, R12). -/
def placeBody (slot : SlotNo) (load : Byte) (level : LevelParam) (cls : Byte) (hold : Word16) (s : State) :
    State × Answer :=
  match loadOf load with
  | none => (s, refuse .noLoad)
  | some l =>
    let entry := s.conf.loads[l]
    let requester := requesterOf s.conf slot
    let x := clampDemand requester.ceiling level cls hold
    if entry.enabled = false then (s, refuse .noLoad)
    else if entry.permitted.getLsbD slot.val = false then (s, refuse .notPermitted)
    else match checkDemand s.conf.channels[entry.channel] x with
      | none => (s, refuse .badValue)
      | some (lvl, k) =>
        if requester.quota ≤ s.held[slot] then (s, refuse .quotaFull)
        else match s.lowestFree with
          | none => (s, refuse .tableFull)
          | some handle =>
            if listCapacity ≤ requesterCount s.lists[entry.channel] then (s, refuse .listFull)
            else
              let d : Demand := { owner := slot, load := l, channel := entry.channel, level := lvl, cls := k,
                                  hold := x.hold }
              (((s.makeLive handle d (holdTime x.hold)).raiseHeld slot).handOver [entry.channel],
                ⟨.ok, x.flags, [numByte handle.val]⟩)

/-- PLACE (R9 to R12). -/
def execPlace (h : Header) (load : Byte) (level : LevelParam) (cls : Byte) (hold : Word16) (s : State) :
    Host.Outcome State Fault Refusal :=
  .next (request .place h (placeBody (slotOf h) load level cls hold) s)

/-! ### Renewing, amending and retiring -/

/-- The shared checks of RENEW, AMEND and RETIRE; answers the handle and the record's fields (R13). -/
def actOn (slot : SlotNo) (handle : Byte) (s : State) : Except Status (Handle × Demand) :=
  match handleOf handle with
  | none => .error .noRecord
  | some h =>
    if 60 ≤ h.val then .error .notPermitted
    else match s.records[h] with
      | .free => .error .noRecord
      | .live d _ | .lapsed d _ =>
        if d.owner ≠ slot ∧ slot ≠ 0 then .error .noRecord else .ok (h, d)

/-- RENEW after the checks of R13: a LIVE record's hold starts again (R14), a LAPSED one is revived if its list has
room (R15). -/
def renewBody (slot : SlotNo) (handle : Byte) (s : State) : State × Answer :=
  match actOn slot handle s with
  | .error status => (s, refuse status)
  | .ok (h, d) =>
    match s.records[h] with
    | .lapsed _ _ =>
      if listCapacity ≤ requesterCount s.lists[d.channel] then (s, refuse .listFull)
      else ((s.makeLive h d (holdTime d.hold)).handOver [d.channel], taken [0x01#8])
    | .live _ _ | .free => (s.putRecord h (.live d (holdTime d.hold)), taken [0x01#8])

/-- RENEW (R13 to R15). -/
def execRenew (h : Header) (handle : Byte) (s : State) : Host.Outcome State Fault Refusal :=
  .next (request .renew h (renewBody (slotOf h) handle) s)

/-- AMEND after the checks of R13, with the clamps of the owner's ceiling and a reposition (R16, R40). The record keeps
its channel, so an AMEND makes no room on a list, where R24 says that one can (log entry 35). -/
def amendBody (slot : SlotNo) (handle : Byte) (level : LevelParam) (cls : Byte) (hold : Word16) (s : State) :
    State × Answer :=
  match actOn slot handle s with
  | .error status => (s, refuse status)
  | .ok (h, d) =>
    if s.records[h].isLapsed then (s, refuse .wrongState)
    else
      let x := clampDemand (requesterOf s.conf d.owner).ceiling level cls hold
      match checkDemand s.conf.channels[d.channel] x with
      | none => (s, refuse .badValue)
      | some (lvl, k) =>
        let d' : Demand := { d with level := lvl, cls := k, hold := x.hold }
        (((s.removeFrom d.channel h).makeLive h d' (holdTime x.hold)).handOver [d.channel], ⟨.ok, x.flags, []⟩)

/-- AMEND (R13, R16). -/
def execAmend (h : Header) (handle : Byte) (level : LevelParam) (cls : Byte) (hold : Word16) (s : State) :
    Host.Outcome State Fault Refusal :=
  .next (request .amend h (amendBody (slotOf h) handle level cls hold) s)

/-- RETIRE after the checks of R13 (R17). -/
def retireBody (slot : SlotNo) (handle : Byte) (s : State) : State × Answer :=
  match actOn slot handle s with
  | .error status => (s, refuse status)
  | .ok (h, _) => ((s.freeRecord h).handOver s.records[h].liveChannel, taken [])

/-- RETIRE (R13, R17). -/
def execRetire (h : Header) (handle : Byte) (s : State) : Host.Outcome State Fault Refusal :=
  .next (request .retire h (retireBody (slotOf h) handle) s)

/-! ### A whole slot's records -/

/-- The permission checks of RENEW ALL and RETIRE ALL; answers the target slot (R18, R19). -/
def targetOf (slot : SlotNo) (target : Byte) : Except Status SlotNo :=
  match numOf 12 target with
  | none => .error .badValue
  | some t =>
    if t.val = 11 then .error .notPermitted
    else if slot ≠ 0 ∧ t ≠ slot then .error .notPermitted
    else .ok t

/-- The record is LIVE and its owner is the slot. -/
def Record.liveOf (r : Record) (n : SlotNo) : Bool :=
  match r with
  | .live d _ => decide (d.owner = n)
  | .free | .lapsed _ _ => false

/-- A LIVE record of the slot with its remaining time set anew (R18). -/
def Record.renewFor (r : Record) (n : SlotNo) : Record :=
  match r with
  | .live d rem => .live d (if d.owner = n then holdTime d.hold else rem)
  | .free => .free
  | .lapsed d g => .lapsed d g

/-- RENEW ALL (R18). -/
def renewAllBody (slot : SlotNo) (target : Byte) (s : State) : State × Answer :=
  match targetOf slot target with
  | .error status => (s, refuse status)
  | .ok t =>
    ({ s with records := Vector.ofFn (fun h : Handle => s.records[h].renewFor t) },
      taken [numByte (allHandles.countP (fun h => s.records[h].liveOf t))])

/-- RENEW ALL (R18). -/
def execRenewAll (h : Header) (target : Byte) (s : State) : Host.Outcome State Fault Refusal :=
  .next (request .renewAll h (renewAllBody (slotOf h) target) s)

/-- RETIRE ALL: every record of the target becomes FREE, one outcome a channel (R19, R43). -/
def retireAllBody (slot : SlotNo) (target : Byte) (s : State) : State × Answer :=
  match targetOf slot target with
  | .error status => (s, refuse status)
  | .ok t =>
    let freed := s.freeAll (fun h => s.records[h].ownedBy t)
    (({ freed with held := s.held.set t 0 }).handOver allChans,
      taken [numByte (allHandles.countP (fun h => s.records[h].ownedBy t))])

/-- RETIRE ALL (R19). -/
def execRetireAll (h : Header) (target : Byte) (s : State) : Host.Outcome State Fault Refusal :=
  .next (request .retireAll h (retireAllBody (slotOf h) target) s)

/-! ### Reading records -/

/-- A time in ms in units of 100 ms, rounded up (R25 note 1). -/
def tenths (ms : Nat) : Nat := (ms + 99) / 100

/-- Bytes 5 to 12 of LOOKUP for a record that is not FREE (R156). -/
def demandItems (d : Demand) : List Byte :=
  [numByte d.owner.val, numByte d.load.val, numByte d.channel.val] ++ levelItem d.level ++
    [numByte d.cls.val] ++ numWord d.hold

/-- The items of LOOKUP (R25, R156). -/
def lookupItems (s : State) (h : Handle) : List Byte :=
  match s.records[h] with
  | .free => recordCode .free :: List.replicate 12 0xFF#8 ++ [numByte h.val]
  | .live d rem =>
    recordCode (.live d rem) :: demandItems d ++
      (match rem with
       | none => [0xFF#8, 0xFF#8]
       | some ms => numWord (tenths ms)) ++
      [numByte (s.lists[d.channel].idxOf h), stateByte s.drive.chans[d.channel].state, numByte h.val]
  | .lapsed d g =>
    recordCode (.lapsed d g) :: demandItems d ++ numWord (tenths g) ++
      [0xFF#8, stateByte s.drive.chans[d.channel].state, numByte h.val]

/-- LOOKUP's answer (R25). -/
def lookupAnswer (handle : Byte) (s : State) : Answer :=
  match handleOf handle with
  | none => refuse .noRecord
  | some h => taken (lookupItems s h)

/-- LOOKUP (R25, R156). -/
def execLookup (h : Header) (handle : Byte) (s : State) : Host.Outcome State Fault Refusal :=
  .next (reading .lookup h (lookupAnswer handle) s)

/-- The flags of READ LAPSED as a 64-bit set, bit n for handle n (R26, R153). -/
def lapsedSet (s : State) : BitVec 64 :=
  BitVec.ofNat 64 (bitsOf (allHandles.map (fun h => s.records[h].isLapsed)))

/-- READ LAPSED's answer: eight bytes, handle 63 in the most significant bit of the first (R153). -/
def lapsedAnswer (s : State) : Answer :=
  taken ([7, 6, 5, 4, 3, 2, 1, 0].map (fun i => (lapsedSet s).extractLsb' (8 * i) 8))

/-- READ LAPSED (R26). -/
def execReadLapsed (h : Header) (s : State) : Host.Outcome State Fault Refusal :=
  .next (reading .readLapsed h lapsedAnswer s)

/-! ### The requester table -/

/-- A slot's settings written; slots 0 and 11 keep their fixed items (R1, R3). -/
def withRequester (x : Configuration) (n : SlotNo) (r : Requester) : Configuration :=
  if n.val = 0 then { x with quota0 := r.quota }
  else if h : n.val - 1 < 10 then { x with slots := x.slots.set (n.val - 1) r }
  else x

/-- The items of READ REQUESTER (R6). -/
def requesterItems (s : State) (n : SlotNo) : List Byte :=
  let r := requesterOf s.conf n
  [flagByte r.enabled, numByte r.quota, numByte r.ceiling.val, numByte s.held[n]]

/-- The target of SET REQUESTER and ADD QUOTA, slots 0 to 10 (R3 check 2, R5 check 2). -/
def settableSlot (target : Byte) : Except Status SlotNo :=
  match numOf 12 target with
  | none => .error .badValue
  | some t => if t.val = 11 then .error .notPermitted else .ok t

/-- The greatest quota of one slot (R1). -/
def maxQuota : Nat := 60

/-- SET REQUESTER after BUSY (R3). -/
def setRequesterBody (target enabled quota ceiling : Byte) (s : State) : State × Answer :=
  match settableSlot target with
  | .error status => (s, refuse status)
  | .ok t =>
    if maxQuota < quota.toNat then (s, refuse .badValue)
    else if t.val = 0 then
      let s' := { s with conf := withRequester s.conf t ⟨true, quota.toNat, 3⟩ }
      (s', taken (requesterItems s' t))
    else match clsOf ceiling with
      | none => (s, refuse .badValue)
      | some k =>
        if yes enabled = false ∧ (requesterOf s.conf t).enabled = true ∧ s.held[t] ≠ 0 then (s, refuse .wrongState)
        else
          let s' := { s with conf := withRequester s.conf t ⟨yes enabled, quota.toNat, k⟩ }
          (s', taken (requesterItems s' t))

/-- SET REQUESTER (R3). -/
def execSetRequester (h : Header) (target enabled quota ceiling : Byte) (s : State) :
    Host.Outcome State Fault Refusal :=
  .next (request .setRequester h (unlessStoring (setRequesterBody target enabled quota ceiling)) s)

/-- ADD QUOTA after BUSY (R5). -/
def addQuotaBody (target n : Byte) (s : State) : State × Answer :=
  match settableSlot target with
  | .error status => (s, refuse status)
  | .ok t =>
    if n = 0#8 ∨ maxQuota < n.toNat then (s, refuse .badValue)
    else
      let r := requesterOf s.conf t
      let quota := min maxQuota (r.quota + n.toNat)
      ({ s with conf := withRequester s.conf t { r with quota := quota } }, taken [numByte quota])

/-- ADD QUOTA (R5). -/
def execAddQuota (h : Header) (target n : Byte) (s : State) : Host.Outcome State Fault Refusal :=
  .next (request .addQuota h (unlessStoring (addQuotaBody target n)) s)

/-- READ REQUESTER's answer (R6). -/
def requesterAnswer (target : Byte) (s : State) : Answer :=
  match numOf 12 target with
  | none => refuse .badValue
  | some t => taken (requesterItems s t)

/-- READ REQUESTER (R6). -/
def execReadRequester (h : Header) (target : Byte) (s : State) : Host.Outcome State Fault Refusal :=
  .next (reading .readRequester h (requesterAnswer target) s)

/-! ### Hold and grace -/

/-- The grace of a record that lapses, in ms (R21). -/
def lapseGrace : Nat := 5000

/-- The hold of a LIVE record expires in the millisecond that takes its remaining to 0 (R20, R21); otherwise nothing
happens (log entry 2). -/
def holdExpiry (h : Handle) (s : State) : State :=
  match s.records[h] with
  | .live d (some ms) =>
    if ms ≤ 1 then
      let s := (s.putRecord h (.lapsed d lapseGrace)).removeFrom d.channel h
      ({ s with drive := s.drive.setKind .lapse }).handOver [d.channel]
    else s
  | .live _ none | .lapsed _ _ | .free => s

/-- HOLD_EXPIRY (R21). -/
def execHoldExpiry (h : Handle) (s : State) : Host.Outcome State Fault Refusal :=
  .next (event (holdExpiry h) s)

/-- The grace of a LAPSED record expires in the millisecond that takes it to 0 (R22). -/
def graceExpiry (h : Handle) (s : State) : State :=
  match s.records[h] with
  | .lapsed _ ms => if ms ≤ 1 then s.freeRecord h else s
  | .live _ _ | .free => s

/-- GRACE_EXPIRY (R22). -/
def execGraceExpiry (h : Handle) (s : State) : Host.Outcome State Fault Refusal :=
  .next (event (graceExpiry h) s)

end Sys2Proof.Machine
end

