-- ==== Sys2Proof/Machine/LoadMap.lean ====
section
/-!
DEFINITION. Commands of the Load Map and the Channel Resolver: MAP LOAD (R32), READ LOAD (R34), LIST (R46).
-/

namespace Sys2Proof.Machine

/-- The number of records LIVE or LAPSED that name a load (R34). -/
def State.useCount (s : State) (l : LoadNo) : Nat := allHandles.countP (fun h => s.records[h].names l)

/-- The lines in ascending order. -/
def allLines : List LineNo := [0, 1, 2, 3]

/-- Line n has an enabled binding that names the load (R32, R34). -/
def State.lineNames (s : State) (l : LoadNo) (n : LineNo) : Bool :=
  s.conf.bindings[n].enabled && decide (s.conf.bindings[n].load = l)

/-- The items of READ LOAD: the entry, the use count, the line set (R34). -/
def loadItems (s : State) (l : LoadNo) : List Byte :=
  let entry := s.conf.loads[l]
  [flagByte entry.enabled, numByte entry.channel.val] ++ wordBytes (entry.permitted.setWidth 16) ++
    [numByte (s.useCount l), numByte (bitsOf (allLines.map (s.lineNames l)))]

/-- MAP LOAD after BUSY (R32). -/
def mapLoadBody (load enabled channel : Byte) (permitted : Word16) (s : State) : State × Answer :=
  match loadOf load with
  | none => (s, refuse .badValue)
  | some l =>
    match chOf channel, slotSetOf permitted with
    | some c, some slots =>
      if s.useCount l ≠ 0 then (s, refuse .wrongState)
      else if allLines.any (s.lineNames l) then (s, refuse .wrongState)
      else
        let s' := { s with conf := { s.conf with loads := s.conf.loads.set l ⟨yes enabled, c, slots⟩ } }
        (s', taken (loadItems s' l))
    | _, _ => (s, refuse .badValue)

/-- MAP LOAD (R32). -/
def execMapLoad (h : Header) (load enabled channel : Byte) (permitted : Word16) (s : State) :
    Host.Outcome State Fault Refusal :=
  .next (request .mapLoad h (unlessStoring (mapLoadBody load enabled channel permitted)) s)

/-- READ LOAD's answer (R34). -/
def loadAnswer (load : Byte) (s : State) : Answer :=
  match loadOf load with
  | none => refuse .badValue
  | some l => taken (loadItems s l)

/-- READ LOAD (R34). -/
def execReadLoad (h : Header) (load : Byte) (s : State) : Host.Outcome State Fault Refusal :=
  .next (reading .readLoad h (loadAnswer load) s)

/-- The owner of a record as a nibble, Fh for a FREE one. -/
def Record.ownerNibble : Record → Nat
  | .live d _ | .lapsed d _ => d.owner.val
  | .free => 15

/-- The entry byte of a rank: the handle in the high six bits, the class in the low two; FFh beyond the list (R156). -/
def listEntry (s : State) (l : List Handle) (rank : Nat) : Byte :=
  match l[rank]? with
  | none => 0xFF#8
  | some h => numByte (h.val * 4 + s.records[h].rank)

/-- The owner nibble of a rank, Fh beyond the list (R156). -/
def listOwner (s : State) (l : List Handle) (rank : Nat) : Nat :=
  match l[rank]? with
  | none => 15
  | some h => s.records[h].ownerNibble

/-- The items of LIST (R46, R156). -/
def listItems (s : State) (c : Ch) : List Byte :=
  [0, 1, 2, 3, 4, 5, 6, 7, 8, 9].map (listEntry s s.lists[c]) ++
    [0, 1, 2, 3, 4].map (fun j => nibbles (listOwner s s.lists[c] (2 * j)) (listOwner s s.lists[c] (2 * j + 1)))

/-- LIST's answer (R46). -/
def listAnswer (channel : Byte) (s : State) : Answer :=
  match chOf channel with
  | none => refuse .badValue
  | some c => taken (listItems s c)

/-- LIST (R46, R156). -/
def execList (h : Header) (channel : Byte) (s : State) : Host.Outcome State Fault Refusal :=
  .next (reading .list h (listAnswer channel) s)

end Sys2Proof.Machine
end

