-- ==== Sys2Proof/Machine/Channels.lean ====
section
/-!
DEFINITION. Commands of the Channel Sequencer: the two configuration requests (R50, R51), LOCK, UNLOCK, CLEAR FAULT
(R71 to R73), CHANNEL STATUS (R80, R157), the interlock requests (R78, R79), and the timer events of the switch-on path
and of fault recovery (R55, R59, R67, R69, R70, R77).
-/

namespace Sys2Proof.Machine

/-! ### Configuration -/

/-- The fields of SET CHANNEL LIMITS, where they are in range and the inrush limit is not below the peak limit (R50
checks 4 and 5); the fields of the other group are kept. -/
def limitsOf (old : ChannelConfig) (p : LimitsParams) : Option ChannelConfig :=
  match feedOfByte p.feed with
  | none => none
  | some feed =>
    if (1 ≤ p.iNom.toNat ∧ p.iNom.toNat ≤ 1023) ∧ (1 ≤ p.iRate.toNat ∧ p.iRate.toNat ≤ 1023) ∧
       (8 ≤ p.k.toNat ∧ p.k.toNat ≤ 16) ∧ (1 ≤ p.peakLimit.toNat ∧ p.peakLimit.toNat ≤ 1023) ∧
       (p.peakLimit.toNat ≤ p.inrushLimit.toNat ∧ p.inrushLimit.toNat ≤ 1023) ∧
       (1 ≤ p.inrushFactor.toNat ∧ p.inrushFactor.toNat ≤ 16) then
      some { old with feed := feed, iNom := p.iNom.toNat, iRate := p.iRate.toNat, k := p.k.toNat,
                      peakLimit := p.peakLimit.toNat, inrushLimit := p.inrushLimit.toNat,
                      inrushFactor := p.inrushFactor.toNat, inrushWindow := p.inrushWindow.toNat,
                      configured := true }
    else none

/-- The fields of SET CHANNEL PROFILE, where they are in range and outage watch is asked of LAMP alone (R51). -/
def profileOf (old : ChannelConfig) (p : ProfileParams) : Option ChannelConfig :=
  match loadTypeOf p.loadType with
  | none => none
  | some loadType =>
    if p.openLoadLevel.toNat ≤ 1023 ∧ (1 ≤ p.stallLevel.toNat ∧ p.stallLevel.toNat ≤ 1023) ∧
       1 ≤ p.stallTime.toNat ∧ p.retryLimit.toNat ≤ 7 ∧ (yes p.outageWatch = true → loadType = .lamp) then
      some { old with loadType := loadType, openLoadLevel := p.openLoadLevel.toNat,
                      stallLevel := p.stallLevel.toNat, stallTime := p.stallTime.toNat,
                      retryLimit := p.retryLimit.toNat, outageWatch := yes p.outageWatch,
                      lockAtStart := yes p.lockAtStart, configured := true }
    else none

/-- A configuration request of a channel after BUSY: the channel's number, DISABLED, then the fields (R50, R51). -/
def configureBody (channel : Byte) (fields : ChannelConfig → Option ChannelConfig) (s : State) : State × Answer :=
  match chOf channel with
  | none => (s, refuse .badValue)
  | some c =>
    if s.drive.chans[c].state ≠ .disabled then (s, refuse .wrongState)
    else match fields s.conf.channels[c] with
      | none => (s, refuse .badValue)
      | some cfg => ({ s with conf := { s.conf with channels := s.conf.channels.set c cfg } }, taken [])

/-- SET CHANNEL LIMITS (R50). -/
def execSetChannelLimits (h : Header) (channel : Byte) (p : LimitsParams) (s : State) :
    Host.Outcome State Fault Refusal :=
  .next (request .setChannelLimits h (unlessStoring (configureBody channel (fun old => limitsOf old p))) s)

/-- SET CHANNEL PROFILE (R51). -/
def execSetChannelProfile (h : Header) (channel : Byte) (p : ProfileParams) (s : State) :
    Host.Outcome State Fault Refusal :=
  .next (request .setChannelProfile h (unlessStoring (configureBody channel (fun old => profileOf old p))) s)

/-! ### LOCK, UNLOCK, CLEAR FAULT -/

/-- A change of the drive side by a function of the environment and a channel. -/
def State.onChannel (s : State) (f : Drive → Env → Ch → Drive) (c : Ch) : State :=
  { s with drive := f s.drive s.env c }

/-- LOCK (R72). -/
def lockBody (channel : Byte) (s : State) : State × Answer :=
  match chOf channel with
  | none => (s, refuse .badValue)
  | some c =>
    if s.drive.chans[c].state = .disabled then (s, taken []) else (s.onChannel Drive.lock c, taken [])

/-- LOCK (R72). -/
def execLock (h : Header) (channel : Byte) (s : State) : Host.Outcome State Fault Refusal :=
  .next (request .lock h (lockBody channel) s)

/-- UNLOCK (R73). -/
def unlockBody (channel : Byte) (s : State) : State × Answer :=
  match chOf channel with
  | none => (s, refuse .badValue)
  | some c =>
    if s.conf.channels[c].configured = false then (s, refuse .wrongState)
    else if s.drive.chans[c].state ≠ .disabled then (s, refuse .wrongState)
    else
      let s' := s.onChannel Drive.unlock c
      (s', taken [stateByte s'.drive.chans[c].state])

/-- UNLOCK (R73). -/
def execUnlock (h : Header) (channel : Byte) (s : State) : Host.Outcome State Fault Refusal :=
  .next (request .unlock h (unlockBody channel) s)

/-- CLEAR FAULT (R71). -/
def clearFaultBody (channel : Byte) (s : State) : State × Answer :=
  match chOf channel with
  | none => (s, refuse .badValue)
  | some c =>
    if s.drive.chans[c].state.faulted = false then (s, refuse .wrongState)
    else
      let s' := s.onChannel Drive.clearFault c
      (s', taken [stateByte s'.drive.chans[c].state])

/-- CLEAR FAULT (R71). -/
def execClearFault (h : Header) (channel : Byte) (s : State) : Host.Outcome State Fault Refusal :=
  .next (request .clearFault h (clearFaultBody channel) s)

/-! ### CHANNEL STATUS -/

/-- Byte 17 of CHANNEL STATUS: the pair in the high four bits, the holder in bits 3 and 2 (R157). -/
def pairByte (s : State) (c : Ch) : Byte :=
  match s.env.pairOf c with
  | none => 0xF0#8
  | some p =>
    let holder := s.drive.pairs[p].holder
    let bits := if holder = .none then 0 else if holder = s.env.sideOf p c then 1 else 2
    nibbles p.val (bits * 4)

/-- The items of CHANNEL STATUS (R80, R157). -/
def statusItems (s : State) (c : Ch) : List Byte :=
  let x := s.drive.chans[c]
  let cfg := s.conf.channels[c]
  let m := s.monitors[c]
  [stateByte x.state] ++ levelItem x.wanted ++ levelItem x.applied ++
    [match x.cls with
     | none => 0xFF#8
     | some k => numByte k.val] ++
    numWord x.reservation ++ numWord m.lastI ++
    [numByte (heatLevel cfg m.heat),
     numByte (128 * (flagByte cfg.configured).toNat + 32 * loadTypeBits cfg + 16 * (flagByte x.upgrade).toNat
       + 8 * (flagByte x.cooling).toNat + 4 * (flagByte m.warn).toNat + 2 * (flagByte x.openFlag).toNat),
     numByte (32 * x.retries + 8 * faultBits x.lastFault + 2 * shedBits x.lastShed),
     pairByte s c, numByte c.val]

/-- CHANNEL STATUS's answer (R80). -/
def statusAnswer (channel : Byte) (s : State) : Answer :=
  match chOf channel with
  | none => refuse .badValue
  | some c => taken (statusItems s c)

/-- CHANNEL STATUS (R80, R157). -/
def execChannelStatus (h : Header) (channel : Byte) (s : State) : Host.Outcome State Fault Refusal :=
  .next (reading .channelStatus h (statusAnswer channel) s)

/-! ### Interlock pairs -/

/-- The items of READ INTERLOCK (R79). -/
def pairItems (s : State) (p : PairNo) : List Byte :=
  let cfg := s.conf.pairs[p]
  let x := s.drive.pairs[p]
  [flagByte cfg.enabled, numByte cfg.a.val, numByte cfg.b.val, holderCode x.holder, numByte (x.dead.getD 0),
   flagByte s.drive.chans[cfg.a].state.waitsForPair, flagByte s.drive.chans[cfg.b].state.waitsForPair]

/-- The channel is a member of an enabled pair other than `p` (R78 check 4). -/
def inOtherPair (x : Configuration) (p : PairNo) (c : Ch) : Bool :=
  allPairs.any (fun q => decide (q ≠ p) && x.pairs[q].enabled &&
    (decide (x.pairs[q].a = c) || decide (x.pairs[q].b = c)))

/-- SET INTERLOCK after BUSY (R78). -/
def setInterlockBody (pair enabled a b : Byte) (s : State) : State × Answer :=
  match pairOfByte pair, chOf a, chOf b with
  | some p, some ca, some cb =>
    if yes enabled = true ∧ ca = cb then (s, refuse .badValue)
    else if yes enabled = true ∧ (inOtherPair s.conf p ca = true ∨ inOtherPair s.conf p cb = true) then
      (s, refuse .badValue)
    else if yes enabled = true ∧ s.drive.chans[ca].state.driven = true ∧ s.drive.chans[cb].state.driven = true then
      (s, refuse .wrongState)
    else
      let old := s.conf.pairs[p]
      let s1 := { s with conf := { s.conf with pairs := s.conf.pairs.set p ⟨yes enabled, ca, cb⟩ } }
      let s2 := { s1 with drive := s1.drive.setPair s1.env p old }
      (s2, taken (pairItems s2 p))
  | _, _, _ => (s, refuse .badValue)

/-- SET INTERLOCK (R78). -/
def execSetInterlock (h : Header) (pair enabled a b : Byte) (s : State) : Host.Outcome State Fault Refusal :=
  .next (request .setInterlock h (unlessStoring (setInterlockBody pair enabled a b)) s)

/-- READ INTERLOCK's answer (R79). -/
def pairAnswer (pair : Byte) (s : State) : Answer :=
  match pairOfByte pair with
  | none => refuse .badValue
  | some p => taken (pairItems s p)

/-- READ INTERLOCK (R79). -/
def execReadInterlock (h : Header) (pair : Byte) (s : State) : Host.Outcome State Fault Refusal :=
  .next (reading .readInterlock h (pairAnswer pair) s)

/-! ### Timer events -/

/-- A timer is in the millisecond that takes it to 0. -/
def expires (timer : Option Nat) : Bool :=
  match timer with
  | none => false
  | some ms => decide (ms ≤ 1)

/-- The dead time of an enabled pair ends and the arbiter acts (R76, R77). -/
def deadTimeExpiry (p : PairNo) (s : State) : State :=
  if s.conf.pairs[p].enabled = true ∧ expires s.drive.pairs[p].dead = true then
    let r := (s.drive.modPair p (fun x => { x with dead := none })).arbitrate s.env p
    { s with drive := r.1.passes s.env r.2 }
  else s

/-- DEAD_TIME_EXPIRY (R77). -/
def execDeadTimeExpiry (p : PairNo) (s : State) : Host.Outcome State Fault Refusal :=
  .next (event (deadTimeExpiry p) s)

/-- The inrush timer of an INRUSH channel expires (R59). -/
def inrushTimerExpiry (c : Ch) (s : State) : State :=
  if s.drive.chans[c].state = .inrush ∧ expires s.drive.chans[c].inrushTimer = true then s.onChannel Drive.endInrush c
  else s

/-- INRUSH_TIMER_EXPIRY (R59). -/
def execInrushTimerExpiry (c : Ch) (s : State) : Host.Outcome State Fault Refusal :=
  .next (event (inrushTimerExpiry c) s)

/-- The retry timer of a TRIPPED channel expires (R67). -/
def retryTimerExpiry (c : Ch) (s : State) : State :=
  if s.drive.chans[c].state = .tripped ∧ expires s.drive.chans[c].retryTimer = true then s.onChannel Drive.retry c
  else s

/-- RETRY_TIMER_EXPIRY (R67). -/
def execRetryTimerExpiry (c : Ch) (s : State) : Host.Outcome State Fault Refusal :=
  .next (event (retryTimerExpiry c) s)

/-- A channel tripped OVERLOAD stands at or below T_cool: it retries (R67, R92). -/
def overloadRetry (c : Ch) (s : State) : State :=
  if s.drive.chans[c].state = .tripped ∧ s.drive.chans[c].lastFault = some .overload ∧ s.env.hot c = false then
    s.onChannel Drive.retry c
  else s

/-- OVERLOAD_RETRY (R67). -/
def execOverloadRetry (c : Ch) (s : State) : Host.Outcome State Fault Refusal :=
  .next (event (overloadRetry c) s)

/-- A set cooling flag with H at or below T_cool clears (R70, R92). -/
def coolingFlagClear (c : Ch) (s : State) : State :=
  if s.drive.chans[c].cooling = true ∧ s.env.hot c = false then s.onChannel Drive.clearCooling c else s

/-- COOLING_FLAG_CLEAR (R70). -/
def execCoolingFlagClear (c : Ch) (s : State) : Host.Outcome State Fault Refusal :=
  .next (event (coolingFlagClear c) s)

/-- The clean-run timer of a channel in ON expires (R69). -/
def cleanRunExpiry (c : Ch) (s : State) : State :=
  if s.drive.chans[c].state = .on ∧ expires s.drive.chans[c].cleanTimer = true then
    s.onChannel (fun d _ c => d.modChan c (fun x => { x with retries := 0, lastFault := none, cleanTimer := none })) c
  else s

/-- CLEAN_RUN_EXPIRY (R69). -/
def execCleanRunExpiry (c : Ch) (s : State) : Host.Outcome State Fault Refusal :=
  .next (event (cleanRunExpiry c) s)

/-- A driven DIM channel takes up the on part of its applied duty (R55). -/
def Channel.settlePwm (x : Channel) : Channel :=
  match x.applied with
  | .dim _ => if x.state.driven then { x with pwmSettled := true } else x
  | .off | .steady | .flash => x

/-- A PWM period starts (R55). -/
def pwmPeriodStart (s : State) : State :=
  { s with drive := { s.drive with chans := Vector.ofFn (fun c : Ch => s.drive.chans[c].settlePwm) }
           pwmLeft := pwmPeriod }

/-- PWM_PERIOD_START (R55). -/
def execPwmPeriodStart (s : State) : Host.Outcome State Fault Refusal :=
  .next (event pwmPeriodStart s)

end Sys2Proof.Machine
end

