-- ==== Sys2Proof/Machine/Monitor.lean ====
section
/-!
DEFINITION. The Channel Monitor: the stages of a sample completion (R83 to R97) and the table's rows that R85 places
within one: the stall timer's expiry and the setting and clearing of the open flag.
-/

namespace Sys2Proof.Machine

/-- The greatest current reading; the conversion saturates there (R83). -/
def maxCurrent : Nat := 1023

/-- The Flash Generator is in an on phase. -/
def Drive.flashOn (d : Drive) : Bool :=
  match d.flash with
  | none => false
  | some cy => decide (cy.phase = .on)

/-- The tick is an on-tick: the channel is driven, at STEADY or DIM, or at FLASH in an on phase (R84). -/
def Drive.onTick (d : Drive) (c : Ch) : Bool :=
  d.chans[c].state.driven &&
    match d.chans[c].applied with
    | .off => false
    | .steady => true
    | .flash => d.flashOn
    | .dim _ => true

/-- A flashing LAMP stands within the flash allowance of the on phase in progress: W ms or less after its start, with W
the smaller of the inrush window and the on length; a window of 0 gives none (R94). -/
def Drive.inAllowance (d : Drive) (cfg : ChannelConfig) : Bool :=
  match d.flash with
  | none => false
  | some cy => decide (cfg.inrushWindow ≠ 0) && decide (cy.onLen - cy.timer ≤ min (cfg.inrushWindow * 10) cy.onLen)

/-- The limit in force at an on-tick (R93). -/
def Drive.limitInForce (d : Drive) (cfg : ChannelConfig) (c : Ch) : Nat :=
  if d.chans[c].state = .inrush then cfg.inrushLimit
  else if cfg.loadType = .lamp ∧ d.chans[c].applied = .flash ∧ d.inAllowance cfg = true then cfg.inrushLimit
  else cfg.peakLimit

/-- The effective square of a current: weighted by the duty from the first period start of a DIM level on (R86). -/
def Channel.effectiveSquare (x : Channel) (i : Nat) : Nat :=
  match x.applied with
  | .dim d => if x.pwmSettled then i * i * d.val / 64 else i * i
  | .off | .steady | .flash => i * i

/-- H moves toward its target by the integer lag step (R86 stage 4). -/
def heatStep (k target heat : Nat) : Nat :=
  if heat < target then heat + max 1 ((target - heat) / 2 ^ k)
  else if target < heat then heat - max 1 ((heat - target) / 2 ^ k)
  else heat

/-- The warn flag after H (R90). -/
def warnAfter (cfg : ChannelConfig) (warn : Bool) (heat : Nat) : Bool :=
  if warn then decide (tCool cfg ≤ heat) else decide (tWarn cfg ≤ heat)

/-- The stall timer after stage 6, and whether it has reached 0 (R95). -/
def stallStep (cfg : ChannelConfig) (state : ChanState) (timer : Nat) (onTick : Bool) (i : Nat) (tripFound : Bool) :
    Nat × Bool :=
  if cfg.loadType ≠ .motor then (stallReload cfg, false)
  else if tripFound then (timer, false)
  else match state with
    | .on =>
      if onTick then
        if cfg.stallLevel ≤ i then (timer - 1, decide (timer - 1 = 0)) else (stallReload cfg, false)
      else (timer, false)
    | .disabled | .off | .waiting _ | .inrush | .tripped | .latched => (stallReload cfg, false)

/-- The count at which a run of open-load readings is one short of complete (R96). -/
def openRun : Nat := 99

/-- The open flag is set and handed to the Notice Unit (R96, R97). -/
def Drive.setOpen (d : Drive) (c : Ch) : Drive :=
  (d.modChan c (fun x => { x with openFlag := true, openCount := 0 })).noteOpen c

/-- The open flag is cleared by a run of readings at or above the level (R96, R97). -/
def Drive.clearOpen (d : Drive) (c : Ch) : Drive :=
  d.modChan c (fun x => { x with openFlag := false, openCount := 0 })

/-- Stage 7 at a counted on-tick: `below` says whether the reading is below the open-load level (R96). -/
def Drive.openStage (d : Drive) (c : Ch) (below : Bool) : Drive :=
  let x := d.chans[c]
  if below = x.openFlag then d.modChan c (fun x => { x with openCount := 0 })
  else if x.openCount < openRun then d.modChan c (fun x => { x with openCount := x.openCount + 1 })
  else if below then d.setOpen c else d.clearOpen c

/-- The channel's open load is watched: it is in ON, with an open-load level other than 0 (R96). -/
def Drive.watchesOpen (d : Drive) (cfg : ChannelConfig) (c : Ch) : Bool :=
  decide (d.chans[c].state = .on) && decide (cfg.openLoadLevel ≠ 0)

/-- The open-load stage counts at this tick: watched, at an on-tick (R96). A completion taken after the expiry of an on
phase falls at an off-tick (R99) and counts nothing; the flag that an earlier one has earned is set by OPEN_FLAG_SET in
either order with the expiry (R128; log entry 36). -/
def Drive.countsOpen (d : Drive) (cfg : ChannelConfig) (c : Ch) : Bool := d.watchesOpen cfg c && d.onTick c

/-- H against T_cool as stage 8 reports it: the cooling flag first, then the OVERLOAD retry (R92). -/
def Drive.coolReport (d : Drive) (e : Env) (c : Ch) : Drive :=
  if e.hot c then d
  else
    let d := if d.chans[c].cooling then d.clearCooling e c else d
    if d.chans[c].state = .tripped ∧ d.chans[c].lastFault = some .overload then d.retry e c else d

/-- What stages 1 to 6 of a completion find. -/
structure Sample where
  onTick     : Bool
  current    : Nat
  monitor    : Monitor
  stallTimer : Nat
  trip       : Option FaultKind

/-- Stages 1 to 6 of a sample completion: current, peak, heat, overload, warning, stall (R85). H is compared with T_trip
after its update (R86, R89), also where R98 says that one step cannot bring it below (log entry 34). -/
def takeSample (s : State) (c : Ch) (sense : Nat) : Sample :=
  let cfg := s.conf.channels[c]
  let x := s.drive.chans[c]
  let m := s.monitors[c]
  let on := s.drive.onTick c
  let i := if on then min maxCurrent sense else 0
  let short := on && decide (s.drive.limitInForce cfg c ≤ i)
  let heat := heatStep cfg.k (x.effectiveSquare i * 256) m.heat
  let overload := x.state.driven && !short && decide (tTrip cfg ≤ heat)
  let stall := stallStep cfg x.state x.stallTimer on i (short || overload)
  { onTick := on
    current := i
    monitor := { heat := heat, warn := warnAfter cfg m.warn heat, lastI := if on then i else m.lastI }
    stallTimer := stall.1
    trip := if short then some .short else if overload then some .overload
            else if stall.2 then some .stall else none }

/-- A sample completion (R85). -/
def sampleCompletion (c : Ch) (sense : Nat) (s : State) : State :=
  let cfg := s.conf.channels[c]
  let r := takeSample s c sense
  let warned := r.monitor.warn && !s.monitors[c].warn
  let s := { s with monitors := s.monitors.set c r.monitor }
  let d := s.drive.modChan c (fun x => { x with stallTimer := r.stallTimer })
  let d := if warned then d.noteWarn c else d
  let d := match r.trip with
    | some kind => d.trip s.env c kind
    | none => if d.countsOpen cfg c then d.openStage c (decide (r.current < cfg.openLoadLevel)) else d
  { s with drive := d.coolReport s.env c }

/-- SAMPLE_COMPLETION (R85). -/
def execSampleCompletion (c : Ch) (sense : Nat) (s : State) : Host.Outcome State Fault Refusal :=
  .next (event (sampleCompletion c sense) s)

/-- The stall timer of a MOTOR channel in ON goes from 1 to 0 and finds a STALL trip (R95). -/
def stallTimerExpiry (c : Ch) (s : State) : State :=
  if s.conf.channels[c].loadType = .motor ∧ s.drive.chans[c].state = .on ∧ s.drive.chans[c].stallTimer ≤ 1 then
    s.onChannel (fun d e c => (d.modChan c (fun x => { x with stallTimer := 0 })).trip e c .stall) c
  else s

/-- STALL_TIMER_EXPIRY (R95). -/
def execStallTimerExpiry (c : Ch) (s : State) : Host.Outcome State Fault Refusal :=
  .next (event (stallTimerExpiry c) s)

/-- The 100th counted reading below the open-load level sets a clear flag (R96). The reading was counted at its own
on-tick; the phase may have turned since, and the flag is set all the same (R128; log entry 36). -/
def openFlagSet (c : Ch) (s : State) : State :=
  if s.drive.watchesOpen s.conf.channels[c] c = true ∧ s.drive.chans[c].openFlag = false ∧
      openRun ≤ s.drive.chans[c].openCount then
    { s with drive := s.drive.setOpen c }
  else s

/-- OPEN_FLAG_SET (R96). -/
def execOpenFlagSet (c : Ch) (s : State) : Host.Outcome State Fault Refusal :=
  .next (event (openFlagSet c) s)

/-- The 100th counted reading at or above the open-load level clears a set flag, whatever the phase since (R96, R128; log
entry 36). -/
def openFlagClear (c : Ch) (s : State) : State :=
  if s.drive.watchesOpen s.conf.channels[c] c = true ∧ s.drive.chans[c].openFlag = true ∧
      openRun ≤ s.drive.chans[c].openCount then
    { s with drive := s.drive.clearOpen c }
  else s

/-- OPEN_FLAG_CLEAR (R96). -/
def execOpenFlagClear (c : Ch) (s : State) : Host.Outcome State Fault Refusal :=
  .next (event (openFlagClear c) s)

end Sys2Proof.Machine
end

