-- ==== Sys2Proof/Machine/Supply.lean ====
section
/-!
DEFINITION. Commands of the Feed Admission Unit and the Supply Monitor: SET BUDGET (R112, R113), FEED STATUS (R114,
R158), SET SUPPLY LIMITS (R119), VSENSE readings and the setting and clearing of the supply-low flag (R116 to R118).
-/

namespace Sys2Proof.Machine

/-- The greatest budget of a feed (R102). -/
def maxBudget : Nat := 4000

/-- SET BUDGET after BUSY: raised, a pass; lowered below the committed sum, sheds; otherwise nothing further (R112,
R113). -/
def setBudgetBody (feed : Byte) (budget : Word16) (s : State) : State × Answer :=
  match feedOfByte feed with
  | none => (s, refuse .badValue)
  | some fd =>
    if maxBudget < budget.toNat then (s, refuse .badValue)
    else
      let f := fd.index
      let old := s.conf.budgets[f]
      let s1 := { s with conf := { s.conf with budgets := s.conf.budgets.set f budget.toNat } }
      let d :=
        if old < budget.toNat then s1.drive.pass s1.env f
        else if budget.toNat < old then Drive.shedDown s1.env f s1.drive.feeds[f].admitted.length s1.drive
        else s1.drive
      ({ s1 with drive := d },
        taken (wordBytes budget ++ numWord d.feeds[f].committed ++ [numByte d.feeds[f].queue.length]))

/-- SET BUDGET (R112). -/
def execSetBudget (h : Header) (feed : Byte) (budget : Word16) (s : State) : Host.Outcome State Fault Refusal :=
  .next (request .setBudget h (unlessStoring (setBudgetBody feed budget)) s)

/-- The channel number of a queue entry as a nibble, 0 beyond the queue (R158). -/
def queueNibble (q : List Entry) (i : Nat) : Nat :=
  match q[i]? with
  | none => 0
  | some x => x.ch.val

/-- The flags of channels that stand in a queue with an upgrade entry (R114). -/
def upgradeSet (q : List Entry) : ChSet :=
  BitVec.ofNat 16 (bitsOf (allChans.map (fun c => q.contains ⟨c, .upgrade⟩)))

/-- The items of FEED STATUS (R114, R158). -/
def feedItems (s : State) (f : Fin 3) : List Byte :=
  let x := s.drive.feeds[f]
  numWord s.conf.budgets[f] ++ numWord x.committed ++
    [numByte (128 * (flagByte s.supply.low).toNat + x.queue.length)] ++
    [0, 1, 2, 3, 4, 5, 6, 7].map (fun j => nibbles (queueNibble x.queue (2 * j)) (queueNibble x.queue (2 * j + 1))) ++
    wordBytes (upgradeSet x.queue)

/-- FEED STATUS's answer (R114). -/
def feedAnswer (feed : Byte) (s : State) : Answer :=
  match feedOfByte feed with
  | none => refuse .badValue
  | some fd => taken (feedItems s fd.index)

/-- FEED STATUS (R114, R158). -/
def execFeedStatus (h : Header) (feed : Byte) (s : State) : Host.Outcome State Fault Refusal :=
  .next (reading .feedStatus h (feedAnswer feed) s)

/-- SET SUPPLY LIMITS after BUSY (R119). -/
def setSupplyLimitsBody (uv recovery : Word16) (s : State) : State × Answer :=
  if uv.toNat < 100 ∨ 300 < uv.toNat then (s, refuse .badValue)
  else if recovery.toNat < uv.toNat + 5 ∨ 350 < recovery.toNat then (s, refuse .badValue)
  else
    ({ s with conf := { s.conf with uv := uv.toNat, recovery := recovery.toNat } },
      taken (wordBytes uv ++ wordBytes recovery))

/-- SET SUPPLY LIMITS (R119). -/
def execSetSupplyLimits (h : Header) (uv recovery : Word16) (s : State) : Host.Outcome State Fault Refusal :=
  .next (request .setSupplyLimits h (unlessStoring (setSupplyLimitsBody uv recovery)) s)

/-- The greatest voltage reading; the conversion saturates there (R116, R139). -/
def maxVoltage : Nat := 600

/-- One feed's channels of class 0 and 1 are shed, earliest admitted first; answers whether any was (R117 step 1). -/
def Drive.shedLow (d : Drive) (e : Env) (f : Fin 3) : Drive × Bool :=
  let victims := d.feeds[f].admitted.filter (fun c => decide (d.chans[c].rank ≤ 1))
  (victims.foldl (fun d c => d.shed e c .undervolt) d, !victims.isEmpty)

/-- The supply-low flag is set by a reading (R117). -/
def State.setLow (s : State) : State :=
  let s := { s with supply := { s.supply with low := true, count := 0 } }
  let e := s.env
  let r := allFeeds.foldl (fun (acc : Drive × List (Fin 3)) f =>
    let q := acc.1.shedLow e f
    (q.1, if q.2 then f :: acc.2 else acc.2)) (s.drive, [])
  { s with drive := (r.1.passes e r.2).setKind .supply }

/-- The supply-low flag clears (R118). -/
def State.clearLow (s : State) : State :=
  let s := { s with supply := { s.supply with low := false, count := 0 } }
  { s with drive := (s.drive.passes s.env allFeeds).setKind .supply }

/-- The length of a recovery run, less its last reading (R116). -/
def recoveryRun : Nat := 499

/-- A VSENSE reading (R116). -/
def supplyReading (sense : Nat) (s : State) : State :=
  let v := min maxVoltage sense
  let s := { s with supply := { s.supply with vsense := v } }
  if s.supply.low then
    if v < s.conf.recovery then { s with supply := { s.supply with count := 0 } }
    else if s.supply.count < recoveryRun then { s with supply := { s.supply with count := s.supply.count + 1 } }
    else s.clearLow
  else if v < s.conf.uv then s.setLow
  else s

/-- SUPPLY_READING (R116, R117). -/
def execSupplyReading (sense : Nat) (s : State) : Host.Outcome State Fault Refusal :=
  .next (event (supplyReading sense) s)

/-- The reading that completes a recovery run: the 500th consecutive one at or above Recovery (R118). Any other reading
is no recovery, and nothing happens (log entry 4). -/
def supplyRecovery (sense : Nat) (s : State) : State :=
  if s.supply.low = true ∧ recoveryRun ≤ s.supply.count ∧ s.conf.recovery ≤ min maxVoltage sense then
    supplyReading sense s
  else s

/-- SUPPLY_RECOVERY (R118). -/
def execSupplyRecovery (sense : Nat) (s : State) : Host.Outcome State Fault Refusal :=
  .next (event (supplyRecovery sense) s)

end Sys2Proof.Machine
end

