-- ==== Sys2Proof/Machine/Flash.lean ====
section
/-!
DEFINITION. Commands of the Flash Generator: SET FLASH PERIOD (R127) and the expiry of its phases (R123).
-/

namespace Sys2Proof.Machine

/-- The items of SET FLASH PERIOD: the setting, the run state, and the cycle in progress, all ones where absent
(R127, R153). -/
def flashItems (s : State) : List Byte :=
  numByte s.conf.period ::
    match s.drive.flash with
    | none => [0x00#8, 0xFF#8, 0xFF#8, 0xFF#8, 0xFF#8, 0xFF#8, 0xFF#8]
    | some cy =>
      [0x01#8, flagByte (decide (cy.phase = .on)), flagByte (decide (cy.rate = .fast))] ++
        numWord cy.onLen ++ numWord cy.offLen

/-- SET FLASH PERIOD after BUSY (R127). -/
def setFlashPeriodBody (period : Byte) (s : State) : State × Answer :=
  if period.toNat < 40 ∨ 200 < period.toNat then (s, refuse .badValue)
  else
    let s' := { s with conf := { s.conf with period := period.toNat } }
    (s', taken (flashItems s'))

/-- SET FLASH PERIOD (R127). -/
def execSetFlashPeriod (h : Header) (period : Byte) (s : State) : Host.Outcome State Fault Refusal :=
  .next (request .setFlashPeriod h (unlessStoring (setFlashPeriodBody period)) s)

/-- The phase timer of an off phase expires: the next on-phase start is taken (R123). -/
def onPhaseStart (s : State) : State :=
  match s.drive.flash with
  | none => s
  | some cy =>
    if cy.phase = .off ∧ cy.timer ≤ 1 then
      { s with drive := { s.drive with flash := some (newCycle s.env s.drive) } }
    else s

/-- ON_PHASE_START (R123). -/
def execOnPhaseStart (s : State) : Host.Outcome State Fault Refusal :=
  .next (event onPhaseStart s)

/-- The phase timer of an on phase expires: the off phase of the cycle begins (R123). -/
def onPhaseExpiry (s : State) : State :=
  match s.drive.flash with
  | none => s
  | some cy =>
    if cy.phase = .on ∧ cy.timer ≤ 1 then
      { s with drive := { s.drive with flash := some { cy with phase := .off, timer := cy.offLen } } }
    else s

/-- ON_PHASE_EXPIRY (R123). -/
def execOnPhaseExpiry (s : State) : Host.Outcome State Fault Refusal :=
  .next (event onPhaseExpiry s)

end Sys2Proof.Machine
end

