-- ==== Sys2Proof/Machine/Lines.lean ====
section
/-!
DEFINITION. Commands of the Line Inputs: readings and the debounce filter (R131, R132), line records (R133, R134), BIND
LINE (R135) and READ LINE (R136).
-/

namespace Sys2Proof.Machine

/-- The handle of a line's record (R7). -/
def lineHandle (n : LineNo) : Handle := ⟨60 + n.val, by omega⟩

/-- The line is active: its debounced pin level is high with ACTIVE_HIGH or low with ACTIVE_LOW (R130). -/
def lineActive (b : Binding) (l : Line) : Bool := l.debounced == decide (b.polarity = .activeHigh)

def State.active (s : State) (n : LineNo) : Bool := lineActive s.conf.bindings[n] s.lines[n]

/-- A line's record is freed if it is LIVE, and made LIVE under the binding in force if the line is bound and active
(R133, R134). Nothing is handed on yet. A BIND LINE that leaves the line active does so at once (R135 step 3), also after
a power-on with no debounced change of the line yet; the last clause of R47 is read as one about the bindings that the
image loads (log entry 33). -/
def State.refreshLine (s : State) (n : LineNo) : State :=
  let s := s.freeRecord (lineHandle n)
  let b := s.conf.bindings[n]
  if b.enabled = true ∧ s.active n = true then
    let d : Demand := { owner := 11, load := b.load, channel := s.conf.loads[b.load].channel, level := b.level,
                        cls := b.cls, hold := 0 }
    (s.makeLive (lineHandle n) d none).raiseHeld 11
  else s

/-- A line's record follows the line's binding and activity, and each channel it left or joined hands on its pair
(R43, R133, R134). -/
def State.settleLine (s : State) (n : LineNo) : State :=
  let before := s.records[lineHandle n].liveChannel
  let s := s.refreshLine n
  let after := s.records[lineHandle n].liveChannel
  s.handOver (allChans.filter (fun c => before.contains c || after.contains c))

/-- The reload of the debounce counter (R132). -/
def debounceReload : Nat := 20

/-- A reading of a LINEn input at its filter; a change of the debounced pin level reaches the line record of a bound
line (R131 to R134). -/
def lineReading (n : LineNo) (high : Bool) (s : State) : State :=
  let l := s.lines[n]
  if high = l.debounced then { s with lines := s.lines.set n { l with counter := debounceReload } }
  else if 1 < l.counter then { s with lines := s.lines.set n { l with counter := l.counter - 1 } }
  else
    let s := { s with lines := s.lines.set n { debounced := high, counter := debounceReload } }
    if s.conf.bindings[n].enabled then s.settleLine n else s

/-- LINE_READING (R131, R132). -/
def execLineReading (n : LineNo) (high : Bool) (s : State) : Host.Outcome State Fault Refusal :=
  .next (event (lineReading n high) s)

/-- The 20th differing reading changes the debounced pin level (R132); with the counter above 1 there is no such reading
yet, and nothing happens (log entry 4). -/
def debounceChange (n : LineNo) (s : State) : State :=
  if s.lines[n].counter ≤ 1 then lineReading n (!s.lines[n].debounced) s else s

/-- DEBOUNCE_CHANGE (R132). -/
def execDebounceChange (n : LineNo) (s : State) : Host.Outcome State Fault Refusal :=
  .next (event (debounceChange n) s)

/-- The items of a binding: enabled, polarity, load, level, class (R135, R136). -/
def bindingItems (b : Binding) : List Byte :=
  [flagByte b.enabled, if b.polarity = .activeHigh then 0x00#8 else 0x01#8, numByte b.load.val] ++
    levelItem b.level ++ [numByte b.cls.val]

/-- The items of BIND LINE (R135). -/
def boundItems (s : State) (n : LineNo) : List Byte :=
  bindingItems s.conf.bindings[n] ++
    [flagByte s.lines[n].debounced, flagByte (s.active n), recordCode s.records[lineHandle n]]

/-- The binding that BIND LINE writes; with enabled no the load, level and class are kept (R135 step 2). -/
def bindingOf (s : State) (n : LineNo) (enabled load : Byte) (polarity : Polarity) (level : LevelParam) (cls : Byte) :
    Except Status Binding :=
  if yes enabled then
    match loadOf load with
    | none => .error .noLoad
    | some l =>
      if s.conf.loads[l].enabled = false then .error .noLoad
      else match exactLevel level, clsOf cls with
        | some lvl, some k =>
          if flashRefused s.conf.channels[s.conf.loads[l].channel] lvl then .error .badValue
          else .ok { enabled := true, polarity := polarity, load := l, level := lvl, cls := k }
        | _, _ => .error .badValue
  else .ok { s.conf.bindings[n] with enabled := false, polarity := polarity }

/-- BIND LINE after BUSY (R135). -/
def bindLineBody (line enabled polarity load : Byte) (level : LevelParam) (cls : Byte) (s : State) : State × Answer :=
  match lineOf line, polarityOf polarity with
  | some n, some pol =>
    match bindingOf s n enabled load pol level cls with
    | .error status => (s, refuse status)
    | .ok b =>
      let s' := { s with conf := { s.conf with bindings := s.conf.bindings.set n b } }.settleLine n
      (s', taken (boundItems s' n))
  | _, _ => (s, refuse .badValue)

/-- BIND LINE (R135). -/
def execBindLine (h : Header) (line enabled polarity load : Byte) (level : LevelParam) (cls : Byte) (s : State) :
    Host.Outcome State Fault Refusal :=
  .next (request .bindLine h (unlessStoring (bindLineBody line enabled polarity load level cls)) s)

/-- READ LINE's answer (R136). -/
def lineAnswer (line : Byte) (s : State) : Answer :=
  match lineOf line with
  | none => refuse .badValue
  | some n =>
    taken (bindingItems s.conf.bindings[n] ++
      [flagByte s.lines[n].debounced, flagByte (s.active n), numByte s.lines[n].counter,
       recordCode s.records[lineHandle n]])

/-- READ LINE (R136). -/
def execReadLine (h : Header) (line : Byte) (s : State) : Host.Outcome State Fault Refusal :=
  .next (reading .readLine h (lineAnswer line) s)

end Sys2Proof.Machine
end

