-- ==== Sys2Proof/Machine/OutputCheck.lean ====
section
/-!
DEFINITION. Commands of the Output Check Unit: CHECK OUTPUTS (R140), the ends of its two steps (R141, R142), CHECK
RESULTS (R144, R158).
-/

namespace Sys2Proof.Machine

/-- The number of members of a channel set. -/
def setSize (x : ChSet) : Nat := allChans.countP (fun c => x.getLsbD c.val)

/-- The run state code of CHECK RESULTS (R158). -/
def runCode (x : Check) : Byte := flagByte x.run.isSome

/-- CHECK OUTPUTS (R140). -/
def checkOutputsBody (selection : Word16) (s : State) : State × Answer :=
  if selection = 0#16 then (s, refuse .badValue)
  else if s.drive.check.run.isSome then (s, refuse .busy)
  else
    let d := { s.drive with check := { run := none, results := Vector.replicate 16 .notTested,
                                       untested := setSize selection } }
    let d := d.visitFrom selection 0
    ({ s with drive := d }, taken [runCode d.check, numByte d.check.untested])

/-- CHECK OUTPUTS (R140). -/
def execCheckOutputs (h : Header) (selection : Word16) (s : State) : Host.Outcome State Fault Refusal :=
  .next (request .checkOutputs h (checkOutputsBody selection) s)

/-- The four results of one result byte, the lowest channel in the high bits (R158). -/
def resultByte (x : Check) (i : Fin 4) : Byte :=
  let bits (j : Fin 4) : Nat := checkBits x.results[4 * i.val + j.val]
  BitVec.ofNat 8 (64 * bits 0 + 16 * bits 1 + 4 * bits 2 + bits 3)

/-- CHECK RESULTS's answer (R144, R158). -/
def resultsAnswer (s : State) : Answer :=
  let x := s.drive.check
  taken [resultByte x 0, resultByte x 1, resultByte x 2, resultByte x 3, numByte x.untested, runCode x]

/-- CHECK RESULTS (R144). -/
def execCheckResults (h : Header) (s : State) : Host.Outcome State Fault Refusal :=
  .next (reading .checkResults h resultsAnswer s)

/-- A test ends with a result: the untested count falls and the next member is visited (R141). -/
def Drive.endTest (d : Drive) (r : Run) (result : CheckResult) : Drive :=
  let check := { d.check with results := d.check.results.set r.test.ch result,
                              untested := d.check.untested - 1 }
  { d with check := check }.visitFrom r.selection (r.test.ch.val + 1)

/-- The UNBIASED step ends with an output reading, its timer having reached 0: 1 ms after the visit (R141). -/
def unbiasedStepEnd (sense : Nat) (s : State) : State :=
  match s.drive.check.run with
  | none => s
  | some r =>
    if r.test.step = .unbiased ∧ r.test.timer = 0 then
      if s.supply.vsense < 2 * min maxVoltage sense then { s with drive := s.drive.endTest r .shortToSupply }
      else { s with drive := { s.drive with check := { s.drive.check with
                run := some { r with test := { r.test with step := .biased, timer := 3 } } } } }
    else s

/-- UNBIASED_STEP_END (R141). -/
def execUnbiasedStepEnd (sense : Nat) (s : State) : Host.Outcome State Fault Refusal :=
  .next (event (unbiasedStepEnd sense) s)

/-- The BIASED step ends with an output reading, its timer having reached 0: 4 ms after the visit (R141). -/
def biasedStepEnd (sense : Nat) (s : State) : State :=
  match s.drive.check.run with
  | none => s
  | some r =>
    if r.test.step = .biased ∧ r.test.timer = 0 then
      let result := if 7 * s.supply.vsense < 10 * min maxVoltage sense then .openLoad else .ok
      { s with drive := s.drive.endTest r result }
    else s

/-- BIASED_STEP_END (R141). -/
def execBiasedStepEnd (sense : Nat) (s : State) : Host.Outcome State Fault Refusal :=
  .next (event (biasedStepEnd sense) s)

end Sys2Proof.Machine
end

