-- ==== Sys2Proof/Machine/Store.lean ====
section
/-!
DEFINITION. The Configuration Store and start-up: STORE CONFIGURATION (R167), the completion and the cutting short of a
store write (R169, R170), power-on and reset (R171), and RESTART (R172).
-/

namespace Sys2Proof.Machine

/-- STORE CONFIGURATION after BUSY (R167). -/
def storeBody (s : State) : State × Answer :=
  ({ s with store := { s.store with valid := false, writing := some s.conf, result := .inFlight } },
    taken [flagByte false, storeCode .inFlight])

/-- STORE CONFIGURATION (R167). -/
def execStoreConfiguration (h : Header) (s : State) : Host.Outcome State Fault Refusal :=
  .next (request .storeConfiguration h (unlessStoring storeBody) s)

/-- A store write ends: the check value over the contents read back is compared with the check value written (R169).
With no store in flight there is no write to end, and nothing happens. -/
def storeWriteCompletion (readBack : Configuration) (s : State) : State :=
  match s.store.writing with
  | none => s
  | some contents =>
    let check := Config.checkValue contents
    let ok := decide (Config.checkValue readBack = check)
    { s with store := { image := ⟨readBack, check⟩, valid := ok, writing := none,
                        result := if ok then .ok else .failed }
             drive := s.drive.setKind .store }

/-- STORE_WRITE_COMPLETION (R169). -/
def execStoreWriteCompletion (readBack : Configuration) (s : State) : Host.Outcome State Fault Refusal :=
  .next (event (storeWriteCompletion readBack) s)

/-- What a write cut short leaves: free contents, and a free check value that does not agree with them (R170). -/
def cutImage (n : Nat) : Image :=
  let contents := Config.cutContents n
  let check := Config.cutCheck n
  ⟨contents, if check = Config.checkValue contents then check + 1 else check⟩

/-- A store in flight is cut short by loss of supply or reset (R170). -/
def State.cutStore (s : State) : State :=
  match s.store.writing with
  | none => s
  | some _ =>
    { s with store := { s.store with image := cutImage s.freeCount, writing := none }
             freeCount := s.freeCount + 1 }

/-- A frame in progress is no longer counted (R148). -/
def Csn.uncount : Csn → Csn
  | .frame _ _ => .lowUncounted
  | .high => .high
  | .lowUncounted => .lowUncounted

/-- The stored check value agrees with the stored contents (R171 step 1). -/
def Image.agrees (x : Image) : Bool := decide (Config.checkValue x.contents = x.check)

/-- The power-on sequence (R171). A store in flight has been cut short by the loss that went before (R170). -/
def powerOn (s : State) : State :=
  let s := s.cutStore
  let valid := s.store.image.agrees
  let conf := if valid then s.store.image.contents else defaultConfiguration
  { pending   := s.pending
    now       := 0
    inReset   := false
    link      := { response := noResponse, csn := s.link.csn.uncount }
    conf      := conf
    records   := Vector.replicate 64 .free
    held      := Vector.replicate 12 0
    lists     := Vector.replicate 16 []
    monitors  := Vector.replicate 16 startMonitor
    drive     := startDrive conf valid
    supply    := { low := true, count := 0, vsense := 0 }
    lines     := Vector.ofFn (fun n : LineNo => startLine conf.bindings[n])
    store     := { image := s.store.image, valid := valid, writing := none, result := .none }
    pwmLeft   := pwmPeriod
    freeCount := s.freeCount }

/-- POWER_ON (R171). -/
def execPowerOn (s : State) : Host.Outcome State Fault Refusal := .next (powerOn s)

/-- RESETN goes low or the supply is lost: the part is held in reset, a store write in flight stops, and a frame in
progress is not taken (R148, R170, R171). The outputs follow from `inReset`. -/
def resetAssert (s : State) : State :=
  let s := s.cutStore
  { s with inReset := true, link := { s.link with csn := s.link.csn.uncount } }

/-- RESET_ASSERT (R170, R171). -/
def execResetAssert (s : State) : Host.Outcome State Fault Refusal := .next (resetAssert s)

/-- The records that RESTART frees: those of slots 0 to 10 (R29). -/
def requesterHandle (h : Handle) : Bool := decide (h.val < 60)

/-- The held counts after RESTART: 0 for slots 0 to 10, kept for slot 11 (R29). -/
def heldAfterRestart (held : Vector Nat 12) : Vector Nat 12 :=
  Vector.ofFn (fun n : SlotNo => if n.val = 11 then held[n] else 0)

/-- The drive side as RESTART finds it before any channel follows: an output check run aborted without CHECK (R146),
and the pending kinds and the three sets emptied (R165). -/
def Drive.restartUnits (d : Drive) : Drive :=
  { d with check := { d.check with run := none }
           notice := { kinds := 0#8, changed := 0#16, warn := 0#16, openSet := 0#16 } }

/-- RESTART after BUSY (R172). -/
def restartBody (s : State) : State × Answer :=
  let freed := allHandles.countP (fun h => requesterHandle h && !s.records[h].isFree)
  let s1 := s.freeAll requesterHandle
  let s2 := { s1 with held := heldAfterRestart s.held, drive := s.drive.restartUnits }
  (s2.handOver allChans, taken [numByte freed])

/-- RESTART (R172). -/
def execRestart (h : Header) (s : State) : Host.Outcome State Fault Refusal :=
  .next (request .restart h (unlessStoring restartBody) s)

end Sys2Proof.Machine
end

