-- ==== Sys2Proof/Machine/Pins.lean ====
section
/-!
DEFINITION. The output pins, computed from the state: the gates (R55, R123), NOTICEN (R160) and the test bias (R139).
While the part is held in reset every gate is off, NOTICEN is released and no bias is applied (R171). SDO is in
Machine/Link.lean.
-/

namespace Sys2Proof.Machine

/-- How a gate is driven: off, on continuously, or switched at 200 Hz with an on part of duty/64 (R55). -/
inductive GateDrive where
  | off | on
  | pwm (duty : Fin 64)
  deriving DecidableEq, Repr

/-- The gate of a channel (R55). -/
def State.gate (s : State) (c : Ch) : GateDrive :=
  let x := s.drive.chans[c]
  if s.inReset || !x.state.driven then .off
  else match x.applied with
    | .off => .off
    | .steady => .on
    | .flash => if s.drive.flashOn then .on else .off
    | .dim d => if x.pwmSettled then .pwm d else .on

/-- NOTICEN is held low (R160). -/
def State.noticenLow (s : State) : Bool :=
  !s.inReset && decide (s.drive.notice.kinds &&& s.conf.enable ≠ 0#8)

/-- The channel whose output carries the test bias, if any (R139). -/
def State.bias (s : State) : Option Ch :=
  if s.inReset then none
  else match s.drive.check.run with
    | some r => if r.test.step = .biased then some r.test.ch else none
    | none => none

end Sys2Proof.Machine
end

