-- ==== Sys2Proof/Machine/Clock.lean ====
section
/-!
DEFINITION. The part's clock: one millisecond passes (R20, R22, R76, R123, R141, R171 step 4). Every running timer falls
by 1, but a timer in its last millisecond stays there, and the event that takes it to 0 joins the queue of commands
(log entries 1 and 2). The steps of an output check and the end of a store write bring readings with them and are left
to their own commands (log entry 3).
-/

namespace Sys2Proof.Machine

/-- A timer one millisecond later, kept at 1 for its event. -/
def countDown (ms : Nat) : Nat := if ms ≤ 1 then ms else ms - 1

/-- A record's timers one millisecond later (R20, R22). -/
def Record.tick : Record → Record
  | .free => .free
  | .live d rem => .live d (rem.map countDown)
  | .lapsed d g => .lapsed d (countDown g)

/-- A channel's timers one millisecond later (R53). -/
def Channel.tick (x : Channel) : Channel :=
  { x with inrushTimer := x.inrushTimer.map countDown, retryTimer := x.retryTimer.map countDown,
           cleanTimer := x.cleanTimer.map countDown }

/-- A test's step timer one millisecond later (R141). It falls to 0, where it waits for the command that ends the step
with its reading (log entry 28). -/
def Run.tick (r : Run) : Run := { r with test := { r.test with timer := r.test.timer - 1 } }

/-- The drive side's timers one millisecond later. -/
def Drive.tick (d : Drive) : Drive :=
  { d with
    chans := Vector.ofFn (fun c : Ch => d.chans[c].tick)
    pairs := Vector.ofFn (fun p : PairNo => { d.pairs[p] with dead := d.pairs[p].dead.map countDown })
    flash := d.flash.map (fun cy => { cy with timer := countDown cy.timer })
    check := { d.check with run := d.check.run.map Run.tick } }

/-- The phase event that is due. -/
def flashDue (d : Drive) : List Instr :=
  match d.flash with
  | none => []
  | some cy => if cy.timer ≤ 1 then (match cy.phase with | .on => [.onPhaseExpiry] | .off => [.onPhaseStart]) else []

/-- A record's expiry event that is due. -/
def recordDue (s : State) (h : Handle) : List Instr :=
  match s.records[h] with
  | .live _ (some ms) => if ms ≤ 1 then [.holdExpiry h] else []
  | .lapsed _ ms => if ms ≤ 1 then [.graceExpiry h] else []
  | .live _ none | .free => []

/-- The timer events of a channel that are due. -/
def channelDue (s : State) (c : Ch) : List Instr :=
  (if expires s.drive.chans[c].inrushTimer then [.inrushTimerExpiry c] else []) ++
  (if expires s.drive.chans[c].retryTimer then [.retryTimerExpiry c] else []) ++
  (if expires s.drive.chans[c].cleanTimer then [.cleanRunExpiry c] else [])

/-- The events due in the millisecond that passes, in the order in which they join the queue (log entry 1). -/
def State.due (s : State) : List Instr :=
  flashDue s.drive ++
  allPairs.flatMap (fun p => if expires s.drive.pairs[p].dead then [.deadTimeExpiry p] else []) ++
  allChans.flatMap (channelDue s) ++
  allHandles.flatMap (recordDue s) ++
  (if s.pwmLeft ≤ 1 then [.pwmPeriodStart] else [])

/-- One millisecond passes. In reset the time bases stand still (R171). -/
def State.tick (s : State) : State :=
  if s.inReset then s
  else
    { s with
      pending := s.pending ++ s.due
      now := s.now + 1
      records := Vector.ofFn (fun h : Handle => s.records[h].tick)
      drive := s.drive.tick
      pwmLeft := countDown s.pwmLeft }

end Sys2Proof.Machine
end

