-- ==== Sys2Proof/Machine/Dispatch.lean ====
section
/-! DEFINITION. What each command does, one arm a command (spec/opcode_table.json). -/

namespace Sys2Proof.Machine

/-- The effect of a command on everything but the queue of commands. -/
def exec (i : Instr) (s : State) : Host.Outcome State Fault Refusal :=
  match i with
  | .poll h => Sys2Proof.Machine.execPoll h s
  | .readNotices h => Sys2Proof.Machine.execReadNotices h s
  | .clearNotices h mask => Sys2Proof.Machine.execClearNotices h mask s
  | .setNoticeEnable h kinds => Sys2Proof.Machine.execSetNoticeEnable h kinds s
  | .describe h => Sys2Proof.Machine.execDescribe h s
  | .place h load level cls hold => Sys2Proof.Machine.execPlace h load level cls hold s
  | .renew h handle => Sys2Proof.Machine.execRenew h handle s
  | .amend h handle level cls hold => Sys2Proof.Machine.execAmend h handle level cls hold s
  | .retire h handle => Sys2Proof.Machine.execRetire h handle s
  | .renewAll h target => Sys2Proof.Machine.execRenewAll h target s
  | .retireAll h target => Sys2Proof.Machine.execRetireAll h target s
  | .lookup h handle => Sys2Proof.Machine.execLookup h handle s
  | .readLapsed h => Sys2Proof.Machine.execReadLapsed h s
  | .mapLoad h load enabled channel permitted => Sys2Proof.Machine.execMapLoad h load enabled channel permitted s
  | .readLoad h load => Sys2Proof.Machine.execReadLoad h load s
  | .list h channel => Sys2Proof.Machine.execList h channel s
  | .setRequester h target enabled quota ceiling => Sys2Proof.Machine.execSetRequester h target enabled quota ceiling s
  | .addQuota h target n => Sys2Proof.Machine.execAddQuota h target n s
  | .readRequester h target => Sys2Proof.Machine.execReadRequester h target s
  | .setChannelLimits h channel p => Sys2Proof.Machine.execSetChannelLimits h channel p s
  | .setChannelProfile h channel p => Sys2Proof.Machine.execSetChannelProfile h channel p s
  | .lock h channel => Sys2Proof.Machine.execLock h channel s
  | .unlock h channel => Sys2Proof.Machine.execUnlock h channel s
  | .clearFault h channel => Sys2Proof.Machine.execClearFault h channel s
  | .channelStatus h channel => Sys2Proof.Machine.execChannelStatus h channel s
  | .setInterlock h pair enabled a b => Sys2Proof.Machine.execSetInterlock h pair enabled a b s
  | .readInterlock h pair => Sys2Proof.Machine.execReadInterlock h pair s
  | .setBudget h feed budget => Sys2Proof.Machine.execSetBudget h feed budget s
  | .feedStatus h feed => Sys2Proof.Machine.execFeedStatus h feed s
  | .setSupplyLimits h uv recovery => Sys2Proof.Machine.execSetSupplyLimits h uv recovery s
  | .setFlashPeriod h period => Sys2Proof.Machine.execSetFlashPeriod h period s
  | .bindLine h line enabled polarity load level cls => Sys2Proof.Machine.execBindLine h line enabled polarity load level cls s
  | .readLine h line => Sys2Proof.Machine.execReadLine h line s
  | .checkOutputs h selection => Sys2Proof.Machine.execCheckOutputs h selection s
  | .checkResults h => Sys2Proof.Machine.execCheckResults h s
  | .storeConfiguration h => Sys2Proof.Machine.execStoreConfiguration h s
  | .restart h => Sys2Proof.Machine.execRestart h s
  | .unknownKindFrame kind h => Sys2Proof.Machine.execUnknownKindFrame kind h s
  | .frameDiscard edges => Sys2Proof.Machine.execFrameDiscard edges s
  | .holdExpiry handle => Sys2Proof.Machine.execHoldExpiry handle s
  | .graceExpiry handle => Sys2Proof.Machine.execGraceExpiry handle s
  | .deadTimeExpiry pair => Sys2Proof.Machine.execDeadTimeExpiry pair s
  | .inrushTimerExpiry channel => Sys2Proof.Machine.execInrushTimerExpiry channel s
  | .retryTimerExpiry channel => Sys2Proof.Machine.execRetryTimerExpiry channel s
  | .overloadRetry channel => Sys2Proof.Machine.execOverloadRetry channel s
  | .coolingFlagClear channel => Sys2Proof.Machine.execCoolingFlagClear channel s
  | .cleanRunExpiry channel => Sys2Proof.Machine.execCleanRunExpiry channel s
  | .sampleCompletion channel sense => Sys2Proof.Machine.execSampleCompletion channel sense s
  | .stallTimerExpiry channel => Sys2Proof.Machine.execStallTimerExpiry channel s
  | .openFlagSet channel => Sys2Proof.Machine.execOpenFlagSet channel s
  | .openFlagClear channel => Sys2Proof.Machine.execOpenFlagClear channel s
  | .pwmPeriodStart => Sys2Proof.Machine.execPwmPeriodStart s
  | .supplyReading sense => Sys2Proof.Machine.execSupplyReading sense s
  | .supplyRecovery sense => Sys2Proof.Machine.execSupplyRecovery sense s
  | .onPhaseStart => Sys2Proof.Machine.execOnPhaseStart s
  | .onPhaseExpiry => Sys2Proof.Machine.execOnPhaseExpiry s
  | .lineReading line high => Sys2Proof.Machine.execLineReading line high s
  | .debounceChange line => Sys2Proof.Machine.execDebounceChange line s
  | .unbiasedStepEnd sense => Sys2Proof.Machine.execUnbiasedStepEnd sense s
  | .biasedStepEnd sense => Sys2Proof.Machine.execBiasedStepEnd sense s
  | .storeWriteCompletion readBack => Sys2Proof.Machine.execStoreWriteCompletion readBack s
  | .powerOn => Sys2Proof.Machine.execPowerOn s
  | .resetAssert => Sys2Proof.Machine.execResetAssert s
  | .csnFall => Sys2Proof.Machine.execCsnFall s

end Sys2Proof.Machine
end

