-- ==== Sys2Proof/Safety.lean ====
section
/-!
DEFINITION. What the laws of the manual say of a state, in the terms that statements use: when a request is taken, and
what every state that a run reaches is to satisfy. Each is a plain proposition over the fields of the state.
-/

namespace Sys2Proof.Machine

/-! ### When a request frame reaches its block (R148, R151, R171) -/

/-- A frame of this header is taken and passes the checks of R151 for a kind permitted to any enabled slot. -/
structure State.Accepts (s : State) (h : Header) : Prop where
  running : s.inReset = false
  counted : s.link.csn ≠ .lowUncounted
  slot    : h.slot.toNat ≤ 10
  enabled : (requesterOf s.conf (slotOf h)).enabled = true

/-- A frame of this header is taken and passes the checks of R151 for a kind permitted to slot 0 alone. -/
structure State.Supervised (s : State) (h : Header) : Prop where
  running : s.inReset = false
  counted : s.link.csn ≠ .lowUncounted
  slot    : h.slot = 0#4

/-- The response to a request that is taken with no adjustment flag: its items are followed by 00h (R152). -/
def okResponse (k : Kind) (h : Header) (items : List Byte) : Response :=
  { kind := k.code, slotTag := headerByte h, status := .ok, flags := 0#8,
    result := items ++ List.replicate (15 - items.length) 0#8 }

/-- The response to a request that is refused (R152). -/
def refusalResponse (k : Kind) (h : Header) (status : Status) : Response :=
  { kind := k.code, slotTag := headerByte h, status := status, flags := 0#8, result := List.replicate 15 0#8 }

/-- The kinds that R168 refuses while a store write is in flight. -/
def Kind.storeBlocked : Kind → Bool
  | .setRequester | .addQuota | .mapLoad | .setChannelLimits | .setChannelProfile | .setInterlock | .setBudget
  | .setSupplyLimits | .setFlashPeriod | .bindLine | .setNoticeEnable | .storeConfiguration | .restart => true
  | .poll | .readNotices | .clearNotices | .describe | .place | .renew | .amend | .retire | .renewAll | .retireAll
  | .lookup | .readLapsed | .readLoad | .list | .readRequester | .lock | .unlock | .clearFault | .channelStatus
  | .readInterlock | .feedStatus | .readLine | .checkOutputs | .checkResults => false

/-- The kinds whose rules say that the request changes nothing (R6, R25, R26, R34, R46, R79, R80, R114, R136, R144,
R155, R161, R164). -/
def Kind.readsOnly : Kind → Bool
  | .poll | .readNotices | .describe | .lookup | .readLapsed | .readLoad | .list | .readRequester | .channelStatus
  | .readInterlock | .feedStatus | .readLine | .checkResults => true
  | .clearNotices | .setNoticeEnable | .place | .renew | .amend | .retire | .renewAll | .retireAll | .mapLoad
  | .setRequester | .addQuota | .setChannelLimits | .setChannelProfile | .lock | .unlock | .clearFault
  | .setInterlock | .setBudget | .setSupplyLimits | .setFlashPeriod | .bindLine | .checkOutputs
  | .storeConfiguration | .restart => false

/-! ### What PLACE and AMEND make of a demand (R10 to R12, R38) -/

/-- The level that a PLACE or an AMEND leaves in the record, from the level asked for (R10, R153): DIM with a duty of 64
or more becomes STEADY. -/
def levelAfterClamp (p : LevelParam) : Level :=
  if p.mode = 0x00#8 then .off else if p.mode = 0x01#8 then .steady else if p.mode = 0x02#8 then .flash
  else if 64 ≤ p.duty.toNat then .steady else .dim (Fin.ofNat 64 p.duty.toNat)

/-- The class that it leaves, with the ceiling in force (R10). -/
def classAfterClamp (ceiling : Cls) (cls : Byte) : Cls := Fin.ofNat 4 (min cls.toNat ceiling.val)

/-- The remaining time of a record whose hold has just been set: hold x 100 ms, absent for hold 0 (R12). -/
def startedHold (hold : Nat) : Option Nat := if hold = 0 then none else some (hold * 100)

/-- The adjustment flags of the clamps (R10, R152). -/
def clampFlags (ceiling : Cls) (p : LevelParam) (cls : Byte) (hold : Word16) : Byte :=
  BitVec.ofNat 8 ((if ceiling.val < cls.toNat then 1 else 0) + (if 3000 < hold.toNat then 2 else 0) +
    (if p.mode = 0x03#8 ∧ 64 ≤ p.duty.toNat then 4 else 0))

/-- The clamped request is one that R11 refuses, for a channel of this configuration. -/
def BadDemand (cfg : ChannelConfig) (ceiling : Cls) (p : LevelParam) (cls : Byte) (hold : Word16) : Prop :=
  3 < p.mode.toNat ∨ 3 < cls.toNat ∨ (p.mode = 0x03#8 ∧ p.duty = 0x00#8) ∨
  (p.mode = 0x02#8 ∧ (cfg.configured = false ∨ cfg.loadType ≠ .lamp)) ∨
  (hold = 0#16 ∧ min cls.toNat ceiling.val ≤ 1)

/-- `after` is `before` with one handle inserted behind every record of a class above `k` and ahead of the rest, whose
first record is of class `k` or below (R38). -/
def InsertedInClass (records : Vector Record 64) (k : Cls) (h : Handle) (before after : List Handle) : Prop :=
  ∃ ahead behind : List Handle, before = ahead ++ behind ∧ after = ahead ++ h :: behind ∧
    (∀ y ∈ ahead, k.val < records[y].rank) ∧ (∀ y, behind.head? = some y → records[y].rank ≤ k.val)

/-! ### The configuration -/

/-- The configuration in force has every field in its range, and what a store or a power-on may bring in has too. -/
structure State.ConfSound (s : State) : Prop where
  inForce : s.conf.WellFormed
  image   : s.store.image.agrees = true → s.store.image.contents.WellFormed
  writing : ∀ x, s.store.writing = some x → x.WellFormed
  pending : ∀ i ∈ s.pending, i.wellFormed = true

/-! ### Records, held counts, lists, winners -/

/-- Handles 0 to 59 serve slots 0 to 10; a line handle's record is LIVE or FREE, owned by slot 11, with no hold (R7,
R27). -/
def Record.SuitsHandle (r : Record) (h : Handle) : Prop :=
  match r with
  | .free => True
  | .live d rem => if h.val < 60 then d.owner.val ≤ 10 else d.owner.val = 11 ∧ d.hold = 0 ∧ rem = none
  | .lapsed d _ => h.val < 60 ∧ d.owner.val ≤ 10

/-- Each slot's held count is the number of non-FREE records it owns, and each record stands on a handle that its
owner may have (R2, R7, R27). -/
structure State.HeldSound (s : State) : Prop where
  counts : ∀ n : SlotNo, s.held[n] = allHandles.countP (fun h => s.records[h].ownedBy n)
  owners : ∀ h : Handle, s.records[h].SuitsHandle h

/-- The record is LIVE and its channel field is `c`. -/
def Record.liveOn (r : Record) (c : Ch) : Bool :=
  match r with
  | .live d _ => decide (d.channel = c)
  | .free | .lapsed _ _ => false

/-- Each list holds exactly the LIVE records of its channel, each once, at most 6 of them requester records, and the
classes fall along it (R36, R37). -/
structure State.ListsSound (s : State) : Prop where
  holdsLive : ∀ c : Ch, ∀ h : Handle, h ∈ s.lists[c] ↔ s.records[h].liveOn c = true
  once      : ∀ c : Ch, s.lists[c].Nodup
  capacity  : ∀ c : Ch, requesterCount s.lists[c] ≤ 6
  ordered   : ∀ c : Ch, s.lists[c].Pairwise (fun x y => s.records[y].rank ≤ s.records[x].rank)

/-- The Channel Sequencer of each channel holds the pair that the channel's list gives (R41, R42). -/
def State.WinnersHeld (s : State) : Prop :=
  ∀ c : Ch, (s.drive.chans[c].wanted, s.drive.chans[c].cls) = s.winnerPair c

/-! ### Channels and feeds -/

/-- The entry kind that a channel's state calls for in its feed's queue, if any (R104). -/
def Channel.entryKind (x : Channel) : Option EntryKind :=
  match x.state with
  | .waiting .budget => some .fresh
  | .on => if x.upgrade then some .upgrade else none
  | .disabled | .off | .waiting .cooling | .waiting (.interlock _) | .inrush | .tripped | .latched => none

/-- The sum of the reservations of the channels whose feed field names a feed (R102). -/
def Drive.reserved (d : Drive) (x : Configuration) (f : Fin 3) : Nat :=
  (allChans.map (fun c => if x.channels[c].feed.index = f then d.chans[c].reservation else 0)).sum

/-- The laws of the channels and the feeds. -/
structure Drive.FeedsSound (d : Drive) (x : Configuration) : Prop where
  /-- A channel wanted OFF is DISABLED or OFF (R53, R60). -/
  wantedOff : ∀ c : Ch, d.chans[c].wanted = .off → d.chans[c].state = .disabled ∨ d.chans[c].state = .off
  /-- A channel that is not driven applies OFF and holds no reservation (R53). -/
  undriven  : ∀ c : Ch, d.chans[c].state.driven = false → d.chans[c].applied = .off ∧ d.chans[c].reservation = 0
  /-- A channel in INRUSH holds the inrush reservation (R53). -/
  inrush    : ∀ c : Ch, d.chans[c].state = .inrush → d.chans[c].reservation = inrushReservation x.channels[c]
  /-- A channel in ON holds the steady reservation of its applied level (R53). -/
  on        : ∀ c : Ch, d.chans[c].state = .on →
                d.chans[c].reservation = steadyReservation x.channels[c] d.chans[c].applied
  /-- Upgrade pending stands in ON alone, and the wanted level then needs a larger reservation (R53, R61). -/
  upgrade   : ∀ c : Ch, d.chans[c].upgrade = true → d.chans[c].state = .on ∧
                d.chans[c].reservation < steadyReservation x.channels[c] (levelToApply x.channels[c] d.chans[c].wanted)
  /-- The queue holds the entries that the states of the feed's channels call for, and no others (R104). -/
  queue     : ∀ f : Fin 3, ∀ e : Entry, e ∈ d.feeds[f].queue ↔
                x.channels[e.ch].feed.index = f ∧ d.chans[e.ch].entryKind = some e.kind
  /-- A channel stands in the queue at most once (R104). -/
  once      : ∀ f : Fin 3, (d.feeds[f].queue.map Entry.ch).Nodup
  /-- The queue is in class order, highest first (R104). -/
  ordered   : ∀ f : Fin 3, d.feeds[f].queue.Pairwise (fun a b => d.chans[b.ch].rank ≤ d.chans[a.ch].rank)
  /-- The admitted list holds the driven channels of the feed, each once (R103). -/
  admitted  : ∀ f : Fin 3, d.feeds[f].admitted.Nodup ∧ ∀ c : Ch, c ∈ d.feeds[f].admitted ↔
                x.channels[c].feed.index = f ∧ d.chans[c].state.driven = true
  /-- The committed sum is the sum of the reservations and does not exceed the budget (R102). -/
  committed : ∀ f : Fin 3, d.feeds[f].committed = d.reserved x f ∧ d.feeds[f].committed ≤ x.budgets[f]

def State.FeedsSound (s : State) : Prop := s.drive.FeedsSound s.conf

/-- While the supply-low flag is set, no channel of effective class 0 or 1 is driven (R117). -/
def State.LowHolds (s : State) : Prop :=
  s.supply.low = true → ∀ c : Ch, s.drive.chans[c].state.driven = true → 2 ≤ s.drive.chans[c].rank

/-- The retry count is within the retry limit, and 0 in DISABLED (R66, R72). -/
def State.RetriesBounded (s : State) : Prop :=
  ∀ c : Ch, s.drive.chans[c].retries ≤ s.conf.channels[c].retryLimit ∧
    (s.drive.chans[c].state = .disabled → s.drive.chans[c].retries = 0)

/-- An open flag is set, and an open-load counter stands above 0, in ON alone and with an open-load level other than
0; the counter stays below 100 (R96, R97). -/
def State.OpenFlagsInOn (s : State) : Prop :=
  ∀ c : Ch, s.drive.chans[c].openCount ≤ 99 ∧
    (s.drive.chans[c].openFlag = true ∨ s.drive.chans[c].openCount ≠ 0 →
      s.drive.chans[c].state = .on ∧ s.conf.channels[c].openLoadLevel ≠ 0)

/-- A state in which a member of an enabled pair holds the pair whatever brought it there: it waits for budget or is
driven (R56, R75). -/
def ChanState.pastTest2 : ChanState → Bool
  | .waiting .budget | .inrush | .on => true
  | .disabled | .off | .waiting .cooling | .waiting (.interlock _) | .tripped | .latched => false

/-- A member of an enabled pair that has passed the interlock test holds the pair; dead time runs only without a holder;
a pair that is not enabled has neither (R75, R76). -/
structure State.PairsSound (s : State) : Prop where
  holders  : ∀ p : PairNo, s.conf.pairs[p].enabled = true →
    (s.drive.chans[s.conf.pairs[p].a].state.pastTest2 = true → s.drive.pairs[p].holder = .a) ∧
    (s.drive.chans[s.conf.pairs[p].b].state.pastTest2 = true → s.drive.pairs[p].holder = .b)
  deadTime : ∀ p : PairNo, s.drive.pairs[p].dead.isSome = true → s.drive.pairs[p].holder = .none
  disabled : ∀ p : PairNo, s.conf.pairs[p].enabled = false → s.drive.pairs[p] = ⟨.none, none⟩

/-! ### Monitors, lines, flash, check, link -/

/-- The greatest value of H: 1023 x 1023 x 256 (R87). -/
def maxHeat : Nat := 267911424

def State.HeatBounded (s : State) : Prop := ∀ c : Ch, s.monitors[c].heat ≤ maxHeat

/-- Handle 60+n is LIVE exactly while line n is bound and active, and never LAPSED; a LIVE one is slot 11's, with hold 0
and no remaining (R27, R134). -/
def State.LinesSound (s : State) : Prop :=
  ∀ n : LineNo,
    if s.conf.bindings[n].enabled = true ∧ s.active n = true then
      ∃ d, s.records[lineHandle n] = .live d none ∧ d.owner = 11 ∧ d.hold = 0
    else s.records[lineHandle n] = .free

/-- The generator is RUNNING exactly while a channel is driven with FLASH applied (R122, R124). -/
def State.FlashSound (s : State) : Prop :=
  s.drive.flash.isSome = true ↔ ∃ c : Ch, s.drive.chans[c].state.driven = true ∧ s.drive.chans[c].applied = .flash

/-- While a run is in progress the channel under test is a member that is not driven, it and the members above it have
no result, and the untested count is the number of members without a result (R141, R145). -/
def State.CheckSound (s : State) : Prop :=
  ∀ r, s.drive.check.run = some r →
    s.drive.chans[r.test.ch].state.driven = false ∧ r.selection.getLsbD r.test.ch.val = true ∧
    (∀ c : Ch, r.test.ch ≤ c → s.drive.check.results[c] = .notTested) ∧
    s.drive.check.untested =
      allChans.countP (fun c => r.selection.getLsbD c.val && decide (s.drive.check.results[c] = .notTested))

/-- A response holds 15 result bytes, so that it fills 20 bytes with its CRC (R152). -/
def Response.Full (r : Response) : Prop := r.result.length = 15

/-- The pending response and the one being shifted out fill their frames (R147, R152). -/
def State.ResponsesFull (s : State) : Prop :=
  s.link.response.Full ∧ ∀ r a, s.link.csn = .frame r a → r.Full

/-- Image valid says that no write is in flight and the stored check value agrees; out of reset a write is in flight
exactly while the last store result is IN_FLIGHT; and what is being written is the configuration in force (R166 to R169,
R171). -/
structure State.StoreSound (s : State) : Prop where
  valid   : s.store.valid = true → s.store.writing = none ∧ s.store.image.agrees = true
  writing : s.inReset = false → (s.store.result = .inFlight ↔ s.store.writing.isSome = true)
  inForce : ∀ x, s.store.writing = some x → x = s.conf

/-! ### Items of responses, as the layouts of chapter 09 give them (R153) -/

/-- A number in two bytes, high byte first. -/
def twoBytes (n : Nat) : List Byte := [BitVec.ofNat 8 (n / 256), BitVec.ofNat 8 n]

/-- A level as a mode byte and a duty byte, the duty 00h for modes other than DIM. -/
def levelShown : Level → List Byte
  | .off => [0x00#8, 0x00#8]
  | .steady => [0x01#8, 0x00#8]
  | .flash => [0x02#8, 0x00#8]
  | .dim duty => [0x03#8, BitVec.ofNat 8 duty.val]

/-- A yes/no item. -/
def yesShown (b : Bool) : Byte := if b then 0x01#8 else 0x00#8

/-- A binding: enabled, polarity, load, level, class. -/
def bindingShown (b : Binding) : List Byte :=
  [yesShown b.enabled, if b.polarity = .activeLow then 0x01#8 else 0x00#8, BitVec.ofNat 8 b.load.val] ++
    levelShown b.level ++ [BitVec.ofNat 8 b.cls.val]

/-- The state of a record. -/
def recordShown : Record → Byte
  | .free => 0x00#8
  | .live _ _ => 0x01#8
  | .lapsed _ _ => 0x02#8

/-- One of the two nibbles of a byte: the high one for an even place, the low one for an odd place. -/
def nibbleAt (b : Byte) (place : Nat) : Nat := if place % 2 = 0 then b.toNat / 16 else b.toNat % 16

/-! ### Joins of a queue, visits of a check, and the environment with another configuration -/

/-- `after` is `before` with one entry joined behind every entry of its class or a higher one, and ahead of the rest
(R104). -/
def JoinedInClass (rank : Ch → Nat) (x : Entry) (before after : List Entry) : Prop :=
  ∃ ahead behind : List Entry, before = ahead ++ behind ∧ after = ahead ++ x :: behind ∧
    (∀ y ∈ ahead, rank x.ch ≤ rank y.ch) ∧ (∀ y, behind.head? = some y → rank y.ch < rank x.ch)

/-- `d'` is `d` after the visits from a channel number on: the lowest undriven member at or above it is under test in
its UNBIASED step, or with no such member the run has ended and CHECK is set (R141, R142). -/
def Drive.VisitsFrom (d d' : Drive) (selection : ChSet) (start : Nat) : Prop :=
  (∀ c : Ch, start ≤ c.val → selection.getLsbD c.val = true → d.chans[c].state.driven = false →
    (∀ c' : Ch, start ≤ c'.val → c' < c → selection.getLsbD c'.val = true → d.chans[c'].state.driven = true) →
    d' = { d with check := { d.check with run := some ⟨selection, ⟨c, .unbiased, 1⟩⟩ } }) ∧
  ((∀ c : Ch, start ≤ c.val → selection.getLsbD c.val = true → d.chans[c].state.driven = true) →
    d' = { d with check := { d.check with run := none }
                  notice := { d.notice with kinds := d.notice.kinds ||| 0x20#8 } })

/-- A channel that stops being driven, or stays undriven, in a given state: gate off, applied level OFF, no reservation,
the timers of driving stopped, no upgrade pending, open flag and counter clear (R53, R97). -/
def Channel.stopped (x : Channel) (state : ChanState) : Channel :=
  { x with state := state, applied := .off, reservation := 0, pwmSettled := false, inrushTimer := none,
           cleanTimer := none, upgrade := false, openCount := 0, openFlag := false }

/-! ### The Flash Generator at a join or a leave (R122 to R125) -/

/-- What `before` becomes in an event that leaves the drive side as `d'`: with no member left the generator stops;
with a member a running cycle goes on as it is, and a stopped generator begins an on phase of the full on length, at
the rate that the outage set gives (R124, R125). -/
def Drive.FlashFollows (x : Configuration) (before : Option Cycle) (d' : Drive) : Prop :=
  let member (c : Ch) : Prop := d'.chans[c].state.driven = true ∧ d'.chans[c].applied = .flash
  let outage : Prop := ∃ c : Ch, member c ∧ x.channels[c].outageWatch = true ∧ d'.chans[c].openFlag = true
  let half := 10 * x.period / 2
  ((∀ c : Ch, ¬ member c) → d'.flash = none) ∧
  ((∃ c : Ch, member c) →
    (∀ cy, before = some cy → d'.flash = some cy) ∧
    (before = none → ¬ outage → d'.flash = some
      { phase := .on, timer := half, rate := .normal, onLen := half, offLen := 10 * x.period - half }) ∧
    (before = none → outage → d'.flash = some
      { phase := .on, timer := half / 2, rate := .fast, onLen := half / 2, offLen := half - half / 2 }))

/-- `d'` is `d` after what an event does to a channel that stops being driven or stays undriven, `y` being what the
channel becomes, before any pass: its reservation, its entry and its place on the admitted list are gone from its
feed, and the Flash Generator follows (R63, R66, R72, R111, R125). Pairs and notices are the event's own. -/
def Drive.SwitchedOff (d : Drive) (x : Configuration) (c : Ch) (y : Channel) (d' : Drive) : Prop :=
  let f := x.channels[c].feed.index
  d' = { d with
    chans := d.chans.set c y
    feeds := d.feeds.set f
      { committed := d.feeds[f].committed - d.chans[c].reservation
        queue := d.feeds[f].queue.filter (fun q => q.ch ≠ c)
        admitted := d.feeds[f].admitted.filter (fun z => z ≠ c) }
    pairs := d'.pairs, flash := d'.flash, notice := d'.notice } ∧
  d'.FlashFollows x d.flash

/-! ### Sheds, victims, and the walk of an admission pass (R65, R107 to R109) -/

/-- `d'` is `d` after one channel's shed: it is in WAITING(BUDGET) with the cause recorded, its reservation and its
place on the admitted list are gone, a fresh entry stands at the end of its class group, it is in the changed-channel
set with CHANNEL pending, and the Flash Generator is told of the leave (R65, R125). -/
def Drive.ShedOf (d : Drive) (x : Configuration) (v : Ch) (cause : ShedCause) (d' : Drive) : Prop :=
  let f := x.channels[v].feed.index
  d' = { d with
    chans := d.chans.set v { d.chans[v].stopped (.waiting .budget) with lastShed := some cause }
    feeds := d.feeds.set f
      { committed := d.feeds[f].committed - d.chans[v].reservation
        queue := d'.feeds[f].queue
        admitted := d.feeds[f].admitted.filter (fun y => y ≠ v) }
    flash := d'.flash
    notice := { d.notice with kinds := d.notice.kinds ||| 0x01#8, changed := d.notice.changed ||| 1#16 <<< v.val } } ∧
  JoinedInClass (fun y => d.chans[y].rank) ⟨v, .fresh⟩ (d.feeds[f].queue.filter (fun y => y.ch ≠ v))
    d'.feeds[f].queue ∧
  d'.FlashFollows x d.flash

/-- `d'` is `d` after the sheds of a list of channels, one after the other. -/
def Drive.ShedsOf (x : Configuration) (cause : ShedCause) : List Ch → Drive → Drive → Prop
  | [], d, d' => d' = d
  | v :: vs, d, d' => ∃ d1, d.ShedOf x v cause d1 ∧ Drive.ShedsOf x cause vs d1 d'

/-- The victim order: lowest class first, and within one class the channel latest admitted first (R109). -/
def Drive.VictimBefore (d : Drive) (f : Fin 3) (a b : Ch) : Prop :=
  d.chans[a].rank < d.chans[b].rank ∨
    (d.chans[a].rank = d.chans[b].rank ∧ d.feeds[f].admitted.idxOf b < d.feeds[f].admitted.idxOf a)

/-- The victims, in the order of their sheds, that a feed takes from the channels of class below `bound` on its admitted
list when `short` is to be released: the first of them in the victim order, as many as release enough, and no more
(R109). -/
structure Drive.VictimsFor (d : Drive) (f : Fin 3) (bound short : Nat) (victims : List Ch) : Prop where
  among   : ∀ v ∈ victims, v ∈ d.feeds[f].admitted ∧ d.chans[v].rank < bound
  inOrder : victims.Pairwise (d.VictimBefore f)
  first   : ∀ c ∈ d.feeds[f].admitted, d.chans[c].rank < bound → c ∉ victims → ∀ v ∈ victims, d.VictimBefore f v c
  enough  : short ≤ (victims.map (fun v => d.chans[v].reservation)).sum
  noMore  : victims ≠ [] → (victims.dropLast.map (fun v => d.chans[v].reservation)).sum < short

/-- The walk of a pass from `d` to `d'`: the first entry whose channel has not been visited is visited next, and the
walk ends when there is none (R107). -/
inductive Drive.Walk (e : Env) (f : Fin 3) : List Ch → Drive → Drive → Prop where
  | done {seen : List Ch} {d : Drive} : (∀ x ∈ d.feeds[f].queue, x.ch ∈ seen) → Walk e f seen d d
  | visit {seen : List Ch} {d d' : Drive} {ahead behind : List Entry} {x : Entry} :
      d.feeds[f].queue = ahead ++ x :: behind → (∀ y ∈ ahead, y.ch ∈ seen) → x.ch ∉ seen →
      Walk e f (x.ch :: seen) (d.visit e f x) d' → Walk e f seen d d'

/-- The drive side of `t` is what it becomes when the Channel Sequencers of the channels `cs` take, from the drive side
`d`, the pairs that the lists of `t` give (R41 to R43). -/
def State.Follows (t : State) (d : Drive) (cs : List Ch) : Prop :=
  t.drive = (({ t with drive := d } : State).handOver cs).drive

/-- The record of line `n` becomes `r`: an old LIVE one leaves its list, a new LIVE one is the newest of its class on
the list of its channel, every other list is kept, and the held counts follow, slot 11's for the new one (R2, R133,
R134). -/
def State.LineRecordBecomes (s t : State) (n : LineNo) (r : Record) : Prop :=
  let y := lineHandle n
  let old := s.records[y]
  let without (c : Ch) : List Handle := if old.liveOn c then s.lists[c].filter (fun z => z ≠ y) else s.lists[c]
  let held : Vector Nat 12 := match old with
    | .free => s.held
    | .live d _ | .lapsed d _ => s.held.set d.owner (s.held[d.owner] - 1)
  t.records = s.records.set y r ∧
  (∀ d time, r = .live d time →
    InsertedInClass t.records d.cls y (without d.channel) t.lists[d.channel] ∧
    (∀ c : Ch, c ≠ d.channel → t.lists[c] = without c) ∧ t.held = held.set 11 (held[11] + 1)) ∧
  (r = .free → (∀ c : Ch, t.lists[c] = without c) ∧ t.held = held)

/-! ### Samples and trips -/

/-- What is in force at a sample completion of a channel: whether the tick is an on-tick, and its I (R83, R84). -/
def State.tickOn (s : State) (c : Ch) : Bool :=
  s.drive.chans[c].state.driven &&
    match s.drive.chans[c].applied with
    | .off => false
    | .steady => true
    | .dim _ => true
    | .flash =>
        match s.drive.flash with
        | none => false
        | some cy => decide (cy.phase = .on)

/-- I: the saturated reading at an on-tick, 0 at any other tick (R83, R84). -/
def State.currentAt (s : State) (c : Ch) (sense : Nat) : Nat := if s.tickOn c then min 1023 sense else 0

/-- X, the target of H: 256 times the square of I, the square weighted by the duty of a DIM level from its first PWM
period start on (R86). -/
def State.heatTarget (s : State) (c : Ch) (sense : Nat) : Nat :=
  let i := s.currentAt c sense
  256 * (match s.drive.chans[c].applied with
    | .dim d => if s.drive.chans[c].pwmSettled then i * i * d.val / 64 else i * i
    | .off | .steady | .flash => i * i)

/-- H after the completion: a step of the distance to X over 2^k, at least 1 and none at X (R86). -/
def State.heatAfter (s : State) (c : Ch) (sense : Nat) : Nat :=
  let h := s.monitors[c].heat
  let x := s.heatTarget c sense
  let k := s.conf.channels[c].k
  if h < x then h + max 1 ((x - h) / 2 ^ k) else if x < h then h - max 1 ((h - x) / 2 ^ k) else h

/-- A SHORT is found: an on-tick whose I is at or above the limit in force (R93, R94). -/
def State.findsShort (s : State) (c : Ch) (sense : Nat) : Prop :=
  s.tickOn c = true ∧
    (if s.drive.chans[c].state = .inrush ∨
        (s.conf.channels[c].loadType = .lamp ∧ s.drive.chans[c].applied = .flash ∧
          ∃ cy, s.drive.flash = some cy ∧ s.conf.channels[c].inrushWindow ≠ 0 ∧
            cy.onLen - cy.timer ≤ min (s.conf.channels[c].inrushWindow * 10) cy.onLen)
     then s.conf.channels[c].inrushLimit else s.conf.channels[c].peakLimit) ≤ s.currentAt c sense

/-- An OVERLOAD is found: the channel is driven, no SHORT is found, and H after its update is at or above T_trip
(R89). -/
def State.findsOverload (s : State) (c : Ch) (sense : Nat) : Prop :=
  s.drive.chans[c].state.driven = true ∧ ¬ s.findsShort c sense ∧
    256 * s.conf.channels[c].iRate ^ 2 ≤ s.heatAfter c sense

/-- The Notice Unit after a sample completion that takes a channel's monitor from `before` to `after`: WARN and the channel
in the warn set where the warn flag is set by it (R90). -/
def Notice.afterWarn (n : Notice) (c : Ch) (before after : Monitor) : Notice :=
  if before.warn = false ∧ after.warn = true then
    { n with kinds := n.kinds ||| 0x04#8, warn := n.warn ||| 1#16 <<< c.val }
  else n

/-- A channel after a trip of a given kind (R66, R67). -/
def Channel.afterTrip (x : Channel) (retryLimit : Nat) (kind : FaultKind) : Channel :=
  { x.stopped (if x.retries < retryLimit then .tripped else .latched) with
    lastFault := some kind
    retries := if x.retries < retryLimit then x.retries + 1 else x.retries
    retryTimer := if x.retries < retryLimit ∧ kind ≠ .overload then some 1000 else none }

end Sys2Proof.Machine
end

