-- ==== Sys2Proof/Certificates/Slice0/Obligations.lean ====
section
/-!
DEFINITION. The statements for the provers, in the order of OBLIGATIONS.json. A statement that rests on a choice of the
model names its log entry.
-/

open Sys2Proof Sys2Proof.Machine

/-! ### The queue of commands and the clock -/

/-- The command at the front of the queue is taken, and it runs on the state with the queue's rest. The queue is the
model's own (log entry 6). -/
def Obligations.StepTakesFrontCommand : Prop :=
  ∀ (c : Instr) (rest : List Instr) (s : State),
    step { s with pending := c :: rest } = exec c { s with pending := rest }

/-- Every command is answered by a next state, in every state of the part, and none touches the queue. That no command
stops the part is read from a manual that gives no stop (log entry 24), and the queue is the model's own (log entry
6). -/
def Obligations.EveryCommandAnswersNext : Prop :=
  ∀ (c : Instr) (s : State), ∃ t, exec c s = .next t ∧ t.pending = s.pending

/-- With no command waiting one millisecond passes. Each remaining time, each grace, each inrush, retry, clean-run and
dead timer, the flash phase timer and the time to the next PWM period start fall by 1, and the one that would reach 0
stays at 1 while its event joins the queue, which holds nothing else; the step timer of an output check falls by 1 to
0; nothing else changes. That the empty queue is the clock, that the event joins the queue, and that a step's end
waits for its command, are the model's choices (log entries 1, 2 and 28); the fall by 1 is that of R20, R22, R55, R59,
R67, R69, R76, R123 and R141. -/
def Obligations.IdleStepCountsTimersDown : Prop :=
  ∀ s : State, s.pending = [] → s.inReset = false →
    let due (timer : Option Nat) : Prop := ∃ ms, timer = some ms ∧ ms ≤ 1
    let less (ms : Nat) : Nat := if ms ≤ 1 then ms else ms - 1
    ∃ t, step s = .next t ∧
      t = { s with pending := t.pending, now := s.now + 1, records := t.records, drive := t.drive,
                   pwmLeft := t.pwmLeft } ∧
      (∀ (h : Handle) (d : Demand) (ms : Nat), s.records[h] = .live d (some ms) →
        if ms ≤ 1 then t.records[h] = s.records[h] ∧ Instr.holdExpiry h ∈ t.pending
        else t.records[h] = .live d (some (ms - 1)) ∧ Instr.holdExpiry h ∉ t.pending) ∧
      (∀ (h : Handle) (d : Demand) (ms : Nat), s.records[h] = .lapsed d ms →
        if ms ≤ 1 then t.records[h] = s.records[h] ∧ Instr.graceExpiry h ∈ t.pending
        else t.records[h] = .lapsed d (ms - 1) ∧ Instr.graceExpiry h ∉ t.pending) ∧
      (∀ h : Handle, (s.records[h] = .free ∨ ∃ d, s.records[h] = .live d none) → t.records[h] = s.records[h] ∧
        Instr.holdExpiry h ∉ t.pending ∧ Instr.graceExpiry h ∉ t.pending) ∧
      t.drive = { s.drive with chans := t.drive.chans, pairs := t.drive.pairs, flash := t.drive.flash,
                               check := t.drive.check } ∧
      (∀ c : Ch,
        let x := s.drive.chans[c]
        t.drive.chans[c] = { x with inrushTimer := x.inrushTimer.map less, retryTimer := x.retryTimer.map less,
                                    cleanTimer := x.cleanTimer.map less } ∧
        (Instr.inrushTimerExpiry c ∈ t.pending ↔ due x.inrushTimer) ∧
        (Instr.retryTimerExpiry c ∈ t.pending ↔ due x.retryTimer) ∧
        (Instr.cleanRunExpiry c ∈ t.pending ↔ due x.cleanTimer)) ∧
      (∀ p : PairNo,
        t.drive.pairs[p] = { s.drive.pairs[p] with dead := s.drive.pairs[p].dead.map less } ∧
        (Instr.deadTimeExpiry p ∈ t.pending ↔ due s.drive.pairs[p].dead)) ∧
      t.drive.flash = s.drive.flash.map (fun cy => { cy with timer := less cy.timer }) ∧
      (Instr.onPhaseExpiry ∈ t.pending ↔ ∃ cy, s.drive.flash = some cy ∧ cy.timer ≤ 1 ∧ cy.phase = .on) ∧
      (Instr.onPhaseStart ∈ t.pending ↔ ∃ cy, s.drive.flash = some cy ∧ cy.timer ≤ 1 ∧ cy.phase = .off) ∧
      t.drive.check = { s.drive.check with
        run := s.drive.check.run.map (fun r => { r with test := { r.test with timer := r.test.timer - 1 } }) } ∧
      t.pwmLeft = less s.pwmLeft ∧ (Instr.pwmPeriodStart ∈ t.pending ↔ s.pwmLeft ≤ 1) ∧
      (∀ i ∈ t.pending, (∃ h, i = .holdExpiry h ∨ i = .graceExpiry h) ∨
        (∃ c, i = .inrushTimerExpiry c ∨ i = .retryTimerExpiry c ∨ i = .cleanRunExpiry c) ∨
        (∃ p, i = .deadTimeExpiry p) ∨ i = .onPhaseExpiry ∨ i = .onPhaseStart ∨ i = .pwmPeriodStart)

/-! ### The Control Link -/

/-- The frame written for a request, or for a byte 0 that names none, is read back as the same command, with every
parameter at every value its bytes can hold (R149, R151, R153, R154); its last byte is the CRC register after the 152
bits before it, shifted bit by bit as R149 says. Clocked in after a fall of CSN, one rising and one falling edge of
SCK for each bit, most significant bit of each byte first, it is what CSN's rise then takes, and a run of any other
number of bits is a frame to discard; SDO meanwhile shows the response that stood when CSN fell, bit by bit, and 0
after its 160th bit; the edges change nothing but the frame in progress (R147). That edges are no commands is the
model's choice (log entry 5). -/
def Obligations.FrameOfRequestReadsBack : Prop :=
  let bitOf (bytes : List Byte) (n : Nat) : Bool := (byteAt bytes (n / 8)).getLsbD (7 - n % 8)
  let shifted (register : Byte) (bit : Bool) : Byte :=
    if register.getLsbD 7 = bit then register <<< 1 else (register <<< 1) ^^^ 0x2F#8
  (∀ (i : Instr) (bytes : List Byte), i.wellFormed = true → encodeFrame i = some bytes →
    bytes.length = 20 ∧ byteAt bytes 19 = ((List.range 152).map (bitOf bytes)).foldl shifted 0xFF#8 ∧
    decodeFrame 160 bytes = i) ∧
  (∀ s : State, s.inReset = false → ∃ t, exec .csnFall s = .next t ∧
    let clocked (bits : List Bool) : State := bits.foldl (fun x b => (x.sckRise b).sckFall) t
    (∀ (i : Instr) (bytes : List Byte), i.wellFormed = true → encodeFrame i = some bytes →
      (clocked ((List.range 160).map (bitOf bytes))).frameTaken = some i) ∧
    (∀ bits : List Bool,
      (bits.length ≠ 160 → (clocked bits).frameTaken = some (.frameDiscard bits.length)) ∧
      (clocked bits).sdo = some (decide (bits.length < 160) && bitOf s.link.response.bytes bits.length) ∧
      clocked bits = { t with link := { t.link with csn := (clocked bits).link.csn } }))

/-- Frames written out byte by byte from R151, R153 and R154, the CRC byte worked out by R149 and written as a number,
are read as the requests they stand for; an edge count other than 160, or a wrong CRC, discards the frame (R147, R149,
R150). -/
def Obligations.KnownFramesAreRead : Prop :=
  let place : List Byte := [0x10, 0x21, 0x04, 0x03, 0x10, 0x02, 0x01, 0x2C, 0, 0, 0, 0, 0, 0, 0, 0, 0, 0, 0]
  let limits : List Byte :=
    [0x30, 0x0F, 0x05, 0x01, 0x00, 0x2A, 0x00, 0xC8, 0x0C, 0x00, 0xC8, 0x03, 0x84, 0x0A, 0x05, 0, 0, 0, 0]
  decodeFrame 160 (place ++ [0x4E]) = .place ⟨2, 1⟩ 0x04 ⟨0x03, 0x10⟩ 0x02 0x012C ∧
  decodeFrame 160 (limits ++ [0x65]) =
    .setChannelLimits ⟨0, 15⟩ 0x05 ⟨0x01, 42, 200, 12, 200, 900, 10, 5⟩ ∧
  decodeFrame 152 (place ++ [0x4E]) = .frameDiscard 152 ∧
  decodeFrame 160 (place ++ [0x4F]) = .frameDiscard 160 ∧
  decodeFrame 160 ((0x06 :: place.drop 1) ++ [0xE9]) = .unknownKindFrame 0x06 ⟨2, 1⟩

/-- The checks of the Control Link: a byte 0 that names no kind is refused UNKNOWN_KIND with that byte returned; a
slot field of 11 to 15, a disabled slot, and a kind of slot 0's from another slot are refused NOT_PERMITTED; nothing
but the pending response changes (R151). A frame that is not well formed is discarded: the FRAME_CHECK response with
its reason and the number of whole bytes clocked, saturated at 255, becomes pending, notice kind LINK is set, and
nothing else changes (R150). -/
def Obligations.LinkChecksAndDiscards : Prop :=
  (∀ (kind : Byte) (h : Header) (s : State), s.takesFrames = true → kindOfByte kind = none →
    exec (.unknownKindFrame kind h) s =
      .next (s.endFrame { kind := kind, slotTag := headerByte h, status := .unknownKind, flags := 0#8,
                          result := List.replicate 15 0#8 })) ∧
  (∀ (i : Instr) (k : Kind) (h : Header) (body : List Byte) (s : State), requestParts i = some (k, h, body) →
    s.takesFrames = true →
    (11 ≤ h.slot.toNat ∨ (requesterOf s.conf (slotOf h)).enabled = false ∨ (k.supervisorOnly = true ∧ h.slot ≠ 0#4)) →
    exec i s = .next (s.endFrame (refusalResponse k h .notPermitted))) ∧
  (∀ (edges : Nat) (s : State), s.takesFrames = true →
    exec (.frameDiscard edges) s =
      .next { s with
        link := { csn := .high
                  response := { kind := 0#8, slotTag := 0#8, status := .frameCheck, flags := 0#8,
                                result := (if edges = 160 then 0x02#8 else 0x01#8) ::
                                  BitVec.ofNat 8 (min 255 (edges / 8)) :: List.replicate 13 0#8 } }
        drive := { s.drive with notice := { s.drive.notice with kinds := s.drive.notice.kinds ||| 0x40#8 } } })

/-- A refusal leaves the state it would have changed as it was: whatever request is answered with a status other than
OK, the next state is the old one with that refusal pending, its adjustment flags 0 and its result all 00h
(Conventions; R152). -/
def Obligations.RefusalsChangeNothing : Prop :=
  ∀ (i : Instr) (k : Kind) (h : Header) (body : List Byte) (s t : State), requestParts i = some (k, h, body) →
    s.takesFrames = true → exec i s = .next t → t.link.response.status ≠ .ok →
    t = s.endFrame (refusalResponse k h t.link.response.status)

/-- While a store write is in flight the listed requests are refused BUSY, and every other command but the store's own
end, power-on and reset does exactly what it does with no store in flight, beside that write (R168). -/
def Obligations.StoreInFlightBlocksOnlyTheListed : Prop :=
  (∀ (i : Instr) (k : Kind) (h : Header) (body : List Byte) (s : State), requestParts i = some (k, h, body) →
    k.storeBlocked = true → s.Supervised h → s.store.writing.isSome = true →
    exec i s = .next (s.endFrame (refusalResponse k h .busy))) ∧
  (∀ (i : Instr) (s t : State) (w : Option Configuration),
    (∀ k h body, requestParts i = some (k, h, body) → k.storeBlocked = false) →
    (∀ x, i ≠ .storeWriteCompletion x) → i ≠ .powerOn → i ≠ .resetAssert → exec i s = .next t →
    t.store = s.store ∧
    exec i { s with store := { s.store with writing := w } } =
      .next { t with store := { s.store with writing := w } })

/-- CSN falling begins a frame in which the response pending at that moment is shifted out, with no edge counted; in
reset the fall begins none. RESETN low or the loss of the supply stops a frame in progress, and cuts short a store
write in flight, so that the stored check value does not agree with the stored contents (R147, R148, R170, R171). That
the rest of the inside is kept as it is while the part is held in reset is the model's reading (log entry 12). -/
def Obligations.PinEventsOfLinkAndReset : Prop :=
  (∀ s : State, s.inReset = false →
    exec .csnFall s = .next { s with link := { s.link with csn := .frame s.link.response ⟨0, 0, []⟩ } }) ∧
  (∀ s : State, s.inReset = true →
    exec .csnFall s = .next { s with link := { s.link with csn := .lowUncounted } }) ∧
  (∀ s : State, ∃ t, exec .resetAssert s = .next t ∧ t.inReset = true ∧
    t = { s with inReset := true, link := t.link, store := t.store, freeCount := t.freeCount } ∧
    t.link.response = s.link.response ∧
    t.link.csn = (if s.link.csn = .high then .high else .lowUncounted) ∧
    (s.store.writing = none → t.store = s.store) ∧
    (s.store.writing.isSome = true → t.store.writing = none ∧
      Config.checkValue t.store.image.contents ≠ t.store.image.check))

/-- Held in reset the part takes no command but power-on and reset: nothing but the CSN pin changes; every gate is
off, no bias is applied, NOTICEN is released and SDO is high-impedance (R171); with no command waiting a step changes
nothing. The outputs are R171's; that no command is taken, that the inside is kept unchanged and that no timer runs is
the model's reading (log entries 1 and 12). Out of reset a frame whose CSN fell before power-on completed is not
taken: whatever request or frame to discard it is, CSN is high again and nothing else changes (R148). -/
def Obligations.HeldInResetTakesNothing : Prop :=
  (∀ (i : Instr) (s t : State), s.inReset = true → i ≠ .powerOn → i ≠ .resetAssert → exec i s = .next t →
    t = { s with link := { s.link with csn := t.link.csn } } ∧
    (∀ c : Ch, t.gate c = .off) ∧ t.bias = none ∧ t.noticenLow = false ∧ t.sdo = none) ∧
  (∀ s : State, s.inReset = true → s.pending = [] → step s = .next s) ∧
  (∀ (i : Instr) (s : State), s.inReset = false → s.link.csn = .lowUncounted →
    ((requestParts i).isSome = true ∨ (∃ kind h, i = .unknownKindFrame kind h ∧ kindOfByte kind = none) ∨
      ∃ edges, i = .frameDiscard edges) →
    exec i s = .next { s with link := { s.link with csn := .high } })

/-- Every response fills a frame: 15 result bytes stand in the pending response and in the one being shifted out,
after every step (R147, R152). -/
def Obligations.ResponsesStayFull : Prop :=
  ∀ s t : State, s.ResponsesFull → step s = .next t →
    t.ResponsesFull ∧ t.link.response.bytes.length = 20

/-! ### Polls and notices -/

/-- POLL answers with its snapshot and DESCRIBE with its items, and they change nothing (R155, R164). READ NOTICES and
CLEAR NOTICES answer with the Notice Unit as it stands when the request is taken; CLEAR NOTICES then takes the kinds
of its mask out of the pending kinds and empties the set of each of CHANNEL, WARN and OPEN that the mask names,
NOTICEN follows the kinds that remain, and nothing else changes (R161, R162). That the set of a kind that the mask names
is emptied also where the kind is not pending is the model's choice, log entry 38. -/
def Obligations.PollsAndNoticesAnswer : Prop :=
  ∀ (h : Header) (mask : Byte) (s : State),
    let n := s.drive.notice
    let channelsIn (p : ChanState → Bool) : Byte :=
      BitVec.ofNat 8 (Finset.univ.filter (fun c : Ch => p s.drive.chans[c].state = true)).card
    let items : List Byte :=
      [n.kinds, s.conf.enable] ++ twoBytes n.changed.toNat ++ twoBytes n.warn.toNat ++ twoBytes n.openSet.toNat ++
        [yesShown s.supply.low, yesShown s.store.valid,
         match s.store.result with
         | .none => 0x00#8 | .inFlight => 0x01#8 | .ok => 0x02#8 | .failed => 0x03#8]
    (s.Accepts h →
      exec (.poll h) s = .next (s.endFrame (okResponse .poll h
        [n.kinds, yesShown s.supply.low, channelsIn (fun x => decide (x = .inrush ∨ x = .on)),
         channelsIn ChanState.isWaiting, channelsIn (fun x => decide (x = .tripped ∨ x = .latched))])) ∧
      exec (.describe h) s = .next (s.endFrame (okResponse .describe h
        [0x3A#8, 0x01#8, 16#8, 3#8, 32#8, 64#8, 12#8, 4#8, 8#8, 20#8, yesShown s.store.valid])) ∧
      exec (.readNotices h) s = .next (s.endFrame (okResponse .readNotices h items))) ∧
    (s.Supervised h → ∃ t, exec (.clearNotices h mask) s = .next t ∧
      t = ({ s with drive := { s.drive with notice :=
        { kinds := n.kinds &&& ~~~mask
          changed := if mask.getLsbD 0 then 0#16 else n.changed
          warn := if mask.getLsbD 2 then 0#16 else n.warn
          openSet := if mask.getLsbD 3 then 0#16 else n.openSet } } }).endFrame
            (okResponse .clearNotices h items) ∧
      (t.noticenLow = true ↔ ∃ i : Fin 8, n.kinds.getLsbD i.val = true ∧ mask.getLsbD i.val = false ∧
        s.conf.enable.getLsbD i.val = true))

/-- SET NOTICE ENABLE is refused BUSY while a store write is in flight; otherwise it sets the enable set, changes
nothing else, and answers with the pending kinds and the new set, and NOTICEN is then low exactly while some kind is
both pending and enabled (R160, R163). -/
def Obligations.NoticeEnableDrivesNoticen : Prop :=
  ∀ (h : Header) (kinds : Byte) (s : State), s.Supervised h →
    (s.store.writing.isSome = true →
      exec (.setNoticeEnable h kinds) s = .next (s.endFrame (refusalResponse .setNoticeEnable h .busy))) ∧
    (s.store.writing = none → ∃ t, exec (.setNoticeEnable h kinds) s = .next t ∧
      t = ({ s with conf := { s.conf with enable := kinds } }).endFrame
        (okResponse .setNoticeEnable h [s.drive.notice.kinds, kinds]) ∧
      (t.noticenLow = true ↔ ∃ i : Fin 8, s.drive.notice.kinds.getLsbD i.val = true ∧ kinds.getLsbD i.val = true))

/-! ### Demand records -/

/-- PLACE from a slot that the link passes is answered with the first failing check of R9, in that order, and OK when
none fails. -/
def Obligations.PlaceReportsFirstFailingCheck : Prop :=
  ∀ (h : Header) (load : Byte) (level : LevelParam) (cls : Byte) (hold : Word16) (s : State), s.Accepts h →
    ∃ t, exec (.place h load level cls hold) s = .next t ∧
      (32 ≤ load.toNat → t.link.response.status = .noLoad) ∧
      (∀ l : LoadNo, load.toNat = l.val →
        let entry := s.conf.loads[l]
        let requester := requesterOf s.conf (slotOf h)
        let bad := BadDemand s.conf.channels[entry.channel] requester.ceiling level cls hold
        (entry.enabled = false → t.link.response.status = .noLoad) ∧
        (entry.enabled = true → entry.permitted.getLsbD h.slot.toNat = false →
          t.link.response.status = .notPermitted) ∧
        (entry.enabled = true → entry.permitted.getLsbD h.slot.toNat = true →
          (bad → t.link.response.status = .badValue) ∧
          (¬ bad → requester.quota ≤ s.held[slotOf h] → t.link.response.status = .quotaFull) ∧
          (¬ bad → s.held[slotOf h] < requester.quota →
            ((∀ n : Handle, n.val < 60 → s.records[n] ≠ .free) → t.link.response.status = .tableFull) ∧
            ((∃ n : Handle, n.val < 60 ∧ s.records[n] = .free) →
              t.link.response.status = if 6 ≤ requesterCount s.lists[entry.channel] then .listFull else .ok))))

/-- A PLACE that passes every check makes the lowest FREE handle LIVE with the clamped values, raises the owner's held
count, inserts the record as the newest of its class, and answers with the handle and the adjustment flags; the
channel then takes the pair of its list's winner, and nothing else changes (R8, R10, R12, R42). -/
def Obligations.PlaceTakenMakesRecordLive : Prop :=
  ∀ (h : Header) (load : Byte) (level : LevelParam) (cls : Byte) (hold : Word16) (s : State) (l : LoadNo)
    (n : Handle), s.Accepts h → load.toNat = l.val → s.conf.loads[l].enabled = true →
    s.conf.loads[l].permitted.getLsbD h.slot.toNat = true →
    ¬ BadDemand s.conf.channels[s.conf.loads[l].channel] (requesterOf s.conf (slotOf h)).ceiling level cls hold →
    s.held[slotOf h] < (requesterOf s.conf (slotOf h)).quota →
    n.val < 60 → s.records[n] = .free → (∀ m : Handle, m < n → s.records[m] ≠ .free) →
    requesterCount s.lists[s.conf.loads[l].channel] < 6 →
    let ceiling := (requesterOf s.conf (slotOf h)).ceiling
    let c := s.conf.loads[l].channel
    let d : Demand := { owner := slotOf h, load := l, channel := c, level := levelAfterClamp level,
                        cls := classAfterClamp ceiling cls, hold := min 3000 hold.toNat }
    ∃ t, exec (.place h load level cls hold) s = .next t ∧
      t = { s with records := s.records.set n (.live d (startedHold d.hold))
                   held := s.held.set (slotOf h) (s.held[slotOf h] + 1)
                   lists := t.lists, drive := t.drive
                   link := { csn := .high, response := { okResponse .place h [BitVec.ofNat 8 n.val] with
                               flags := clampFlags ceiling level cls hold } } } ∧
      InsertedInClass t.records d.cls n s.lists[c] t.lists[c] ∧ (∀ c' : Ch, c' ≠ c → t.lists[c'] = s.lists[c']) ∧
      t.Follows s.drive [c]

/-- The first checks of RENEW, AMEND and RETIRE, in order: a handle above 63, a line handle, a FREE record, and a
record of another slot than the requesting one unless that is slot 0 (R13). -/
def Obligations.HandleChecksOfRecordRequests : Prop :=
  ∀ (h : Header) (handle : Byte) (level : LevelParam) (cls : Byte) (hold : Word16) (s : State), s.Accepts h →
    let refused (status : Status) : Prop :=
      exec (.renew h handle) s = .next (s.endFrame (refusalResponse .renew h status)) ∧
      exec (.amend h handle level cls hold) s = .next (s.endFrame (refusalResponse .amend h status)) ∧
      exec (.retire h handle) s = .next (s.endFrame (refusalResponse .retire h status))
    (64 ≤ handle.toNat → refused .noRecord) ∧
    (60 ≤ handle.toNat ∧ handle.toNat ≤ 63 → refused .notPermitted) ∧
    (∀ n : Handle, handle.toNat = n.val → n.val < 60 →
      (s.records[n] = .free → refused .noRecord) ∧
      (∀ d time, s.records[n] = .live d time ∨ (∃ g, time = some g ∧ s.records[n] = .lapsed d g) →
        d.owner ≠ slotOf h → h.slot ≠ 0#4 → refused .noRecord))

/-- RENEW of a LIVE record restarts its hold and answers LIVE; nothing else changes, its place on its list included
(R14). RENEW of a LAPSED record is refused LIST_FULL with 6 requester records on the list of its channel; otherwise it
revives the record with its hold started anew, as the newest of its class, and its channel takes the pair of its
list's winner (R15, R42). -/
def Obligations.RenewRestartsOrRevives : Prop :=
  ∀ (h : Header) (handle : Byte) (s : State) (n : Handle) (d : Demand), s.Accepts h →
    handle.toNat = n.val → n.val < 60 → (d.owner = slotOf h ∨ h.slot = 0#4) →
    (∀ time, s.records[n] = .live d time →
      exec (.renew h handle) s =
        .next (({ s with records := s.records.set n (.live d (startedHold d.hold)) }).endFrame
          (okResponse .renew h [0x01#8]))) ∧
    (∀ grace, s.records[n] = .lapsed d grace →
      (6 ≤ requesterCount s.lists[d.channel] →
        exec (.renew h handle) s = .next (s.endFrame (refusalResponse .renew h .listFull))) ∧
      (requesterCount s.lists[d.channel] < 6 →
        ∃ t, exec (.renew h handle) s = .next t ∧
          t = ({ s with records := s.records.set n (.live d (startedHold d.hold))
                        lists := t.lists, drive := t.drive }).endFrame (okResponse .renew h [0x01#8]) ∧
          InsertedInClass t.records d.cls n s.lists[d.channel] t.lists[d.channel] ∧
          (∀ c : Ch, c ≠ d.channel → t.lists[c] = s.lists[c]) ∧ t.Follows s.drive [d.channel]))

/-- AMEND of a LAPSED record is refused WRONG_STATE, one whose clamped values R11 refuses BAD_VALUE; otherwise level,
class, hold and remaining are set anew with the owner's ceiling, the record becomes the newest of its class, and its
channel takes the pair of its list's winner (R16, R42). -/
def Obligations.AmendReplacesLevelClassHold : Prop :=
  ∀ (h : Header) (handle : Byte) (level : LevelParam) (cls : Byte) (hold : Word16) (s : State) (n : Handle)
    (d : Demand), s.Accepts h → handle.toNat = n.val → n.val < 60 → (d.owner = slotOf h ∨ h.slot = 0#4) →
    let ceiling := (requesterOf s.conf d.owner).ceiling
    let bad := BadDemand s.conf.channels[d.channel] ceiling level cls hold
    (∀ grace, s.records[n] = .lapsed d grace →
      exec (.amend h handle level cls hold) s = .next (s.endFrame (refusalResponse .amend h .wrongState))) ∧
    (∀ time, s.records[n] = .live d time → bad →
      exec (.amend h handle level cls hold) s = .next (s.endFrame (refusalResponse .amend h .badValue))) ∧
    (∀ time, s.records[n] = .live d time → ¬ bad →
      let d' : Demand := { d with level := levelAfterClamp level, cls := classAfterClamp ceiling cls,
                                  hold := min 3000 hold.toNat }
      ∃ t, exec (.amend h handle level cls hold) s = .next t ∧
        t = { s with records := s.records.set n (.live d' (startedHold d'.hold))
                     lists := t.lists, drive := t.drive
                     link := { csn := .high, response := { okResponse .amend h [] with
                                 flags := clampFlags ceiling level cls hold } } } ∧
        InsertedInClass t.records d'.cls n (s.lists[d.channel].filter (fun y => y ≠ n)) t.lists[d.channel] ∧
        (∀ c : Ch, c ≠ d.channel → t.lists[c] = s.lists[c]) ∧ t.Follows s.drive [d.channel])

/-- RETIRE frees a LIVE or LAPSED record, lowers its owner's held count by 1 and takes a LIVE record off its list,
whose channel then takes the pair of its list's winner (R17, R42). -/
def Obligations.RetireFreesRecord : Prop :=
  ∀ (h : Header) (handle : Byte) (s : State) (n : Handle) (d : Demand), s.Accepts h →
    handle.toNat = n.val → n.val < 60 → (d.owner = slotOf h ∨ h.slot = 0#4) →
    (∀ time, s.records[n] = .live d time →
      ∃ t, exec (.retire h handle) s = .next t ∧
        t = ({ s with records := s.records.set n .free, held := s.held.set d.owner (s.held[d.owner] - 1)
                      lists := s.lists.set d.channel (s.lists[d.channel].filter (fun y => y ≠ n))
                      drive := t.drive }).endFrame (okResponse .retire h []) ∧
        t.Follows s.drive [d.channel]) ∧
    (∀ grace, s.records[n] = .lapsed d grace →
      exec (.retire h handle) s =
        .next (({ s with records := s.records.set n .free
                         held := s.held.set d.owner (s.held[d.owner] - 1) }).endFrame (okResponse .retire h [])))

/-- The permission checks of RENEW ALL and RETIRE ALL; RENEW ALL then starts the hold of each LIVE record of the
target anew and answers with the number of them; RETIRE ALL frees every record of the target, sets its held count to
0, takes the records off their lists, and answers with the number freed, and every channel takes the pair of its
list's winner (R18, R19, R42, R43). The order of the channels is the model's (log entry 16). -/
def Obligations.RequestsOnWholeSlot : Prop :=
  ∀ (h : Header) (target : Byte) (s : State), s.Accepts h →
    let refused (status : Status) : Prop :=
      exec (.renewAll h target) s = .next (s.endFrame (refusalResponse .renewAll h status)) ∧
      exec (.retireAll h target) s = .next (s.endFrame (refusalResponse .retireAll h status))
    (12 ≤ target.toNat → refused .badValue) ∧
    (target.toNat = 11 → refused .notPermitted) ∧
    (target.toNat ≤ 10 → h.slot ≠ 0#4 → target.toNat ≠ h.slot.toNat → refused .notPermitted) ∧
    (∀ n : SlotNo, target.toNat = n.val → n.val ≤ 10 → (h.slot = 0#4 ∨ n.val = h.slot.toNat) →
      (∃ t, exec (.renewAll h target) s = .next t ∧
        t = ({ s with records := t.records }).endFrame (okResponse .renewAll h [BitVec.ofNat 8
          (Finset.univ.filter (fun y : Handle => s.records[y].liveOf n = true)).card]) ∧
        (∀ (y : Handle) (d : Demand) (time : Option Nat), s.records[y] = .live d time → d.owner = n →
          t.records[y] = .live d (startedHold d.hold)) ∧
        (∀ y : Handle, (∀ d time, s.records[y] = .live d time → d.owner ≠ n) → t.records[y] = s.records[y])) ∧
      (∃ t, exec (.retireAll h target) s = .next t ∧
        t = ({ s with records := t.records, held := s.held.set n 0, lists := t.lists, drive := t.drive }).endFrame
          (okResponse .retireAll h [BitVec.ofNat 8
            (Finset.univ.filter (fun y : Handle => s.records[y].ownedBy n = true)).card]) ∧
        (∀ y : Handle, t.records[y] = if s.records[y].ownedBy n then .free else s.records[y]) ∧
        (∀ c : Ch, t.lists[c] = s.lists[c].filter (fun y => !s.records[y].ownedBy n)) ∧
        t.Follows s.drive allChans))

/-- At its hold expiry a LIVE record becomes LAPSED with grace 5000 and leaves its list, LAPSE is set, and its channel
takes the pair of its list's winner (R21, R42); at its grace expiry a LAPSED record becomes FREE and its owner's held
count falls by 1 (R22). -/
def Obligations.HoldAndGraceExpiry : Prop :=
  ∀ (n : Handle) (s : State) (d : Demand) (ms : Nat), s.inReset = false → ms ≤ 1 →
    (s.records[n] = .live d (some ms) →
      ∃ t, exec (.holdExpiry n) s = .next t ∧
        t = { s with records := s.records.set n (.lapsed d 5000)
                     lists := s.lists.set d.channel (s.lists[d.channel].filter (fun y => y ≠ n)), drive := t.drive } ∧
        t.drive.notice.kinds.getLsbD 1 = true ∧
        t.Follows { s.drive with notice := { s.drive.notice with kinds := s.drive.notice.kinds ||| 0x02#8 } }
          [d.channel]) ∧
    (s.records[n] = .lapsed d ms →
      exec (.graceExpiry n) s =
        .next { s with records := s.records.set n .free, held := s.held.set d.owner (s.held[d.owner] - 1) })

/-- LOOKUP answers a handle above 63 with NO_RECORD, and otherwise with the record's fields, its time left in 100 ms
units rounded up, its rank and its channel's state, all ones where absent (R25, R156). READ LAPSED sets the flag of
each handle whose record is LAPSED, bit n of the 64 for handle n (R26). LIST answers a channel above 15 with
BAD_VALUE, and otherwise shows the list in rank order: ten entry bytes of handle and class, and ten owner nibbles, all
ones beyond the list (R46, R156). None changes anything. That the duty byte of a FREE record in LOOKUP is FFh follows
R156 where note 2 of R153 says otherwise (log entry 22). -/
def Obligations.RecordsAreShown : Prop :=
  ∀ (h : Header) (handle channel : Byte) (s : State), s.Accepts h →
    let answers (items : List Byte) : Prop :=
      exec (.lookup h handle) s = .next (s.endFrame (okResponse .lookup h items))
    let fields (d : Demand) : List Byte :=
      [BitVec.ofNat 8 d.owner.val, BitVec.ofNat 8 d.load.val, BitVec.ofNat 8 d.channel.val] ++ levelShown d.level ++
        [BitVec.ofNat 8 d.cls.val] ++ twoBytes d.hold
    let units (ms : Nat) : List Byte := twoBytes ((ms + 99) / 100)
    (64 ≤ handle.toNat → exec (.lookup h handle) s = .next (s.endFrame (refusalResponse .lookup h .noRecord))) ∧
    (∀ n : Handle, handle.toNat = n.val →
      (s.records[n] = .free → answers (0x00#8 :: List.replicate 12 0xFF#8 ++ [handle])) ∧
      (∀ d time, s.records[n] = .live d time → answers (0x01#8 :: fields d ++
        (match time with | none => [0xFF#8, 0xFF#8] | some ms => units ms) ++
        [BitVec.ofNat 8 (s.lists[d.channel].idxOf n), stateByte s.drive.chans[d.channel].state, handle])) ∧
      (∀ d grace, s.records[n] = .lapsed d grace → answers (0x02#8 :: fields d ++ units grace ++
        [0xFF#8, stateByte s.drive.chans[d.channel].state, handle]))) ∧
    (∃ flags : BitVec 64, (∀ n : Handle, flags.getLsbD n.val = true ↔ ∃ d grace, s.records[n] = .lapsed d grace) ∧
      exec (.readLapsed h) s = .next (s.endFrame (okResponse .readLapsed h
        [flags.extractLsb' 56 8, flags.extractLsb' 48 8, flags.extractLsb' 40 8, flags.extractLsb' 32 8,
         flags.extractLsb' 24 8, flags.extractLsb' 16 8, flags.extractLsb' 8 8, flags.extractLsb' 0 8]))) ∧
    (16 ≤ channel.toNat → exec (.list h channel) s = .next (s.endFrame (refusalResponse .list h .badValue))) ∧
    (∀ c : Ch, channel.toNat = c.val → ∃ items : List Byte, items.length = 15 ∧
      exec (.list h channel) s = .next (s.endFrame (okResponse .list h items)) ∧
      (∀ rank : Nat, rank < 10 →
        (s.lists[c].length ≤ rank →
          byteAt items rank = 0xFF#8 ∧ nibbleAt (byteAt items (10 + rank / 2)) rank = 15) ∧
        (∀ (y : Handle) (d : Demand) (time : Option Nat), s.lists[c][rank]? = some y → s.records[y] = .live d time →
          (byteAt items rank).toNat = y.val * 4 + d.cls.val ∧
          nibbleAt (byteAt items (10 + rank / 2)) rank = d.owner.val)))

/-! ### The requester table -/

/-- SET REQUESTER with no store in flight: its checks in order, then the settings of the target slot; of slot 0 the
quota alone. ADD QUOTA saturates at 60. READ REQUESTER answers with the settings and the held count (R3, R5, R6). -/
def Obligations.RequesterSettings : Prop :=
  ∀ (h : Header) (target enabled quota ceiling n : Byte) (s : State), s.Supervised h →
    let items (x : Configuration) (k : SlotNo) : List Byte :=
      [if (requesterOf x k).enabled then 0x01#8 else 0x00#8, BitVec.ofNat 8 (requesterOf x k).quota,
       BitVec.ofNat 8 (requesterOf x k).ceiling.val, BitVec.ofNat 8 s.held[k]]
    let refusesSet (status : Status) : Prop := exec (.setRequester h target enabled quota ceiling) s =
      .next (s.endFrame (refusalResponse .setRequester h status))
    let refusesAdd (status : Status) : Prop :=
      exec (.addQuota h target n) s = .next (s.endFrame (refusalResponse .addQuota h status))
    (12 ≤ target.toNat → exec (.readRequester h target) s =
      .next (s.endFrame (refusalResponse .readRequester h .badValue))) ∧
    (∀ k : SlotNo, target.toNat = k.val →
      exec (.readRequester h target) s = .next (s.endFrame (okResponse .readRequester h (items s.conf k)))) ∧
    (s.store.writing = none →
      (target.toNat = 11 → refusesSet .notPermitted ∧ refusesAdd .notPermitted) ∧
      (12 ≤ target.toNat → refusesSet .badValue ∧ refusesAdd .badValue) ∧
      (∀ k : SlotNo, target.toNat = k.val → k.val ≤ 10 →
        (60 < quota.toNat → refusesSet .badValue) ∧
        (n = 0#8 ∨ 60 < n.toNat → refusesAdd .badValue) ∧
        (n ≠ 0#8 → n.toNat ≤ 60 → ∃ x, exec (.addQuota h target n) s =
            .next (({ s with conf := x }).endFrame (okResponse .addQuota h [BitVec.ofNat 8 (requesterOf x k).quota])) ∧
          x = { s.conf with quota0 := x.quota0, slots := x.slots } ∧
          requesterOf x k = { requesterOf s.conf k with quota := min 60 ((requesterOf s.conf k).quota + n.toNat) } ∧
          (∀ j : SlotNo, j ≠ k → requesterOf x j = requesterOf s.conf j)) ∧
        (quota.toNat ≤ 60 → k.val = 0 → exec (.setRequester h target enabled quota ceiling) s =
          .next (({ s with conf := { s.conf with quota0 := quota.toNat } }).endFrame
            (okResponse .setRequester h (items { s.conf with quota0 := quota.toNat } k)))) ∧
        (quota.toNat ≤ 60 → k.val ≠ 0 →
          (3 < ceiling.toNat → refusesSet .badValue) ∧
          (ceiling.toNat ≤ 3 → enabled = 0#8 → (requesterOf s.conf k).enabled = true → s.held[k] ≠ 0 →
            refusesSet .wrongState) ∧
          (ceiling.toNat ≤ 3 → (enabled ≠ 0#8 ∨ (requesterOf s.conf k).enabled = false ∨ s.held[k] = 0) →
            ∃ x, exec (.setRequester h target enabled quota ceiling) s =
                .next (({ s with conf := x }).endFrame (okResponse .setRequester h (items x k))) ∧
              x = { s.conf with slots := x.slots } ∧
              requesterOf x k = ⟨decide (enabled ≠ 0#8), quota.toNat, Fin.ofNat 4 ceiling.toNat⟩ ∧
              (∀ j : SlotNo, j ≠ k → requesterOf x j = requesterOf s.conf j)))))

/-- Each slot's held count equals the number of non-FREE records it owns, and each record stands on a handle its owner
may have: every step keeps it (R2, R7, R27). -/
def Obligations.HeldCountsMatchRecords : Prop :=
  ∀ s t : State, s.HeldSound → step s = .next t → t.HeldSound

/-- Each list holds exactly the LIVE records of its channel, each once, at most 6 requester records among them,
highest class first, and the Channel Sequencer holds the wanted level and the effective class of the winner of each
list: every step keeps it (R36, R37, R41, R42). -/
def Obligations.ListsHoldLiveRecords : Prop :=
  ∀ s t : State, s.ListsSound → step s = .next t → t.ListsSound ∧ (s.WinnersHeld → t.WinnersHeld)

/-- A pair that has not changed is not handed on: where every given channel's Sequencer holds the pair its list gives,
the hand-over changes nothing (R42). The pair is the level and the class of the record at rank 0, OFF and none for an
empty list (R41); it is recorded, and a pass runs where it is due (R106). A level that becomes OFF takes a channel
that is not DISABLED or OFF to OFF (R63). Else a class that falls to 0 or 1 while supply is low sheds a driven channel
(R64); else a queued entry moves to the end of its new class group (R105), and a new level enters the switch-on path
from OFF, is applied at once in ON where it needs no more, waits as an upgrade in ON where it needs more, and is only
recorded in the other states (R60, R61); the Flash Generator follows what joins or leaves it (R124, R125). Where both
values change, the class comes first (R64; log entry 18). That an unchanged DIM level keeps the on part it has taken
up is log entry 19. -/
def Obligations.UnchangedPairIsNotHandedOn : Prop :=
  (∀ (s : State) (cs : List Ch),
    (∀ c ∈ cs, (s.drive.chans[c].wanted, s.drive.chans[c].cls) = s.winnerPair c) → s.handOver cs = s) ∧
  (∀ (s : State) (c : Ch),
    (s.lists[c] = [] → s.winnerPair c = (.off, none)) ∧
    (∀ (y : Handle) (d : Demand) (time : Option Nat), s.lists[c].head? = some y → s.records[y] = .live d time →
      s.winnerPair c = (d.level, some d.cls)) ∧
    (let r := s.drive.takePair s.env c (s.winnerPair c).1 (s.winnerPair c).2
     s.handOver [c] = { s with drive := if r.2 then r.1.pass s.env s.conf.channels[c].feed.index else r.1 })) ∧
  (∀ (d : Drive) (e : Env) (c : Ch) (wanted : Level) (cls : Option Cls), PairsWellFormed e.conf.pairs →
    let x := d.chans[c]
    let y : Channel := { x with wanted := wanted, cls := cls }
    let cfg := e.conf.channels[c]
    let f := cfg.feed.index
    let put (z : Channel) : Drive := { d with chans := d.chans.set c z }
    let rank (z : Ch) : Nat := (put y).chans[z].rank
    let others := d.feeds[f].queue.filter (fun q => q.ch ≠ c)
    let taken := d.takePair e c wanted cls
    let newLevel : Prop := wanted ≠ x.wanted
    let newClass : Prop := cls ≠ x.cls
    let toOff : Prop := newLevel ∧ wanted = .off
    let shedNow : Prop := newClass ∧ x.state.driven = true ∧ e.low = true ∧ (cls = none ∨ cls = some 0 ∨ cls = some 1)
    let recorded : Prop :=
      (∀ q ∈ d.feeds[f].queue, q.ch = c → (∀ q' ∈ d.feeds[f].queue, q'.ch = c → q' = q) → newClass →
        (x.state = .waiting .budget ∨ x.state = .on) →
        taken.1 = { put y with feeds := d.feeds.set f { d.feeds[f] with queue := taken.1.feeds[f].queue } } ∧
        JoinedInClass rank q others taken.1.feeds[f].queue) ∧
      ((∀ q ∈ d.feeds[f].queue, q.ch ≠ c) ∨ ¬ newClass ∨ (x.state ≠ .waiting .budget ∧ x.state ≠ .on) →
        taken.1 = put y) ∧
      (taken.2 = true ↔ newClass ∧ (x.state = .waiting .budget ∨ x.state.driven = true))
    (toOff → x.state = .disabled ∨ x.state = .off → taken = (put y, false)) ∧
    (toOff → x.state ≠ .disabled → x.state ≠ .off →
      let hot := 64 * cfg.iRate ^ 2 < e.monitors[c].heat
      taken.2 = decide (x.reservation ≠ 0) ∧
      taken.1 = { d with
        chans := d.chans.set c { y.stopped .off with
          retries := 0, lastFault := none, retryTimer := none
          cooling := x.cooling || decide ((x.state = .tripped ∨ x.state = .latched) ∧ hot) }
        feeds := d.feeds.set f { committed := d.feeds[f].committed - x.reservation, queue := others,
                                 admitted := d.feeds[f].admitted.filter (fun z => z ≠ c) }
        pairs := taken.1.pairs, flash := taken.1.flash } ∧
      taken.1.FlashFollows e.conf d.flash ∧
      (∀ p : PairNo, taken.1.pairs[p] =
        if e.conf.pairs[p].enabled = true ∧
            ((e.conf.pairs[p].a = c ∧ d.pairs[p].holder = .a) ∨ (e.conf.pairs[p].b = c ∧ d.pairs[p].holder = .b))
        then ⟨.none, some 50⟩ else d.pairs[p])) ∧
    (¬ toOff → shedNow → taken.2 = true ∧ (put y).ShedOf e.conf c .undervolt taken.1) ∧
    (¬ toOff → ¬ shedNow →
      (¬ newLevel ∨ (x.state ≠ .off ∧ x.state ≠ .on) → recorded) ∧
      (newLevel → x.state = .off → taken = (put y).switchOn e c) ∧
      (newLevel → x.state = .on →
        let level := if wanted = .flash ∧ cfg.loadType ≠ .lamp then Level.steady else wanted
        let steady := match level with
          | .off => 0
          | .steady => cfg.iNom
          | .flash => cfg.iNom
          | .dim duty => (cfg.iNom * duty.val + 63) / 64
        (steady ≤ x.reservation →
          (taken.2 = true ↔ newClass ∨ steady < x.reservation) ∧
          taken.1 = { d with
            chans := d.chans.set c { y with
              applied := level, reservation := steady, upgrade := false
              pwmSettled := x.pwmSettled && decide (x.applied = level) }
            feeds := d.feeds.set f { d.feeds[f] with
              committed := d.feeds[f].committed + steady - x.reservation, queue := others }
            flash := taken.1.flash } ∧ taken.1.FlashFollows e.conf d.flash) ∧
        (x.reservation < steady → taken.2 = true ∧
          taken.1 = { put { y with upgrade := true } with
            feeds := d.feeds.set f { d.feeds[f] with queue := taken.1.feeds[f].queue } } ∧
          JoinedInClass rank ⟨c, .upgrade⟩ others taken.1.feeds[f].queue))))

/-! ### The Load Map -/

/-- READ LOAD answers with the entry, its use count and its line set; MAP LOAD with no store in flight takes its
checks in order and writes one entry (R32, R34). -/
def Obligations.LoadMapRequests : Prop :=
  ∀ (h : Header) (load enabled channel : Byte) (permitted : Word16) (s : State),
    let uses (l : LoadNo) : Nat := (Finset.univ.filter (fun y : Handle => s.records[y].names l = true)).card
    let bound (l : LoadNo) (n : LineNo) : Prop := s.conf.bindings[n].enabled = true ∧ s.conf.bindings[n].load = l
    let refused (status : Status) : Prop := exec (.mapLoad h load enabled channel permitted) s =
      .next (s.endFrame (refusalResponse .mapLoad h status))
    (s.Accepts h →
      (32 ≤ load.toNat → exec (.readLoad h load) s = .next (s.endFrame (refusalResponse .readLoad h .badValue))) ∧
      (∀ l : LoadNo, load.toNat = l.val → ∃ lines : Byte,
        (∀ n : LineNo, lines.getLsbD n.val = true ↔ bound l n) ∧ lines.toNat < 16 ∧
        exec (.readLoad h load) s = .next (s.endFrame (okResponse .readLoad h
          ([yesShown s.conf.loads[l].enabled, BitVec.ofNat 8 s.conf.loads[l].channel.val] ++
            twoBytes s.conf.loads[l].permitted.toNat ++ [BitVec.ofNat 8 (uses l), lines]))))) ∧
    (s.Supervised h → s.store.writing = none →
      (32 ≤ load.toNat ∨ 16 ≤ channel.toNat ∨ 2048 ≤ permitted.toNat → refused .badValue) ∧
      (∀ (l : LoadNo) (c : Ch), load.toNat = l.val → channel.toNat = c.val → permitted.toNat < 2048 →
        (uses l ≠ 0 ∨ (∃ n, bound l n) → refused .wrongState) ∧
        (uses l = 0 → (∀ n, ¬ bound l n) →
          exec (.mapLoad h load enabled channel permitted) s =
            .next (({ s with conf := { s.conf with
              loads := s.conf.loads.set l ⟨decide (enabled ≠ 0#8), c, BitVec.ofNat 11 permitted.toNat⟩ } }).endFrame
                (okResponse .mapLoad h ([if enabled = 0#8 then 0x00#8 else 0x01#8, channel] ++
                  twoBytes permitted.toNat ++ [0x00#8, 0x00#8]))))))

/-! ### Channels -/

/-- SET CHANNEL LIMITS and SET CHANNEL PROFILE with no store in flight: BAD_VALUE for a channel above 15, WRONG_STATE
unless it is DISABLED, BAD_VALUE for a field out of range, an inrush limit below the peak limit or outage watch of a
channel that is no LAMP; taken, they write the fields of their group and set the configured flag (R50, R51). -/
def Obligations.ChannelConfigurationRequests : Prop :=
  ∀ (h : Header) (channel : Byte) (p : LimitsParams) (q : ProfileParams) (s : State), s.Supervised h →
    s.store.writing = none →
    let limits := exec (.setChannelLimits h channel p) s
    let profile := exec (.setChannelProfile h channel q) s
    let refusedLimits (status : Status) : Prop :=
      limits = .next (s.endFrame (refusalResponse .setChannelLimits h status))
    let refusedProfile (status : Status) : Prop :=
      profile = .next (s.endFrame (refusalResponse .setChannelProfile h status))
    let limitsInRange : Prop :=
      p.feed.toNat ≤ 2 ∧ (1 ≤ p.iNom.toNat ∧ p.iNom.toNat ≤ 1023) ∧ (1 ≤ p.iRate.toNat ∧ p.iRate.toNat ≤ 1023) ∧
      (8 ≤ p.k.toNat ∧ p.k.toNat ≤ 16) ∧ (1 ≤ p.peakLimit.toNat ∧ p.peakLimit.toNat ≤ p.inrushLimit.toNat) ∧
      p.inrushLimit.toNat ≤ 1023 ∧ (1 ≤ p.inrushFactor.toNat ∧ p.inrushFactor.toNat ≤ 16)
    let profileInRange : Prop :=
      q.loadType.toNat ≤ 2 ∧ q.openLoadLevel.toNat ≤ 1023 ∧ (1 ≤ q.stallLevel.toNat ∧ q.stallLevel.toNat ≤ 1023) ∧
      1 ≤ q.stallTime.toNat ∧ q.retryLimit.toNat ≤ 7 ∧ (q.outageWatch = 0#8 ∨ q.loadType = 0#8)
    (16 ≤ channel.toNat → refusedLimits .badValue ∧ refusedProfile .badValue) ∧
    (∀ c : Ch, channel.toNat = c.val →
      let old := s.conf.channels[c]
      let written (x : ChannelConfig) : State := { s with conf := { s.conf with channels := s.conf.channels.set c x } }
      (s.drive.chans[c].state ≠ .disabled → refusedLimits .wrongState ∧ refusedProfile .wrongState) ∧
      (s.drive.chans[c].state = .disabled →
        (¬ limitsInRange → refusedLimits .badValue) ∧
        (¬ profileInRange → refusedProfile .badValue) ∧
        (∀ feed : Feed, limitsInRange → p.feed.toNat = feed.index.val →
          limits = .next ((written { old with
            feed := feed, iNom := p.iNom.toNat, iRate := p.iRate.toNat, k := p.k.toNat,
            peakLimit := p.peakLimit.toNat, inrushLimit := p.inrushLimit.toNat,
            inrushFactor := p.inrushFactor.toNat, inrushWindow := p.inrushWindow.toNat,
            configured := true }).endFrame (okResponse .setChannelLimits h []))) ∧
        (∀ loadType : LoadType, profileInRange →
          q.loadType = (match loadType with | .lamp => 0x00#8 | .motor => 0x01#8 | .heater => 0x02#8) →
          profile = .next ((written { old with
            loadType := loadType, openLoadLevel := q.openLoadLevel.toNat, stallLevel := q.stallLevel.toNat,
            stallTime := q.stallTime.toNat, retryLimit := q.retryLimit.toNat,
            outageWatch := decide (q.outageWatch ≠ 0#8), lockAtStart := decide (q.lockAtStart ≠ 0#8),
            configured := true }).endFrame (okResponse .setChannelProfile h [])))))

/-- LOCK: BAD_VALUE above 15, no effect on a DISABLED channel; any other channel becomes DISABLED with its
reservation, its queue entry, its retries and its timers gone and its wanted pair and last fault kept, its pair is
released into dead time, the Flash Generator follows, and where it held a reservation a pass runs on its feed (R72,
R111, R125); where no other entry waits there nothing else of the channels and feeds changes. -/
def Obligations.LockDisablesChannel : Prop :=
  ∀ (h : Header) (channel : Byte) (s : State), s.Supervised h →
    (16 ≤ channel.toNat → exec (.lock h channel) s = .next (s.endFrame (refusalResponse .lock h .badValue))) ∧
    (∀ c : Ch, channel.toNat = c.val →
      let x := s.drive.chans[c]
      let f := s.conf.channels[c].feed.index
      let hot := 64 * s.conf.channels[c].iRate ^ 2 < s.monitors[c].heat
      (x.state = .disabled → exec (.lock h channel) s = .next (s.endFrame (okResponse .lock h []))) ∧
      (x.state ≠ .disabled → PairsWellFormed s.conf.pairs →
        ∃ t, exec (.lock h channel) s = .next t ∧
          t = ({ s with drive := t.drive }).endFrame (okResponse .lock h []) ∧
          t.drive.chans[c] = { x.stopped .disabled with
            retries := 0, retryTimer := none,
            cooling := x.cooling || decide ((x.state = .tripped ∨ x.state = .latched) ∧ hot) } ∧
          (∀ p : PairNo, t.drive.pairs[p] =
            if s.conf.pairs[p].enabled = true ∧
                ((s.conf.pairs[p].a = c ∧ s.drive.pairs[p].holder = .a) ∨
                 (s.conf.pairs[p].b = c ∧ s.drive.pairs[p].holder = .b))
            then ⟨.none, some 50⟩ else s.drive.pairs[p]) ∧
          (∃ d : Drive, s.drive.SwitchedOff s.conf c { x.stopped .disabled with
              retries := 0, retryTimer := none,
              cooling := x.cooling || decide ((x.state = .tripped ∨ x.state = .latched) ∧ hot) } d ∧
            d.pairs = t.drive.pairs ∧ d.notice = s.drive.notice ∧
            t.drive = if x.reservation = 0 then d else d.pass s.env f) ∧
          ((∀ e ∈ s.drive.feeds[f].queue, e.ch = c) →
            (∀ c' : Ch, c' ≠ c → t.drive.chans[c'] = s.drive.chans[c']) ∧
            t.drive.feeds = s.drive.feeds.set f
              { committed := s.drive.feeds[f].committed - x.reservation, queue := [],
                admitted := s.drive.feeds[f].admitted.filter (fun y => y ≠ c) } ∧
            t.drive.check = s.drive.check ∧ t.drive.notice = s.drive.notice)))

/-- UNLOCK and CLEAR FAULT: their checks in order; then the channel goes to OFF or on the switch-on path with its
retry count and last fault cleared, CLEAR FAULT marking a channel that leaves its fault hot; the answer shows the
state reached (R71, R73). What the switch-on path does is `SwitchOnPathTests`. -/
def Obligations.UnlockAndClearFault : Prop :=
  ∀ (h : Header) (channel : Byte) (s : State), s.Supervised h →
    let refusedUnlock (status : Status) : Prop :=
      exec (.unlock h channel) s = .next (s.endFrame (refusalResponse .unlock h status))
    let refusedClear (status : Status) : Prop :=
      exec (.clearFault h channel) s = .next (s.endFrame (refusalResponse .clearFault h status))
    (16 ≤ channel.toNat → refusedUnlock .badValue ∧ refusedClear .badValue) ∧
    (∀ c : Ch, channel.toNat = c.val →
      let x := s.drive.chans[c]
      let goesOn (y : Channel) : Drive :=
        Drive.passIf s.env c (Drive.switchOn { s.drive with chans := s.drive.chans.set c y } s.env c)
      (s.conf.channels[c].configured = false ∨ x.state ≠ .disabled → refusedUnlock .wrongState) ∧
      (s.conf.channels[c].configured = true → x.state = .disabled →
        ∃ t, exec (.unlock h channel) s = .next t ∧
          t = ({ s with drive := t.drive }).endFrame (okResponse .unlock h [stateByte t.drive.chans[c].state]) ∧
          (x.wanted = .off → t.drive = { s.drive with
            chans := s.drive.chans.set c { x with state := .off, retries := 0, lastFault := none } }) ∧
          (x.wanted ≠ .off → t.drive = goesOn { x with state := .off, retries := 0, lastFault := none })) ∧
      (x.state ≠ .tripped → x.state ≠ .latched → refusedClear .wrongState) ∧
      (x.state = .tripped ∨ x.state = .latched →
        ∃ t, exec (.clearFault h channel) s = .next t ∧
          t = ({ s with drive := t.drive }).endFrame (okResponse .clearFault h [stateByte t.drive.chans[c].state]) ∧
          t.drive = goesOn { x with
            retries := 0, lastFault := none, retryTimer := none,
            cooling := x.cooling || decide (64 * s.conf.channels[c].iRate ^ 2 < s.monitors[c].heat) }))

/-- The tests of the switch-on path in their order: a set cooling flag with H above T_cool; the pair, held by the
other member or in dead time, with the present time as the wait start; and else the channel, as the holder of its
pair, asks its feed with a fresh entry behind those of its class (R56). -/
def Obligations.SwitchOnPathTests : Prop :=
  ∀ (d : Drive) (e : Env) (c : Ch), PairsWellFormed e.conf.pairs →
    let x := d.chans[c]
    let hot := 64 * e.conf.channels[c].iRate ^ 2 < e.monitors[c].heat
    let standing (state : ChanState) : Drive := { d with chans := d.chans.set c { x with state := state } }
    let asks (r : Drive × Bool) (pairs : Vector PairState 8) : Prop :=
      let f := e.conf.channels[c].feed.index
      r.2 = true ∧
      r.1 = { standing (.waiting .budget) with pairs := pairs, feeds := r.1.feeds } ∧
      (∀ g : Fin 3, g ≠ f → r.1.feeds[g] = d.feeds[g]) ∧
      r.1.feeds[f] = { d.feeds[f] with queue := r.1.feeds[f].queue } ∧
      JoinedInClass (fun y => d.chans[y].rank) ⟨c, .fresh⟩ d.feeds[f].queue r.1.feeds[f].queue
    (x.cooling = true → hot → d.switchOn e c = (standing (.waiting .cooling), false)) ∧
    (x.cooling = false ∨ ¬ hot →
      ((∀ p : PairNo, e.conf.pairs[p].enabled = true → e.conf.pairs[p].a ≠ c ∧ e.conf.pairs[p].b ≠ c) →
        asks (d.switchOn e c) d.pairs) ∧
      (∀ (p : PairNo) (side : Holder), e.conf.pairs[p].enabled = true →
        (e.conf.pairs[p].a = c ∧ side = .a) ∨ (e.conf.pairs[p].b = c ∧ side = .b) →
        (d.pairs[p].holder = side ∨ (d.pairs[p].holder = .none ∧ d.pairs[p].dead = none) →
          asks (d.switchOn e c) (d.pairs.set p { d.pairs[p] with holder := side })) ∧
        (d.pairs[p].holder ≠ side → (d.pairs[p].holder = .none → d.pairs[p].dead ≠ none) →
          d.switchOn e c = (standing (.waiting (.interlock e.now)), false))))

/-- An admission pass admits the only waiting entry when what it needs fits. With a fresh entry the channel goes to
INRUSH at the level to apply, its stall timer at its reload, with an inrush window of 0 straight to ON with its steady
reservation, and stands last on the admitted list (R58, R110); its output check, if it is under test, is abandoned
with no result and the next member above it is visited (R143). With an upgrade entry the channel stays ON, takes the
level to apply, and its reservation rises to the steady reservation of that level (R62, R110). The Flash Generator
follows what joins it (R124, R125). What is reserved is counted, and nothing else of the channels and feeds changes.
That the stall timer stands at its reload from the admission on is log entry 31, and that an unchanged DIM level keeps
the on part it has taken up is log entry 19. -/
def Obligations.AdmittedFreshGoesToInrush : Prop :=
  ∀ (d : Drive) (e : Env) (c : Ch),
    let x := d.chans[c]
    let cfg := e.conf.channels[c]
    let f := cfg.feed.index
    let inrush := min 1023 (cfg.iNom * cfg.inrushFactor)
    let level := if x.wanted = .flash ∧ cfg.loadType ≠ .lamp then Level.steady else x.wanted
    let steady := match level with
      | .off => 0
      | .steady => cfg.iNom
      | .flash => cfg.iNom
      | .dim duty => (cfg.iNom * duty.val + 63) / 64
    let d' := d.pass e f
    let free := e.conf.budgets[f] - d.feeds[f].committed
    let restKept : Prop := (∀ c' : Ch, c' ≠ c → d'.chans[c'] = d.chans[c']) ∧ d'.pairs = d.pairs ∧
      (∀ g : Fin 3, g ≠ f → d'.feeds[g] = d.feeds[g])
    (e.low = false ∨ 2 ≤ x.rank) →
    (d.feeds[f].queue = [⟨c, .fresh⟩] → x.reservation = 0 → inrush ≤ free →
      restKept ∧
      (x.openFlag = false → d'.FlashFollows e.conf d.flash) ∧
      (∀ r, d.check.run = some r → r.test.ch = c →
        Drive.VisitsFrom { d' with check := d.check, notice := d.notice } d' r.selection (c.val + 1)) ∧
      ((∀ r, d.check.run = some r → r.test.ch ≠ c) → d'.check = d.check ∧ d'.notice = d.notice) ∧
      (cfg.inrushWindow ≠ 0 →
        d'.chans[c] = { x with state := .inrush, applied := level, reservation := inrush, pwmSettled := false,
                               inrushTimer := some (cfg.inrushWindow * 10), stallTimer := cfg.stallTime * 10 } ∧
        d'.feeds[f] = ⟨d.feeds[f].committed + inrush, [], d.feeds[f].admitted ++ [c]⟩) ∧
      (cfg.inrushWindow = 0 →
        d'.chans[c] = { x with state := .on, applied := level, reservation := steady, pwmSettled := false,
                               inrushTimer := none, cleanTimer := some 10000, openCount := 0, openFlag := false,
                               stallTimer := cfg.stallTime * 10 } ∧
        d'.feeds[f] = ⟨d.feeds[f].committed + steady, [], d.feeds[f].admitted ++ [c]⟩)) ∧
    (d.feeds[f].queue = [⟨c, .upgrade⟩] → x.reservation ≤ steady → steady - x.reservation ≤ free →
      restKept ∧ d'.FlashFollows e.conf d.flash ∧ d'.check = d.check ∧ d'.notice = d.notice ∧
      d'.chans[c] = { x with applied := level, reservation := steady, upgrade := false,
                             pwmSettled := x.pwmSettled && decide (x.applied = level) } ∧
      d'.feeds[f] = { d.feeds[f] with committed := d.feeds[f].committed + (steady - x.reservation), queue := [] })

/-- CHANNEL STATUS and FEED STATUS answer with the layouts of R157 and R158. A channel's state and wait cause are
shown with their codes: DISABLED 0 to LATCHED 6 in the high four bits, and in the low four COOLING 0, INTERLOCK 1,
BUDGET 2, or Fh where there is no cause (R153). -/
def Obligations.ChannelAndFeedStatus : Prop :=
  (∀ x : ChanState, stateByte x = (match x with
    | .disabled => 0x0F#8 | .off => 0x1F#8 | .waiting .cooling => 0x20#8 | .waiting (.interlock _) => 0x21#8
    | .waiting .budget => 0x22#8 | .inrush => 0x3F#8 | .on => 0x4F#8 | .tripped => 0x5F#8 | .latched => 0x6F#8)) ∧
  ∀ (h : Header) (n : Byte) (s : State), s.Accepts h →
    (16 ≤ n.toNat →
      exec (.channelStatus h n) s = .next (s.endFrame (refusalResponse .channelStatus h .badValue))) ∧
    (∀ c : Ch, n.toNat = c.val → s.drive.chans[c].retries ≤ 7 →
      let x := s.drive.chans[c]
      let cfg := s.conf.channels[c]
      let heat := min 255 (s.monitors[c].heat * 100 / (cfg.iRate * cfg.iRate * 256))
      ∃ flags history pair : Byte,
        exec (.channelStatus h n) s = .next (s.endFrame (okResponse .channelStatus h
          ([stateByte x.state] ++ levelShown x.wanted ++ levelShown x.applied ++
            [match x.cls with | none => 0xFF#8 | some k => BitVec.ofNat 8 k.val] ++ twoBytes x.reservation ++
            twoBytes s.monitors[c].lastI ++ [BitVec.ofNat 8 heat, flags, history, pair, n]))) ∧
        flags.getLsbD 7 = cfg.configured ∧ flags.getLsbD 4 = x.upgrade ∧ flags.getLsbD 3 = x.cooling ∧
        flags.getLsbD 2 = s.monitors[c].warn ∧ flags.getLsbD 1 = x.openFlag ∧ flags.getLsbD 0 = false ∧
        (flags.extractLsb' 5 2).toNat = (if cfg.configured then
          (match cfg.loadType with | .lamp => 0 | .motor => 1 | .heater => 2) else 3) ∧
        history.toNat = 32 * x.retries +
          8 * (match x.lastFault with | none => 0 | some .short => 1 | some .overload => 2 | some .stall => 3) +
          2 * (match x.lastShed with | none => 0 | some .budget => 1 | some .undervolt => 2) ∧
        ((∀ p : PairNo, s.conf.pairs[p].enabled = true → s.conf.pairs[p].a ≠ c ∧ s.conf.pairs[p].b ≠ c) →
          pair = 0xF0#8) ∧
        (PairsWellFormed s.conf.pairs → ∀ p : PairNo, s.conf.pairs[p].enabled = true →
          (s.conf.pairs[p].a = c → pair.toNat = 16 * p.val +
            (match s.drive.pairs[p].holder with | .none => 0 | .a => 4 | .b => 8)) ∧
          (s.conf.pairs[p].b = c → pair.toNat = 16 * p.val +
            (match s.drive.pairs[p].holder with | .none => 0 | .a => 8 | .b => 4)))) ∧
    (3 ≤ n.toNat → exec (.feedStatus h n) s = .next (s.endFrame (refusalResponse .feedStatus h .badValue))) ∧
    (∀ f : Fin 3, n.toNat = f.val → s.drive.feeds[f].queue.length ≤ 16 →
      let q := s.drive.feeds[f].queue
      ∃ (entries : List Byte) (upgrades : ChSet), entries.length = 8 ∧
        exec (.feedStatus h n) s = .next (s.endFrame (okResponse .feedStatus h
          (twoBytes s.conf.budgets[f] ++ twoBytes s.drive.feeds[f].committed ++
            [BitVec.ofNat 8 ((if s.supply.low then 128 else 0) + q.length)] ++ entries ++ twoBytes upgrades.toNat))) ∧
        (∀ i : Nat, i < 16 → nibbleAt (byteAt entries (i / 2)) i =
          (match q[i]? with | none => 0 | some x => x.ch.val)) ∧
        (∀ c : Ch, upgrades.getLsbD c.val = true ↔ (⟨c, .upgrade⟩ : Entry) ∈ q))

/-- READ INTERLOCK shows a pair. SET INTERLOCK with no store in flight takes its checks in order; taken, it writes the
pair, ends its dead time, gives it to a driven member, else to one in WAITING(BUDGET) or TRIPPED, the lower channel of
two, else to the waiting member that the arbiter grants, which goes on at the budget test while the other waits on
(R77); a member in WAITING(BUDGET) that is not the holder then waits for the pair from now on, a former member in
WAITING(INTERLOCK) goes on at the budget test, and where no member, former or new, waited for a pair nothing else
changes of the channels; no other pair changes (R78, R79). The order of these effects is log entry 25. -/
def Obligations.InterlockRequests : Prop :=
  ∀ (h : Header) (pair enabled a b : Byte) (s : State),
    let items (x : State) (p : PairNo) : List Byte :=
      let cfg := x.conf.pairs[p]
      [yesShown cfg.enabled, BitVec.ofNat 8 cfg.a.val, BitVec.ofNat 8 cfg.b.val,
       (match x.drive.pairs[p].holder with | .none => 0x00#8 | .a => 0x01#8 | .b => 0x02#8),
       BitVec.ofNat 8 (x.drive.pairs[p].dead.getD 0),
       yesShown x.drive.chans[cfg.a].state.waitsForPair, yesShown x.drive.chans[cfg.b].state.waitsForPair]
    let refused (status : Status) : Prop := exec (.setInterlock h pair enabled a b) s =
      .next (s.endFrame (refusalResponse .setInterlock h status))
    (s.Accepts h →
      (8 ≤ pair.toNat →
        exec (.readInterlock h pair) s = .next (s.endFrame (refusalResponse .readInterlock h .badValue))) ∧
      (∀ p : PairNo, pair.toNat = p.val →
        exec (.readInterlock h pair) s = .next (s.endFrame (okResponse .readInterlock h (items s p))))) ∧
    (s.Supervised h → s.store.writing = none →
      (8 ≤ pair.toNat ∨ 16 ≤ a.toNat ∨ 16 ≤ b.toNat → refused .badValue) ∧
      (∀ (p : PairNo) (ca cb : Ch), pair.toNat = p.val → a.toNat = ca.val → b.toNat = cb.val →
        let elsewhere (c : Ch) : Prop :=
          ∃ q : PairNo, q ≠ p ∧ s.conf.pairs[q].enabled = true ∧ (s.conf.pairs[q].a = c ∨ s.conf.pairs[q].b = c)
        let driven (c : Ch) : Prop := s.drive.chans[c].state.driven = true
        let claims (c : Ch) : Prop :=
          s.drive.chans[c].state = .waiting .budget ∨ s.drive.chans[c].state = .tripped
        let waits (c : Ch) : Prop := s.drive.chans[c].state.waitsForPair = true
        let since (c : Ch) (start : Nat) : Prop := s.drive.chans[c].state = .waiting (.interlock start)
        let before (x y : Ch) (sx sy : Nat) : Prop :=
          s.drive.chans[y].rank < s.drive.chans[x].rank ∨
            (s.drive.chans[y].rank = s.drive.chans[x].rank ∧ (sx < sy ∨ (sx = sy ∧ x < y)))
        let old := s.conf.pairs[p]
        let member (c : Ch) : Prop := enabled ≠ 0#8 ∧ (c = ca ∨ c = cb)
        (enabled ≠ 0#8 → ca = cb ∨ elsewhere ca ∨ elsewhere cb → refused .badValue) ∧
        (enabled ≠ 0#8 → ca ≠ cb → ¬ elsewhere ca → ¬ elsewhere cb → driven ca → driven cb → refused .wrongState) ∧
        (enabled = 0#8 ∨ (ca ≠ cb ∧ ¬ elsewhere ca ∧ ¬ elsewhere cb ∧ ¬ (driven ca ∧ driven cb)) →
          ∃ t, exec (.setInterlock h pair enabled a b) s = .next t ∧
            t = ({ s with
                    conf := { s.conf with pairs := s.conf.pairs.set p ⟨decide (enabled ≠ 0#8), ca, cb⟩ }
                    drive := t.drive }).endFrame (okResponse .setInterlock h (items t p)) ∧
            t.drive.pairs[p].dead = none ∧ (∀ q : PairNo, q ≠ p → t.drive.pairs[q] = s.drive.pairs[q]) ∧
            (enabled = 0#8 → t.drive.pairs[p].holder = .none) ∧
            (enabled ≠ 0#8 →
              (driven ca → t.drive.pairs[p].holder = .a) ∧
              (driven cb → t.drive.pairs[p].holder = .b) ∧
              (¬ driven ca → ¬ driven cb →
                (claims ca → (claims cb → ca < cb) → t.drive.pairs[p].holder = .a) ∧
                (claims cb → (claims ca → cb < ca) → t.drive.pairs[p].holder = .b) ∧
                (¬ claims ca → ¬ claims cb →
                  (¬ waits ca → ¬ waits cb → t.drive.pairs[p].holder = .none) ∧
                  (waits ca → ¬ waits cb → t.drive.pairs[p].holder = .a) ∧
                  (¬ waits ca → waits cb → t.drive.pairs[p].holder = .b) ∧
                  (∀ sa sb : Nat, since ca sa → since cb sb →
                    (before ca cb sa sb → t.drive.pairs[p].holder = .a) ∧
                    (before cb ca sb sa → t.drive.pairs[p].holder = .b))))) ∧
            (s.FeedsSound →
              (∀ (c : Ch) (side : Holder), enabled ≠ 0#8 → (c = ca ∧ side = .a) ∨ (c = cb ∧ side = .b) →
                (s.drive.chans[c].state = .waiting .budget → t.drive.pairs[p].holder ≠ side →
                  t.drive.chans[c].state = .waiting (.interlock s.now) ∧
                  (∀ g : Fin 3, ∀ q ∈ t.drive.feeds[g].queue, q.ch ≠ c)) ∧
                (∀ start : Nat, since c start →
                  (t.drive.pairs[p].holder = side → t.drive.chans[c].state.pastTest2 = true) ∧
                  (t.drive.pairs[p].holder ≠ side → t.drive.chans[c].state = .waiting (.interlock start)))) ∧
              (∀ c : Ch, old.enabled = true → (c = old.a ∨ c = old.b) → ¬ member c → waits c →
                t.drive.chans[c].state.pastTest2 = true) ∧
              ((∀ c : Ch, (old.enabled = true ∧ (c = old.a ∨ c = old.b)) ∨ member c → ¬ waits c) →
                ∀ c : Ch, ¬ member c ∨ s.drive.chans[c].state ≠ .waiting .budget →
                  t.drive.chans[c] = s.drive.chans[c])))))

/-- At the end of a pair's dead time the arbiter acts: with no member in WAITING(INTERLOCK) only the dead time ends;
the only member that waits, or of two the higher class, then the earlier wait start, then the lower channel number,
becomes the holder and asks its feed, whose pass runs (R77). -/
def Obligations.DeadTimeExpiryGrantsPair : Prop :=
  ∀ (p : PairNo) (s : State) (ms : Nat), s.inReset = false → s.conf.pairs[p].enabled = true →
    s.drive.pairs[p].dead = some ms → ms ≤ 1 → s.conf.pairs[p].a ≠ s.conf.pairs[p].b →
    let a := s.conf.pairs[p].a
    let b := s.conf.pairs[p].b
    let waits (c : Ch) (since : Nat) : Prop := s.drive.chans[c].state = .waiting (.interlock since)
    let idle (c : Ch) : Prop := ∀ since, ¬ waits c since
    let before (x y : Ch) (sx sy : Nat) : Prop :=
      s.drive.chans[y].rank < s.drive.chans[x].rank ∨
        (s.drive.chans[y].rank = s.drive.chans[x].rank ∧ (sx < sy ∨ (sx = sy ∧ x < y)))
    let wins (x y : Ch) : Prop := ∃ sx, waits x sx ∧ (idle y ∨ ∃ sy, waits y sy ∧ before x y sx sy)
    let pairHeldBy (side : Holder) : Drive := { s.drive with pairs := s.drive.pairs.set p ⟨side, none⟩ }
    let granted (c : Ch) (side : Holder) : Prop := exec (.deadTimeExpiry p) s =
      .next { s with drive := ((pairHeldBy side).joinFresh s.env c).pass s.env s.conf.channels[c].feed.index }
    (idle a → idle b →
      exec (.deadTimeExpiry p) s = .next { s with drive := pairHeldBy s.drive.pairs[p].holder }) ∧
    (wins a b → granted a .a) ∧ (wins b a → granted b .b)

/-- The inrush timer's expiry takes the channel to ON at the level to apply with its steady reservation, and a pass
runs on what it releases (R59); the clean-run timer's expiry clears the retry count and the last fault (R69); a PWM
period start lets every driven DIM channel take up its on part (R55). That an unchanged DIM level keeps the on part it
has taken up at the end of INRUSH is log entry 19; that the period start has no condition is log entry 26; that the
gate is given as its duty is log entry 20. A gate is off while its channel is not driven, on at STEADY, at DIM
switched with the duty once a period has started and on until then, and at FLASH on in the on phase and off in the off
phase (R55, R123). -/
def Obligations.TimersOfDrivenChannels : Prop :=
  ∀ (c : Ch) (s : State) (ms : Nat), s.inReset = false → ms ≤ 1 →
    let x := s.drive.chans[c]
    let cfg := s.conf.channels[c]
    let f := cfg.feed.index
    let level := levelToApply cfg x.wanted
    let steady := steadyReservation cfg level
    let d : Drive := { s.drive with
      chans := s.drive.chans.set c { x with
        state := .on, applied := level, reservation := steady, inrushTimer := none, cleanTimer := some 10000,
        openCount := 0, openFlag := false, pwmSettled := x.pwmSettled && decide (x.applied = level) }
      feeds := s.drive.feeds.set f { s.drive.feeds[f] with
        committed := s.drive.feeds[f].committed + steady - x.reservation } }
    (x.state = .inrush → x.inrushTimer = some ms →
      exec (.inrushTimerExpiry c) s =
        .next { s with drive := if steady = x.reservation then d.syncFlash s.env
                                else (d.syncFlash s.env).pass s.env f }) ∧
    (x.state = .on → x.cleanTimer = some ms →
      exec (.cleanRunExpiry c) s = .next { s with drive := { s.drive with
        chans := s.drive.chans.set c { x with retries := 0, lastFault := none, cleanTimer := none } } }) ∧
    (∃ t, exec .pwmPeriodStart s = .next t ∧
      t = { s with drive := { s.drive with chans := t.drive.chans }, pwmLeft := 5 } ∧
      (∀ duty, x.state.driven = true → x.applied = .dim duty →
        t.drive.chans[c] = { x with pwmSettled := true } ∧ t.gate c = .pwm duty) ∧
      (x.state.driven = false ∨ (∀ duty, x.applied ≠ .dim duty) → t.drive.chans[c] = x)) ∧
    (x.state.driven = false → s.gate c = .off) ∧
    (x.state.driven = true →
      (x.applied = .steady → s.gate c = .on) ∧
      (∀ duty, x.applied = .dim duty → s.gate c = if x.pwmSettled then .pwm duty else .on) ∧
      (x.applied = .flash → ∀ cy, s.drive.flash = some cy →
        (cy.phase = .on → s.gate c = .on) ∧ (cy.phase = .off → s.gate c = .off)))

/-- The retry of a TRIPPED channel, at its retry timer's expiry or, after OVERLOAD, with H at or below T_cool, takes
the switch-on path with retry count and last fault kept (R67); a cooling flag with H at or below T_cool clears, and a
channel in WAITING(COOLING) goes on with the interlock test (R70). A sample completion of an undriven channel that
leaves H at or below T_cool does these two things at its stage 8, after its stall timer is reloaded (R85, R92, R95):
the retry and the cooling flag's clearing see the monitors as it has left them. That test 1 of the switch-on path is
made at a retry too is log entry 37; the reload of a channel that is no MOTOR is log entry 29. -/
def Obligations.RetriesAndCooling : Prop :=
  ∀ (c : Ch) (sense : Nat) (s : State), s.inReset = false →
    let x := s.drive.chans[c]
    let cool := s.monitors[c].heat ≤ 64 * s.conf.channels[c].iRate ^ 2
    let goesOn (y : Channel) : Drive :=
      Drive.passIf s.env c (Drive.switchOn { s.drive with chans := s.drive.chans.set c y } s.env c)
    let retries (i : Instr) : Prop :=
      ∃ t, exec i s = .next t ∧ t = { s with drive := goesOn { x with retryTimer := none } } ∧
        t.drive.chans[c].retries = x.retries ∧ t.drive.chans[c].lastFault = x.lastFault
    (∀ ms, x.state = .tripped → x.retryTimer = some ms → ms ≤ 1 → retries (.retryTimerExpiry c)) ∧
    (x.state = .tripped → x.lastFault = some .overload → cool → retries (.overloadRetry c)) ∧
    (x.cooling = true → cool →
      (x.state = .waiting .cooling →
        exec (.coolingFlagClear c) s = .next { s with drive := goesOn { x with cooling := false } }) ∧
      (x.state ≠ .waiting .cooling →
        exec (.coolingFlagClear c) s =
          .next { s with drive := { s.drive with chans := s.drive.chans.set c { x with cooling := false } } })) ∧
    (x.state.driven = false → s.heatAfter c sense ≤ 64 * s.conf.channels[c].iRate ^ 2 →
      ∃ t, exec (.sampleCompletion c sense) s = .next t ∧
        t = { s with monitors := s.monitors.set c t.monitors[c], drive := t.drive } ∧
        (let y : Channel := { x with cooling := false, stallTimer := s.conf.channels[c].stallTime * 10 }
         let put (z : Channel) : Drive := { s.drive with
           chans := s.drive.chans.set c z
           notice := s.drive.notice.afterWarn c s.monitors[c] t.monitors[c] }
         let goesOnThere (z : Channel) : Drive :=
           let e : Env := { s.env with monitors := t.monitors }
           Drive.passIf e c (Drive.switchOn (put z) e c)
         (x.state = .tripped → x.lastFault = some .overload →
           t.drive = goesOnThere { y with retryTimer := none }) ∧
         (x.state = .waiting .cooling → x.cooling = true → t.drive = goesOnThere y) ∧
         (¬ (x.state = .tripped ∧ x.lastFault = some .overload) →
           ¬ (x.state = .waiting .cooling ∧ x.cooling = true) → t.drive = put y)))

/-- A member of an enabled pair that waits for budget or is driven holds the pair, dead time runs only without a
holder, and a pair that is not enabled has neither: every step keeps it; so two members are never driven together
(R75, R76). -/
def Obligations.PairMembersNeverBothDriven : Prop :=
  (∀ s t : State, s.ConfSound → s.FeedsSound → s.PairsSound → step s = .next t → t.PairsSound) ∧
  (∀ (s : State) (p : PairNo), s.PairsSound → s.conf.pairs[p].enabled = true →
    ¬ (s.drive.chans[s.conf.pairs[p].a].state.driven = true ∧ s.drive.chans[s.conf.pairs[p].b].state.driven = true))

/-! ### Monitors -/

/-- A sample completion moves H from its value toward X by the step of R86, so that it never passes X, keeps the last
on-sample at other ticks, and sets the warn flag at T_warn and clears it below T_cool, a flag being set handed to the
Notice Unit (R84, R86, R87, R90). On an undriven channel that neither cools nor waits for an OVERLOAD retry, or whose
H stays above T_cool, the stall timer is set to its reload (R95), and nothing else changes; in INRUSH with no trip
found the same, and a cooling flag with H at or below T_cool clears (R70, R92). For a channel that is no MOTOR that
reload is log entry 29. -/
def Obligations.SampleUpdatesMonitor : Prop :=
  ∀ (c : Ch) (sense : Nat) (s : State), s.inReset = false →
    let m := s.monitors[c]
    let cfg := s.conf.channels[c]
    let h := s.heatAfter c sense
    let x := s.heatTarget c sense
    ∃ t, exec (.sampleCompletion c sense) s = .next t ∧
      t = { s with monitors := s.monitors.set c t.monitors[c], drive := t.drive } ∧
      t.monitors[c].heat = h ∧ min m.heat x ≤ h ∧ h ≤ max m.heat x ∧ (m.heat ≠ x → h ≠ m.heat) ∧
      t.monitors[c].lastI = (if s.tickOn c then min 1023 sense else m.lastI) ∧
      (t.monitors[c].warn = true ↔ (if m.warn then 64 * cfg.iRate ^ 2 ≤ h else 192 * cfg.iRate ^ 2 ≤ h)) ∧
      (m.warn = false → t.monitors[c].warn = true →
        t.drive.notice.kinds.getLsbD 2 = true ∧ t.drive.notice.warn.getLsbD c.val = true) ∧
      (let y : Channel := { s.drive.chans[c] with stallTimer := cfg.stallTime * 10 }
       let put (z : Channel) : Drive := { s.drive with
         chans := s.drive.chans.set c z, notice := s.drive.notice.afterWarn c m t.monitors[c] }
       (y.state.driven = false →
         (y.cooling = false ∧ ¬ (y.state = .tripped ∧ y.lastFault = some .overload)) ∨ 64 * cfg.iRate ^ 2 < h →
         t.drive = put y) ∧
       (y.state = .inrush → ¬ s.findsShort c sense → ¬ s.findsOverload c sense →
         t.drive = put { y with cooling := y.cooling && decide (64 * cfg.iRate ^ 2 < h) }))

/-- The retry count never exceeds the retry limit and is 0 in DISABLED (R66, R72), H stays within 0 to 267 911 424
(R87), and an open flag is set, and an open-load counter stands above 0, in ON alone, the counter below 100 (R96,
R97): every step keeps each. -/
def Obligations.CountersStayBounded : Prop :=
  ∀ s t : State, step s = .next t →
    (s.RetriesBounded → t.RetriesBounded) ∧ (s.HeatBounded → t.HeatBounded) ∧
    (s.ConfSound → s.FeedsSound → s.OpenFlagsInOn → t.OpenFlagsInOn)

/-- A SHORT, an OVERLOAD or a STALL found on a driven channel takes it to TRIPPED with one retry more and, after SHORT
or STALL, 1000 ms to its retry, or with its retries used up to LATCHED, which gives up its pair; it holds no budget,
joins the changed-channel set and sets CHANNEL, the Flash Generator follows, and a pass runs on its feed (R66, R67,
R111, R125); no other channel's monitor changes. A completion that takes a MOTOR's stall timer to 0 finds STALL, and
so does STALL_TIMER_EXPIRY, which takes no reading (R95). The completion that trips SHORT or OVERLOAD leaves a MOTOR's
stall timer as it is, and STALL leaves it at 0 (R95). That the timer of any other channel stands at its reload is log
entry 29. -/
def Obligations.TripSwitchesOff : Prop :=
  ∀ (c : Ch) (sense : Nat) (s : State), s.inReset = false → PairsWellFormed s.conf.pairs →
    let x := s.drive.chans[c]
    let cfg := s.conf.channels[c]
    let holds (p : PairNo) : Prop := s.conf.pairs[p].enabled = true ∧
      ((s.conf.pairs[p].a = c ∧ s.drive.pairs[p].holder = .a) ∨
       (s.conf.pairs[p].b = c ∧ s.drive.pairs[p].holder = .b))
    let f := cfg.feed.index
    let trips (i : Instr) (kind : FaultKind) (cooling : Bool) (stall : Nat) : Prop :=
      ∃ t, exec i s = .next t ∧ t = { s with monitors := s.monitors.set c t.monitors[c], drive := t.drive } ∧
        (i = .stallTimerExpiry c → t.monitors = s.monitors) ∧
        (∃ d : Drive,
          s.drive.SwitchedOff s.conf c { x.afterTrip cfg.retryLimit kind with stallTimer := stall } d ∧
          d.pairs = t.drive.pairs ∧
          (let n := s.drive.notice.afterWarn c s.monitors[c] t.monitors[c]
           d.notice = { n with kinds := n.kinds ||| 0x01#8, changed := n.changed ||| 1#16 <<< c.val }) ∧
          (let after := d.pass { s.env with monitors := t.monitors } f
           t.drive = { after with chans := after.chans.set c { after.chans[c] with cooling := cooling } })) ∧
        t.drive.chans[c] = { x.afterTrip cfg.retryLimit kind with cooling := cooling, stallTimer := stall } ∧
        t.drive.notice.kinds.getLsbD 0 = true ∧ t.drive.notice.changed.getLsbD c.val = true ∧
        (∀ p : PairNo, (x.retries < cfg.retryLimit ∨ ¬ holds p → t.drive.pairs[p] = s.drive.pairs[p]) ∧
          (cfg.retryLimit ≤ x.retries → holds p → t.drive.pairs[p] = ⟨.none, some 50⟩))
    let hot := x.cooling && decide (64 * cfg.iRate ^ 2 < s.heatAfter c sense)
    let stall := if cfg.loadType = .motor then x.stallTimer else cfg.stallTime * 10
    (s.findsShort c sense → trips (.sampleCompletion c sense) .short hot stall) ∧
    (1 ≤ cfg.iRate → s.findsOverload c sense → trips (.sampleCompletion c sense) .overload x.cooling stall) ∧
    (cfg.loadType = .motor → x.state = .on → x.stallTimer ≤ 1 →
      trips (.stallTimerExpiry c) .stall x.cooling 0 ∧
      (¬ s.findsShort c sense → ¬ s.findsOverload c sense → s.tickOn c = true →
        cfg.stallLevel ≤ s.currentAt c sense → trips (.sampleCompletion c sense) .stall hot 0))

/-- A MOTOR channel's stall timer falls by 1 at each on-tick in ON at or above the stall level, is held at an
off-tick, and is reloaded with stall time x 10 at a smaller reading and outside ON; reaching 0 it trips the channel
(R95). -/
def Obligations.StallTimerCountsStallTicks : Prop :=
  ∀ (c : Ch) (sense : Nat) (s : State), s.inReset = false → s.conf.channels[c].loadType = .motor →
    ¬ s.findsShort c sense → ¬ s.findsOverload c sense →
    let x := s.drive.chans[c]
    let cfg := s.conf.channels[c]
    let timer := x.stallTimer
    ∃ t, exec (.sampleCompletion c sense) s = .next t ∧
      (x.state ≠ .on → t.drive.chans[c].stallTimer = cfg.stallTime * 10) ∧
      (x.state = .on →
        (s.tickOn c = false → t.drive.chans[c].stallTimer = timer) ∧
        (s.tickOn c = true → s.currentAt c sense < cfg.stallLevel →
          t.drive.chans[c].stallTimer = cfg.stallTime * 10) ∧
        (s.tickOn c = true → cfg.stallLevel ≤ s.currentAt c sense →
          t.drive.chans[c].stallTimer = timer - 1 ∧
          (timer ≤ 1 → t.drive.chans[c].state = (if x.retries < cfg.retryLimit then .tripped else .latched) ∧
            t.drive.chans[c].lastFault = some .stall)))

/-- In ON, at an on-tick, with a level other than 0 and no trip, the open-load counter counts the readings that
disagree with the open flag and starts anew at one that agrees; the 100th in a row turns the flag, and a flag being
set joins the open set and the changed-channel set and sets OPEN; at an off-tick, or with a level of 0, counter and
flag are kept (R96, R97). A cooling flag with H at or below T_cool clears meanwhile (R92), a MOTOR's stall timer moves
as R95 says, and that of any other channel stands at its reload (log entry 29). Nothing else of the drive side changes
but the notice of a warn flag being set. OPEN_FLAG_SET and OPEN_FLAG_CLEAR turn the flag of a complete run in ON in
either order with a phase's expiry (R128; log entries 4 and 36). -/
def Obligations.OpenFlagAfterHundredReadings : Prop :=
  ∀ (c : Ch) (sense : Nat) (s : State), s.inReset = false → s.drive.chans[c].state = .on →
    let x := s.drive.chans[c]
    let cfg := s.conf.channels[c]
    let stallTick : Prop := cfg.loadType = .motor ∧ s.tickOn c = true ∧ cfg.stallLevel ≤ s.currentAt c sense
    let kept : Channel := { x with
      cooling := x.cooling && decide (64 * cfg.iRate ^ 2 < s.heatAfter c sense)
      stallTimer := if stallTick then x.stallTimer - 1
                    else if cfg.loadType = .motor ∧ s.tickOn c = false then x.stallTimer else cfg.stallTime * 10 }
    let counts : Prop := s.tickOn c = true ∧ cfg.openLoadLevel ≠ 0
    let low : Bool := decide (s.currentAt c sense < cfg.openLoadLevel)
    let put (d : Drive) (y : Channel) : Drive := { d with chans := d.chans.set c y }
    let noted (n : Notice) : Notice := { n with
      kinds := n.kinds ||| 0x08#8, openSet := n.openSet ||| 1#16 <<< c.val, changed := n.changed ||| 1#16 <<< c.val }
    (¬ s.findsShort c sense → ¬ s.findsOverload c sense → (stallTick → 1 < x.stallTimer) →
      ∃ t, exec (.sampleCompletion c sense) s = .next t ∧
        t = { s with monitors := s.monitors.set c t.monitors[c], drive := t.drive } ∧
        (let warned := s.drive.notice.afterWarn c s.monitors[c] t.monitors[c]
         let becomes (y : Channel) (n : Notice) : Prop := t.drive = { put s.drive y with notice := n }
         (¬ counts → becomes kept warned) ∧
         (counts →
           (low = x.openFlag → becomes { kept with openCount := 0 } warned) ∧
           (low ≠ x.openFlag → x.openCount < 99 → becomes { kept with openCount := x.openCount + 1 } warned) ∧
           (low ≠ x.openFlag → 99 ≤ x.openCount →
             becomes { kept with openFlag := low, openCount := 0 } (if low then noted warned else warned))))) ∧
    (cfg.openLoadLevel ≠ 0 → 99 ≤ x.openCount →
      (x.openFlag = false → exec (.openFlagSet c) s = .next { s with
        drive := { put s.drive { x with openFlag := true, openCount := 0 } with notice := noted s.drive.notice } }) ∧
      (x.openFlag = true → exec (.openFlagClear c) s =
        .next { s with drive := put s.drive { x with openFlag := false, openCount := 0 } }))

/-! ### Feeds and supply -/

/-- SET BUDGET and SET SUPPLY LIMITS with no store in flight: their value checks; a raised budget runs a pass, a
budget lowered below the committed sum sheds down to it, any other changes nothing further (R112, R119). The channels
shed are the first in the victim order, lowest class first and within one class the latest admitted first, up to the
first whose shed brings the committed sum to the budget (R113). -/
def Obligations.BudgetAndSupplyLimits : Prop :=
  ∀ (h : Header) (feed : Byte) (budget uv recovery : Word16) (s : State), s.Supervised h → s.store.writing = none →
    (3 ≤ feed.toNat ∨ 4000 < budget.toNat →
      exec (.setBudget h feed budget) s = .next (s.endFrame (refusalResponse .setBudget h .badValue))) ∧
    (∀ f : Fin 3, feed.toNat = f.val → budget.toNat ≤ 4000 →
      let conf := { s.conf with budgets := s.conf.budgets.set f budget.toNat }
      ∃ t, exec (.setBudget h feed budget) s = .next t ∧
        t = ({ s with conf := conf, drive := t.drive }).endFrame (okResponse .setBudget h
          (twoBytes budget.toNat ++ twoBytes t.drive.feeds[f].committed ++
            [BitVec.ofNat 8 t.drive.feeds[f].queue.length])) ∧
        (s.conf.budgets[f] < budget.toNat → t.drive = s.drive.pass { s.env with conf := conf } f) ∧
        (budget.toNat = s.conf.budgets[f] → t.drive = s.drive) ∧
        (budget.toNat < s.conf.budgets[f] → s.drive.feeds[f].committed ≤ budget.toNat → t.drive = s.drive) ∧
        (budget.toNat < s.conf.budgets[f] → s.FeedsSound →
          t.drive.feeds[f].committed ≤ budget.toNat ∧
          (∃ victims : List Ch,
            s.drive.VictimsFor f 4 (s.drive.feeds[f].committed - budget.toNat) victims ∧
            Drive.ShedsOf s.conf .budget victims s.drive t.drive) ∧
          (∀ c : Ch, t.drive.chans[c].state.driven = true → t.drive.chans[c] = s.drive.chans[c]))) ∧
    (uv.toNat < 100 ∨ 300 < uv.toNat ∨ recovery.toNat < uv.toNat + 5 ∨ 350 < recovery.toNat →
      exec (.setSupplyLimits h uv recovery) s = .next (s.endFrame (refusalResponse .setSupplyLimits h .badValue))) ∧
    (100 ≤ uv.toNat → uv.toNat ≤ 300 → uv.toNat + 5 ≤ recovery.toNat → recovery.toNat ≤ 350 →
      exec (.setSupplyLimits h uv recovery) s =
        .next (({ s with conf := { s.conf with uv := uv.toNat, recovery := recovery.toNat } }).endFrame
          (okResponse .setSupplyLimits h (twoBytes uv.toNat ++ twoBytes recovery.toNat))))

/-- The committed sum of a feed is the sum of its channels' reservations and never exceeds its budget, its queue holds
the entries its channels' states call for in class order, and its admitted list its driven channels: every step keeps
it (R53, R102 to R104). -/
def Obligations.BudgetNeverExceeded : Prop :=
  ∀ s t : State, s.ConfSound → s.FeedsSound → step s = .next t → t.FeedsSound

/-- An admission pass never sheds a channel whose class is not below that of every entry of the queue; and a pass none
of whose entries finds its needed amount within the free budget and the reservations of lower classes changes nothing:
an entry that cannot be admitted stays, and nothing is shed for it (R108). A pass walks the queue, each channel
visited once, first entry first (R107). At its visit an entry of class 0 or 1 under supply-low stays; one whose needed
amount is within the free budget is admitted; one that the reservations of lower classes can make room for is admitted
after the first of them in the victim order, no more than are needed, are shed; any other stays (R108, R109). -/
def Obligations.PassPreemptsLowerClassesOnly : Prop :=
  ∀ (d : Drive) (e : Env) (f : Fin 3),
    (∀ c : Ch, (∀ x ∈ d.feeds[f].queue, d.chans[x.ch].rank ≤ d.chans[c].rank) →
      d.chans[c].state.driven = true → (d.pass e f).chans[c].state.driven = true) ∧
    ((∀ x ∈ d.feeds[f].queue, (e.low = true ∧ d.chans[x.ch].rank ≤ 1) ∨
        e.conf.budgets[f] - d.feeds[f].committed +
          ((d.feeds[f].admitted.filter (fun c => d.chans[c].rank < d.chans[x.ch].rank)).map
            (fun c => d.chans[c].reservation)).sum < d.needed e x) →
      d.pass e f = d) ∧
    Drive.Walk e f [] d (d.pass e f) ∧
    (∀ x ∈ d.feeds[f].queue, d.FeedsSound e.conf →
      let y := d.chans[x.ch]
      let cfg := e.conf.channels[x.ch]
      let free := e.conf.budgets[f] - d.feeds[f].committed
      let available := free +
        ((d.feeds[f].admitted.filter (fun c => d.chans[c].rank < y.rank)).map (fun c => d.chans[c].reservation)).sum
      let need := match x.kind with
        | .fresh => min 1023 (cfg.iNom * cfg.inrushFactor)
        | .upgrade => steadyReservation cfg (levelToApply cfg y.wanted) - y.reservation
      (e.low = true → y.rank ≤ 1 → d.visit e f x = d) ∧
      (e.low = false ∨ 2 ≤ y.rank →
        (need ≤ free → d.visit e f x = d.letIn e x) ∧
        (free < need → need ≤ available → ∃ (victims : List Ch) (d' : Drive),
          d.VictimsFor f y.rank (need - free) victims ∧ Drive.ShedsOf e.conf .budget victims d d' ∧
          d.visit e f x = d'.letIn e x) ∧
        (available < need → d.visit e f x = d)))

/-- A VSENSE reading: one below UV sets the supply-low flag, sheds every driven channel of class 0 or 1 with the cause
UNDERVOLT, on each feed the earliest admitted first, runs a pass on each feed that shed one, and sets SUPPLY; while
the flag is set a reading below Recovery starts the count anew, and the 500th in a row at or above it clears the flag,
runs a pass on each feed and sets SUPPLY (R116, R117, R118). The order of the feeds is log entry 16. -/
def Obligations.SupplyReadings : Prop :=
  ∀ (sense : Nat) (s : State), s.inReset = false →
    let v := min 600 sense
    let counted (n : Nat) : State := { s with supply := { s.supply with vsense := v, count := n } }
    (s.supply.low = false → s.conf.uv ≤ v →
      exec (.supplyReading sense) s = .next { s with supply := { s.supply with vsense := v } }) ∧
    (s.supply.low = false → v < s.conf.uv →
      ∃ t, exec (.supplyReading sense) s = .next t ∧
        t = { s with supply := ⟨true, 0, v⟩, drive := t.drive } ∧ t.drive.notice.kinds.getLsbD 4 = true ∧
        (s.FeedsSound → ∀ c : Ch, s.drive.chans[c].state.driven = true → s.drive.chans[c].rank ≤ 1 →
          t.drive.chans[c].state = .waiting .budget ∧ t.drive.chans[c].lastShed = some .undervolt ∧
          t.drive.notice.changed.getLsbD c.val = true) ∧
        (s.FeedsSound →
          let lowOn (f : Fin 3) : List Ch :=
            s.drive.feeds[f].admitted.filter (fun c => decide (s.drive.chans[c].rank ≤ 1))
          let passOn (f : Fin 3) (d : Drive) : Drive :=
            if lowOn f = [] then d else d.pass { s.env with low := true } f
          ∃ d : Drive, Drive.ShedsOf s.conf .undervolt (lowOn 0 ++ lowOn 1 ++ lowOn 2) s.drive d ∧
            (let after := passOn 2 (passOn 1 (passOn 0 d))
             t.drive = { after with notice := { after.notice with kinds := after.notice.kinds ||| 0x10#8 } }))) ∧
    (s.supply.low = true → v < s.conf.recovery → exec (.supplyReading sense) s = .next (counted 0)) ∧
    (s.supply.low = true → s.conf.recovery ≤ v →
      (s.supply.count < 499 → exec (.supplyReading sense) s = .next (counted (s.supply.count + 1))) ∧
      (499 ≤ s.supply.count →
        let d := ((s.drive.pass { s.env with low := false } 0).pass { s.env with low := false } 1).pass
          { s.env with low := false } 2
        let t : State := { s with
          supply := ⟨false, 0, v⟩
          drive := { d with notice := { d.notice with kinds := d.notice.kinds ||| 0x10#8 } } }
        exec (.supplyReading sense) s = .next t ∧ exec (.supplyRecovery sense) s = .next t))

/-- While the supply-low flag is set no channel of effective class 0 or 1 is driven: every step keeps it (R117). -/
def Obligations.LowSupplyDrivesNoLowClass : Prop :=
  ∀ s t : State, s.ConfSound → s.FeedsSound → s.LowHolds → step s = .next t → t.LowHolds

/-! ### Flash Generator -/

/-- SET FLASH PERIOD is refused outside 40 to 200; taken, it sets the period alone and shows the cycle in progress,
which it does not change (R127). A phase's expiry turns the phase: an on phase into the off phase of its cycle, an off
phase into a new cycle, FAST while a member with outage watch has its open flag set (R122, R123, R126). -/
def Obligations.FlashPeriodAndPhases : Prop :=
  ∀ (h : Header) (period : Byte) (s : State),
    let withFlash (cy : Cycle) : State := { s with drive := { s.drive with flash := some cy } }
    (s.Supervised h → s.store.writing = none →
      (period.toNat < 40 ∨ 200 < period.toNat →
        exec (.setFlashPeriod h period) s = .next (s.endFrame (refusalResponse .setFlashPeriod h .badValue))) ∧
      (40 ≤ period.toNat → period.toNat ≤ 200 →
        exec (.setFlashPeriod h period) s =
          .next (({ s with conf := { s.conf with period := period.toNat } }).endFrame
            (okResponse .setFlashPeriod h (period ::
              (match s.drive.flash with
               | none => 0x00#8 :: List.replicate 6 0xFF#8
               | some cy => [0x01#8, (match cy.phase with | .on => 0x01#8 | .off => 0x00#8),
                   (match cy.rate with | .fast => 0x01#8 | .normal => 0x00#8)] ++
                   twoBytes cy.onLen ++ twoBytes cy.offLen)))))) ∧
    (s.inReset = false → ∀ cy, s.drive.flash = some cy → cy.timer ≤ 1 →
      (cy.phase = .on →
        exec .onPhaseExpiry s = .next (withFlash { cy with phase := .off, timer := cy.offLen })) ∧
      (cy.phase = .off →
        let outage : Prop := ∃ c : Ch, s.drive.chans[c].state.driven = true ∧ s.drive.chans[c].applied = .flash ∧
          s.conf.channels[c].outageWatch = true ∧ s.drive.chans[c].openFlag = true
        (¬ outage → exec .onPhaseStart s = .next (withFlash
          { phase := .on, timer := 10 * s.conf.period / 2, rate := .normal, onLen := 10 * s.conf.period / 2,
            offLen := 10 * s.conf.period - 10 * s.conf.period / 2 })) ∧
        (outage → exec .onPhaseStart s = .next (withFlash
          { phase := .on, timer := 10 * s.conf.period / 2 / 2, rate := .fast,
            onLen := 10 * s.conf.period / 2 / 2,
            offLen := 10 * s.conf.period / 2 - 10 * s.conf.period / 2 / 2 }))))

/-- The Flash Generator is RUNNING exactly while a driven channel's applied level is FLASH: every step keeps it (R122,
R124). What it is told of a join or a leave does this alone: the first member starts an on phase of the full on length
at the rate of the outage set, a running cycle goes on unchanged while a member remains, and with the last member gone
it stops (R124, R125). -/
def Obligations.FlashRunsWhileMembers : Prop :=
  (∀ s t : State, s.FlashSound → step s = .next t → t.FlashSound) ∧
  (∀ (d : Drive) (e : Env), d.syncFlash e = { d with flash := (d.syncFlash e).flash } ∧
    (d.syncFlash e).FlashFollows e.conf d.flash)

/-! ### Lines -/

/-- A reading that agrees with the debounced level reloads the counter, one that differs lowers it, and the 20th in a
row changes the level, which a bound line's record follows: LIVE under the binding while active, as the newest of its
class on its channel's list, else FREE and off its list, slot 11's held count with it (R132 to R134), and the channels
whose lists it leaves or joins take the pairs of their winners (R42). READ LINE shows the line (R136). The order of
two channels in one event is log entry 16. -/
def Obligations.LineReadingsAndRecord : Prop :=
  ∀ (n : LineNo) (high : Bool) (h : Header) (line : Byte) (s : State),
    let l := s.lines[n]
    let b := s.conf.bindings[n]
    let activeAt (level : Bool) : Bool := level == decide (b.polarity = .activeHigh)
    let put (x : Line) : State := { s with lines := s.lines.set n x }
    let changes (i : Instr) (level : Bool) : Prop :=
      (b.enabled = false → exec i s = .next (put ⟨level, 20⟩)) ∧
      (b.enabled = true → ∃ t, exec i s = .next t ∧
        t = { put ⟨level, 20⟩ with records := t.records, held := t.held, lists := t.lists, drive := t.drive } ∧
        s.LineRecordBecomes t n (if activeAt level then
          Record.live { owner := 11, load := b.load, channel := s.conf.loads[b.load].channel, level := b.level,
                        cls := b.cls, hold := 0 } none
          else Record.free) ∧
        t.Follows s.drive (allChans.filter (fun c =>
          s.records[lineHandle n].liveOn c || t.records[lineHandle n].liveOn c)))
    (s.inReset = false →
      (high = l.debounced → exec (.lineReading n high) s = .next (put { l with counter := 20 })) ∧
      (high ≠ l.debounced → 1 < l.counter →
        exec (.lineReading n high) s = .next (put { l with counter := l.counter - 1 })) ∧
      (l.counter ≤ 1 → (high ≠ l.debounced → changes (.lineReading n high) high) ∧
        changes (.debounceChange n) (!l.debounced))) ∧
    (s.Accepts h →
      (4 ≤ line.toNat → exec (.readLine h line) s = .next (s.endFrame (refusalResponse .readLine h .badValue))) ∧
      (line.toNat = n.val → exec (.readLine h line) s = .next (s.endFrame (okResponse .readLine h
        (bindingShown b ++ [yesShown l.debounced, yesShown (activeAt l.debounced), BitVec.ofNat 8 l.counter,
          recordShown s.records[lineHandle n]])))))

/-- BIND LINE with no store in flight: its checks in order; taken, it writes the binding, of which enabled no keeps
load, level and class, and the line's record follows it: LIVE under the new binding while active, as the newest of its
class on its channel's list, else FREE and off its list, slot 11's held count with it (R133 to R135), and the channels
whose lists it leaves or joins take the pairs of their winners (R42, R43). The order of two channels in one event is
the model's choice, log entry 16. That the record is LIVE at once on a BIND LINE that leaves the line active, also
before the line's first debounced change after power-on, is log entry 33, which follows R135 over the last clause of
R47. -/
def Obligations.BindLineMovesRecord : Prop :=
  ∀ (h : Header) (line enabled polarity load : Byte) (level : LevelParam) (cls : Byte) (s : State),
    s.Supervised h → s.store.writing = none →
    let refused (status : Status) : Prop := exec (.bindLine h line enabled polarity load level cls) s =
      .next (s.endFrame (refusalResponse .bindLine h status))
    let unmapped : Prop := 32 ≤ load.toNat ∨ ∃ l : LoadNo, load.toNat = l.val ∧ s.conf.loads[l].enabled = false
    let badValue (l : LoadNo) : Prop :=
      3 < level.mode.toNat ∨ 3 < cls.toNat ∨
      (level.mode = 0x03#8 ∧ (level.duty = 0x00#8 ∨ 63 < level.duty.toNat)) ∨
      (level.mode = 0x02#8 ∧ (s.conf.channels[s.conf.loads[l].channel].configured = false ∨
        s.conf.channels[s.conf.loads[l].channel].loadType ≠ .lamp))
    let bound (n : LineNo) (b : Binding) : Prop :=
      let active := s.lines[n].debounced == decide (b.polarity = .activeHigh)
      let r : Record := if b.enabled = true ∧ active = true then
        .live { owner := 11, load := b.load, channel := s.conf.loads[b.load].channel, level := b.level, cls := b.cls,
                hold := 0 } none else .free
      ∃ t, exec (.bindLine h line enabled polarity load level cls) s = .next t ∧
        t = ({ s with
                conf := { s.conf with bindings := s.conf.bindings.set n b }
                records := s.records.set (lineHandle n) r, held := t.held, lists := t.lists
                drive := t.drive }).endFrame (okResponse .bindLine h
                  (bindingShown b ++ [yesShown s.lines[n].debounced, yesShown active, recordShown r])) ∧
        s.LineRecordBecomes t n r ∧
        t.Follows s.drive (allChans.filter (fun c => s.records[lineHandle n].liveOn c || r.liveOn c))
    (4 ≤ line.toNat ∨ 1 < polarity.toNat → refused .badValue) ∧
    (∀ (n : LineNo) (pol : Polarity), line.toNat = n.val →
      polarity = (match pol with | .activeHigh => 0x00#8 | .activeLow => 0x01#8) →
      (enabled = 0#8 → bound n { s.conf.bindings[n] with enabled := false, polarity := pol }) ∧
      (enabled ≠ 0#8 → unmapped → refused .noLoad) ∧
      (∀ l : LoadNo, enabled ≠ 0#8 → load.toNat = l.val → s.conf.loads[l].enabled = true →
        (badValue l → refused .badValue) ∧
        (¬ badValue l → bound n { enabled := true, polarity := pol, load := l, level := levelAfterClamp level,
                                  cls := Fin.ofNat 4 cls.toNat })))

/-- Handle 60+n is LIVE exactly while line n is bound and active, and never LAPSED: every step keeps it (R134). That it is
so also before the line's first debounced change after power-on, R47 notwithstanding, is log entry 33. -/
def Obligations.LineRecordsFollowLines : Prop :=
  ∀ s t : State, s.LinesSound → step s = .next t → t.LinesSound

/-! ### Output check -/

/-- CHECK OUTPUTS: BAD_VALUE for no member, BUSY while RUNNING; taken, every result becomes NOT_TESTED, the untested
count the number of members, and the first undriven member is visited (R140). A step ends when its timer has reached
0, 1 ms and then 3 ms after it is set, and not before; the UNBIASED step ends with SHORT_TO_SUPPLY where 2 x O is
above V, else in the BIASED step of 3 ms; that ends with OPEN where 10 x O is above 7 x V, else with OK; a result
lowers the count and the next member is visited (R141, R142). CHECK RESULTS answers with the sixteen results, two bits
each, the untested count and the run state, and changes nothing (R144, R158). The code of the run state in the answer
of CHECK OUTPUTS is that of R158 (log entry 23). -/
def Obligations.OutputCheckSteps : Prop :=
  ∀ (h : Header) (selection : Word16) (sense : Nat) (s : State),
    (s.Supervised h →
      (selection = 0#16 →
        exec (.checkOutputs h selection) s = .next (s.endFrame (refusalResponse .checkOutputs h .badValue))) ∧
      (selection ≠ 0#16 → s.drive.check.run.isSome = true →
        exec (.checkOutputs h selection) s = .next (s.endFrame (refusalResponse .checkOutputs h .busy))) ∧
      (selection ≠ 0#16 → s.drive.check.run = none →
        let members := (Finset.univ.filter (fun c : Ch => selection.getLsbD c.val = true)).card
        ∃ t, exec (.checkOutputs h selection) s = .next t ∧
          t = ({ s with drive := t.drive }).endFrame (okResponse .checkOutputs h
            [yesShown t.drive.check.run.isSome, BitVec.ofNat 8 members]) ∧
          Drive.VisitsFrom { s.drive with check := ⟨none, Vector.replicate 16 .notTested, members⟩ } t.drive
            selection 0)) ∧
    (s.inReset = false → ∀ r, s.drive.check.run = some r →
      (r.test.step ≠ .unbiased ∨ r.test.timer ≠ 0 → exec (.unbiasedStepEnd sense) s = .next s) ∧
      (r.test.step ≠ .biased ∨ r.test.timer ≠ 0 → exec (.biasedStepEnd sense) s = .next s)) ∧
    (s.inReset = false → ∀ r, s.drive.check.run = some r → r.test.timer = 0 →
      let o := min 600 sense
      let v := s.supply.vsense
      let ends (i : Instr) (result : CheckResult) : Prop :=
        ∃ t, exec i s = .next t ∧ t = { s with drive := t.drive } ∧
          Drive.VisitsFrom { s.drive with check := { s.drive.check with
              results := s.drive.check.results.set r.test.ch result, untested := s.drive.check.untested - 1 } }
            t.drive r.selection (r.test.ch.val + 1)
      (r.test.step = .unbiased →
        (v < 2 * o → ends (.unbiasedStepEnd sense) .shortToSupply) ∧
        (2 * o ≤ v → exec (.unbiasedStepEnd sense) s = .next { s with drive := { s.drive with check :=
          { s.drive.check with run := some ⟨r.selection, ⟨r.test.ch, .biased, 3⟩⟩ } } })) ∧
      (r.test.step = .biased →
        (7 * v < 10 * o → ends (.biasedStepEnd sense) .openLoad) ∧
        (10 * o ≤ 7 * v → ends (.biasedStepEnd sense) .ok))) ∧
    (s.Accepts h → ∃ results : List Byte, results.length = 4 ∧
      exec (.checkResults h) s = .next (s.endFrame (okResponse .checkResults h
        (results ++ [BitVec.ofNat 8 s.drive.check.untested, yesShown s.drive.check.run.isSome]))) ∧
      (∀ c : Ch, ((byteAt results (c.val / 4)).extractLsb' (6 - 2 * (c.val % 4)) 2).toNat =
        (match s.drive.check.results[c] with
         | .notTested => 0 | .ok => 1 | .openLoad => 2 | .shortToSupply => 3)))

/-- While a run goes on the channel under test is a member that is not driven, it and the members above it have no
result, and the untested count is the number of members without a result: every step keeps it (R141, R145). -/
def Obligations.CheckNeverTestsDrivenChannel : Prop :=
  ∀ s t : State, s.CheckSound → step s = .next t → t.CheckSound

/-! ### Configuration Store and start-up -/

/-- STORE CONFIGURATION with no store in flight takes the configuration in force, with image valid no and IN_FLIGHT
(R167); at the end of the write the image holds what is read back and the check value written, is valid when they
agree, the last store result is OK or FAILED accordingly, and STORE is set (R169). That the image keeps its old
contents until the write ends is the model's choice (log entry 11). -/
def Obligations.StoreWritesConfiguration : Prop :=
  (∀ (h : Header) (s : State), s.Supervised h → s.store.writing = none →
    exec (.storeConfiguration h) s =
      .next (({ s with store := { s.store with valid := false, writing := some s.conf, result := .inFlight } }).endFrame
        (okResponse .storeConfiguration h [0x00#8, 0x01#8]))) ∧
  (∀ (readBack x : Configuration) (s : State), s.inReset = false → s.store.writing = some x →
    let agrees : Prop := Config.checkValue readBack = Config.checkValue x
    ∃ t, exec (.storeWriteCompletion readBack) s = .next t ∧
      t = { s with
        store := t.store
        drive := { s.drive with notice := { s.drive.notice with kinds := s.drive.notice.kinds ||| 0x80#8 } } } ∧
      t.store.image = ⟨readBack, Config.checkValue x⟩ ∧ t.store.writing = none ∧
      (agrees → t.store.valid = true ∧ t.store.result = .ok) ∧
      (¬ agrees → t.store.valid = false ∧ t.store.result = .failed))

/-- RESTART with no store in flight frees the records of slots 0 to 10 and answers with their number, sets those held
counts to 0, takes the records off their lists, aborts a check run with its results kept, empties the pending kinds
and the three channel sets, and then every channel takes the pair of its list's winner, which alone may set CHANNEL
anew; it keeps the configuration, the line records, the monitors, the filters and the supply state (R29, R48, R101,
R138, R146, R165, R172). The order of the channels, and that the unit is emptied and the run aborted before they
follow, are log entries 16 and 17. -/
def Obligations.RestartFreesRequesterRecords : Prop :=
  ∀ (h : Header) (s : State), s.Supervised h → s.store.writing = none →
    ∃ t, exec (.restart h) s = .next t ∧
      t = ({ s with records := t.records, held := t.held, lists := t.lists, drive := t.drive }).endFrame
        (okResponse .restart h [BitVec.ofNat 8
          (Finset.univ.filter (fun y : Handle => y.val < 60 ∧ s.records[y].isFree = false)).card]) ∧
      (∀ y : Handle, t.records[y] = if y.val < 60 then Record.free else s.records[y]) ∧
      (∀ n : SlotNo, t.held[n] = if n.val = 11 then s.held[n] else 0) ∧
      (∀ c : Ch, t.lists[c] = s.lists[c].filter (fun y => decide (60 ≤ y.val))) ∧
      t.drive.check = { s.drive.check with run := none } ∧
      t.Follows { s.drive with check := { s.drive.check with run := none }, notice := ⟨0#8, 0#16, 0#16, 0#16⟩ }
        allChans ∧
      t.drive.notice.kinds &&& 0xFE#8 = 0#8 ∧ t.drive.notice.warn = 0#16 ∧ t.drive.notice.openSet = 0#16

/-- The power-on sequence, in every state: the image is loaded where its check value agrees with its contents and no
write was in flight, which power-on cuts short, else the defaults, and every block starts: no record, no list entry,
each configured channel that is not locked at start in OFF and every other one DISABLED, every timer stopped, no heat,
supply-low set, every line inactive, no frame in progress, NO_RESPONSE pending, and STORE alone pending with an
invalid image (R28, R47, R81, R100, R120, R129, R138, R146, R148, R165, R170, R171). The queue of commands and the
time to the next PWM period start are the model's own fields (log entries 6 and 20); a POWER_ON that no reset precedes
cuts a write short too (log entry 13). -/
def Obligations.PowerOnStartsEveryBlock : Prop :=
  ∀ s : State,
    let agrees : Prop := s.store.writing = none ∧ Config.checkValue s.store.image.contents = s.store.image.check
    ∃ t, exec .powerOn s = .next t ∧ t.inReset = false ∧ t.pending = s.pending ∧ t.now = 0 ∧ t.pwmLeft = 5 ∧
      (agrees → t.conf = s.store.image.contents ∧ t.store.valid = true ∧ t.drive.notice.kinds = 0x00#8) ∧
      (¬ agrees → t.conf = defaultConfiguration ∧ t.store.valid = false ∧ t.drive.notice.kinds = 0x80#8) ∧
      (s.store.writing = none → t.store.image = s.store.image) ∧
      (s.store.writing ≠ none → Config.checkValue t.store.image.contents ≠ t.store.image.check) ∧
      t.store.writing = none ∧ t.store.result = .none ∧
      (∀ y : Handle, t.records[y] = .free) ∧ (∀ n : SlotNo, t.held[n] = 0) ∧ (∀ c : Ch, t.lists[c] = []) ∧
      (∀ c : Ch,
        let cfg := t.conf.channels[c]
        t.drive.chans[c] =
          { state := if cfg.configured = true ∧ cfg.lockAtStart = false then .off else .disabled
            wanted := .off, cls := none, applied := .off, reservation := 0, retries := 0, lastFault := none
            cooling := false, upgrade := false, lastShed := none
            inrushTimer := none, retryTimer := none, cleanTimer := none
            pwmSettled := false, openCount := 0, openFlag := false, stallTimer := cfg.stallTime * 10 } ∧
        t.monitors[c] = ⟨0, false, 0⟩) ∧
      (∀ p : PairNo, t.drive.pairs[p] = ⟨.none, none⟩) ∧ (∀ f : Fin 3, t.drive.feeds[f] = ⟨0, [], []⟩) ∧
      t.drive.flash = none ∧ t.drive.check = ⟨none, Vector.replicate 16 .notTested, 0⟩ ∧
      t.drive.notice.changed = 0#16 ∧ t.drive.notice.warn = 0#16 ∧ t.drive.notice.openSet = 0#16 ∧
      t.supply.low = true ∧ t.supply.count = 0 ∧
      (∀ n : LineNo, t.active n = false ∧ t.lines[n].counter = 20) ∧
      t.link.response = ⟨0x00#8, 0x00#8, .ok, 0x00#8, List.replicate 15 0x00#8⟩ ∧
      (∀ r a, t.link.csn ≠ .frame r a) ∧ (s.link.csn = .high → t.link.csn = .high) ∧
      (s.link.csn ≠ .high → t.link.csn = .lowUncounted)

/-- The machine right after reset satisfies the laws that every step keeps, and holds the values that the manual gives
for power-on with an invalid image: default settings, no record, every channel DISABLED, supply-low set, STORE
pending. That the image is invalid is the model's choice (log entry 7). -/
def Obligations.ResetSatisfiesTheLaws : Prop :=
  let s := State.reset
  (s.ConfSound ∧ s.StoreSound ∧ s.HeldSound ∧ s.ListsSound ∧ s.WinnersHeld ∧ s.FeedsSound ∧ s.LowHolds ∧
    s.RetriesBounded ∧ s.OpenFlagsInOn ∧ s.PairsSound ∧ s.HeatBounded ∧ s.LinesSound ∧ s.FlashSound ∧
    s.CheckSound ∧ s.ResponsesFull) ∧
  s.conf = defaultConfiguration ∧ s.store.valid = false ∧ s.drive.notice.kinds = 0x80#8 ∧ s.noticenLow = false ∧
  s.conf.quota0 = 8 ∧ s.conf.period = 67 ∧ s.conf.uv = 180 ∧ s.conf.recovery = 200 ∧ s.supply.low = true ∧
  (∀ c : Ch, s.drive.chans[c].state = .disabled ∧ s.gate c = .off) ∧
  (∀ h : Handle, s.records[h] = Record.free)

/-- Every field of the configuration in force and of a valid image stays in its range, image valid says that the check
value agrees and no write is in flight, a write is in flight out of reset exactly while the last result is IN_FLIGHT,
and what is written is what is in force: every step keeps it (R49, R102, R116, R122, R166 to R169). -/
def Obligations.ConfigurationStaysInRange : Prop :=
  ∀ s t : State, step s = .next t → (s.ConfSound → t.ConfSound) ∧ (s.StoreSound → t.StoreSound)
end

