-- ==== Sys2Proof/Laws/Link.lean ====
section
/-!
SUPPORT. What the Control Link's shared operations do: a request frame that is not taken, that the link refuses, and
that reaches its block; what a response is made of; an event in reset and out of it.
-/

namespace Sys2Proof.Machine

theorem State.takesFrames_iff (s : State) :
    s.takesFrames = true ↔ s.inReset = false ∧ s.link.csn ≠ .lowUncounted := by
  simp [State.takesFrames]

theorem State.Accepts.takesFrames {s : State} {h : Header} (a : s.Accepts h) : s.takesFrames = true :=
  s.takesFrames_iff.2 ⟨a.running, a.counted⟩

theorem State.Supervised.takesFrames {s : State} {h : Header} (a : s.Supervised h) : s.takesFrames = true :=
  s.takesFrames_iff.2 ⟨a.running, a.counted⟩

/-- The supervisor is always enabled (R1), so what it may send is accepted. -/
theorem State.Supervised.accepts {s : State} {h : Header} (a : s.Supervised h) : s.Accepts h where
  running := a.running
  counted := a.counted
  slot := by rw [a.slot]; decide
  enabled := by simp [a.slot, slotOf, requesterOf]

theorem fillTo_length (n : Nat) (l : List Byte) : (fillTo n l).length = n := by
  simp [fillTo]

/-- A list no longer than the field is followed by 00h. -/
theorem fillTo_short {n : Nat} {l : List Byte} (hl : l.length ≤ n) :
    fillTo n l = l ++ List.replicate (n - l.length) 0#8 := by
  simp [fillTo, List.take_append, List.take_of_length_le hl]

theorem respond_refuse (k : Kind) (h : Header) (status : Status) :
    respond k.code (headerByte h) (refuse status) = refusalResponse k h status := by
  simp [respond, refuse, refusalResponse, fillTo]

theorem respond_taken (k : Kind) (h : Header) {items : List Byte} (hl : items.length ≤ 15) :
    respond k.code (headerByte h) (taken items) = okResponse k h items := by
  simp [respond, taken, okResponse, fillTo_short hl]

/-- The checks of R151 pass for an accepted header and a kind that its slot may send. -/
theorem linkRefusal_none {s : State} {h : Header} {k : Kind} (a : s.Accepts h)
    (hk : k.supervisorOnly = false ∨ h.slot = 0#4) : linkRefusal s k h = none := by
  have h1 := a.slot
  have h2 := a.enabled
  unfold linkRefusal
  rcases hk with hk | hk
  · simp [h2, hk]; omega
  · simp [h2, hk]

/-- A frame that is not taken ends with nothing but CSN high. -/
theorem request_dropped {k : Kind} {h : Header} {body : State → State × Answer} {s : State}
    (hs : s.takesFrames = false) : request k h body s = s.csnRise := by
  simp [request, hs]

/-- A frame that the link refuses leaves everything but the pending response. -/
theorem request_refused {k : Kind} {h : Header} {body : State → State × Answer} {s : State} {status : Status}
    (hs : s.takesFrames = true) (hr : linkRefusal s k h = some status) :
    request k h body s = s.endFrame (refusalResponse k h status) := by
  simp [request, hs, hr, respond_refuse]

/-- A frame that passes the link's checks is its block's to answer. -/
theorem request_taken {k : Kind} {h : Header} {body : State → State × Answer} {s : State} (a : s.Accepts h)
    (hk : k.supervisorOnly = false ∨ h.slot = 0#4) :
    request k h body s = (body s).1.endFrame (respond k.code (headerByte h) (body s).2) := by
  simp [request, a.takesFrames, linkRefusal_none a hk]

/-- What every request comes to: dropped, refused by the link, or answered by its block. -/
theorem request_cases (k : Kind) (h : Header) (body : State → State × Answer) (s : State) :
    request k h body s = s.csnRise ∨
    (∃ status, linkRefusal s k h = some status ∧ request k h body s = s.endFrame (refusalResponse k h status)) ∨
    (linkRefusal s k h = none ∧
      request k h body s = (body s).1.endFrame (respond k.code (headerByte h) (body s).2)) := by
  cases ht : s.takesFrames with
  | false => exact .inl (request_dropped ht)
  | true =>
    cases hr : linkRefusal s k h with
    | some status => exact .inr (.inl ⟨status, rfl, request_refused ht hr⟩)
    | none => exact .inr (.inr ⟨rfl, by simp [request, ht, hr]⟩)

/-- The link refuses with NOT_PERMITTED and nothing else. -/
theorem linkRefusal_some {s : State} {k : Kind} {h : Header} {status : Status}
    (hr : linkRefusal s k h = some status) : status = .notPermitted := by
  unfold linkRefusal at hr
  split at hr
  · simpa using hr.symm
  · split at hr
    · simpa using hr.symm
    · split at hr
      · simpa using hr.symm
      · cases hr

theorem unlessStoring_busy {body : State → State × Answer} {s : State} (hs : s.store.writing.isSome = true) :
    unlessStoring body s = (s, refuse .busy) := by
  simp [unlessStoring, hs]

theorem unlessStoring_free {body : State → State × Answer} {s : State} (hs : s.store.writing = none) :
    unlessStoring body s = body s := by
  simp [unlessStoring, hs]

theorem event_in_reset {f : State → State} {s : State} (hs : s.inReset = true) : event f s = s := by
  simp [event, hs]

theorem event_running {f : State → State} {s : State} (hs : s.inReset = false) : event f s = f s := by
  simp [event, hs]

/-! ### The frame assembler (R147) -/

/-- An edge of SCK in a frame changes the assembler, and nothing else. -/
theorem State.inFrame_frame {s : State} {r : Response} {a : Assembler} (f : Assembler → Assembler)
    (hr : s.inReset = false) (hc : s.link.csn = .frame r a) :
    s.inFrame f = { s with link := { s.link with csn := .frame r (f a) } } := by
  simp only [State.inFrame, hr, hc]
  rfl

/-- Outside a frame and in reset the edges of SCK are not looked at. -/
theorem State.inFrame_other {s : State} (f : Assembler → Assembler)
    (h : s.inReset = true ∨ ∀ r a, s.link.csn ≠ .frame r a) : s.inFrame f = s := by
  unfold State.inFrame
  rcases h with h | h
  · simp [h]
  · split
    · rfl
    · split
      · rename_i e
        exact absurd e (h _ _)
      · rfl
      · rfl

end Sys2Proof.Machine
end

