-- ==== Sys2Proof/Laws/State.lean ====
section
/-!
SUPPORT. One lemma for each field and each named update of the state and of the drive side, true by `rfl`, so that no
later proof unfolds a record update.
-/

namespace Sys2Proof.Machine

/-! ### Updates of the state -/

@[simp] theorem State.csnRise_pending (s : State) : s.csnRise.pending = s.pending := rfl
@[simp] theorem State.csnRise_now (s : State) : s.csnRise.now = s.now := rfl
@[simp] theorem State.csnRise_inReset (s : State) : s.csnRise.inReset = s.inReset := rfl
@[simp] theorem State.csnRise_link (s : State) : s.csnRise.link = { s.link with csn := .high } := rfl
@[simp] theorem State.csnRise_conf (s : State) : s.csnRise.conf = s.conf := rfl
@[simp] theorem State.csnRise_records (s : State) : s.csnRise.records = s.records := rfl
@[simp] theorem State.csnRise_held (s : State) : s.csnRise.held = s.held := rfl
@[simp] theorem State.csnRise_lists (s : State) : s.csnRise.lists = s.lists := rfl
@[simp] theorem State.csnRise_monitors (s : State) : s.csnRise.monitors = s.monitors := rfl
@[simp] theorem State.csnRise_drive (s : State) : s.csnRise.drive = s.drive := rfl
@[simp] theorem State.csnRise_supply (s : State) : s.csnRise.supply = s.supply := rfl
@[simp] theorem State.csnRise_lines (s : State) : s.csnRise.lines = s.lines := rfl
@[simp] theorem State.csnRise_store (s : State) : s.csnRise.store = s.store := rfl
@[simp] theorem State.csnRise_pwmLeft (s : State) : s.csnRise.pwmLeft = s.pwmLeft := rfl
@[simp] theorem State.csnRise_freeCount (s : State) : s.csnRise.freeCount = s.freeCount := rfl

@[simp] theorem State.endFrame_pending (s : State) (r : Response) : (s.endFrame r).pending = s.pending := rfl
@[simp] theorem State.endFrame_now (s : State) (r : Response) : (s.endFrame r).now = s.now := rfl
@[simp] theorem State.endFrame_inReset (s : State) (r : Response) : (s.endFrame r).inReset = s.inReset := rfl
@[simp] theorem State.endFrame_link (s : State) (r : Response) :
    (s.endFrame r).link = { response := r, csn := .high } := rfl
@[simp] theorem State.endFrame_conf (s : State) (r : Response) : (s.endFrame r).conf = s.conf := rfl
@[simp] theorem State.endFrame_records (s : State) (r : Response) : (s.endFrame r).records = s.records := rfl
@[simp] theorem State.endFrame_held (s : State) (r : Response) : (s.endFrame r).held = s.held := rfl
@[simp] theorem State.endFrame_lists (s : State) (r : Response) : (s.endFrame r).lists = s.lists := rfl
@[simp] theorem State.endFrame_monitors (s : State) (r : Response) : (s.endFrame r).monitors = s.monitors := rfl
@[simp] theorem State.endFrame_drive (s : State) (r : Response) : (s.endFrame r).drive = s.drive := rfl
@[simp] theorem State.endFrame_supply (s : State) (r : Response) : (s.endFrame r).supply = s.supply := rfl
@[simp] theorem State.endFrame_lines (s : State) (r : Response) : (s.endFrame r).lines = s.lines := rfl
@[simp] theorem State.endFrame_store (s : State) (r : Response) : (s.endFrame r).store = s.store := rfl
@[simp] theorem State.endFrame_pwmLeft (s : State) (r : Response) : (s.endFrame r).pwmLeft = s.pwmLeft := rfl
@[simp] theorem State.endFrame_freeCount (s : State) (r : Response) : (s.endFrame r).freeCount = s.freeCount := rfl

@[simp] theorem State.putRecord_pending (s : State) (h : Handle) (r : Record) :
    (s.putRecord h r).pending = s.pending := rfl
@[simp] theorem State.putRecord_now (s : State) (h : Handle) (r : Record) : (s.putRecord h r).now = s.now := rfl
@[simp] theorem State.putRecord_inReset (s : State) (h : Handle) (r : Record) :
    (s.putRecord h r).inReset = s.inReset := rfl
@[simp] theorem State.putRecord_link (s : State) (h : Handle) (r : Record) : (s.putRecord h r).link = s.link := rfl
@[simp] theorem State.putRecord_conf (s : State) (h : Handle) (r : Record) : (s.putRecord h r).conf = s.conf := rfl
@[simp] theorem State.putRecord_records (s : State) (h : Handle) (r : Record) :
    (s.putRecord h r).records = s.records.set h r := rfl
@[simp] theorem State.putRecord_held (s : State) (h : Handle) (r : Record) : (s.putRecord h r).held = s.held := rfl
@[simp] theorem State.putRecord_lists (s : State) (h : Handle) (r : Record) : (s.putRecord h r).lists = s.lists := rfl
@[simp] theorem State.putRecord_monitors (s : State) (h : Handle) (r : Record) :
    (s.putRecord h r).monitors = s.monitors := rfl
@[simp] theorem State.putRecord_drive (s : State) (h : Handle) (r : Record) : (s.putRecord h r).drive = s.drive := rfl
@[simp] theorem State.putRecord_supply (s : State) (h : Handle) (r : Record) :
    (s.putRecord h r).supply = s.supply := rfl
@[simp] theorem State.putRecord_lines (s : State) (h : Handle) (r : Record) : (s.putRecord h r).lines = s.lines := rfl
@[simp] theorem State.putRecord_store (s : State) (h : Handle) (r : Record) : (s.putRecord h r).store = s.store := rfl
@[simp] theorem State.putRecord_pwmLeft (s : State) (h : Handle) (r : Record) :
    (s.putRecord h r).pwmLeft = s.pwmLeft := rfl
@[simp] theorem State.putRecord_freeCount (s : State) (h : Handle) (r : Record) :
    (s.putRecord h r).freeCount = s.freeCount := rfl

@[simp] theorem State.insertOn_pending (s : State) (c : Ch) (h : Handle) : (s.insertOn c h).pending = s.pending := rfl
@[simp] theorem State.insertOn_now (s : State) (c : Ch) (h : Handle) : (s.insertOn c h).now = s.now := rfl
@[simp] theorem State.insertOn_inReset (s : State) (c : Ch) (h : Handle) : (s.insertOn c h).inReset = s.inReset := rfl
@[simp] theorem State.insertOn_link (s : State) (c : Ch) (h : Handle) : (s.insertOn c h).link = s.link := rfl
@[simp] theorem State.insertOn_conf (s : State) (c : Ch) (h : Handle) : (s.insertOn c h).conf = s.conf := rfl
@[simp] theorem State.insertOn_records (s : State) (c : Ch) (h : Handle) : (s.insertOn c h).records = s.records := rfl
@[simp] theorem State.insertOn_held (s : State) (c : Ch) (h : Handle) : (s.insertOn c h).held = s.held := rfl
@[simp] theorem State.insertOn_lists (s : State) (c : Ch) (h : Handle) :
    (s.insertOn c h).lists = s.lists.set c (listInsert (fun y => s.records[y].rank) h s.lists[c]) := rfl
@[simp] theorem State.insertOn_monitors (s : State) (c : Ch) (h : Handle) :
    (s.insertOn c h).monitors = s.monitors := rfl
@[simp] theorem State.insertOn_drive (s : State) (c : Ch) (h : Handle) : (s.insertOn c h).drive = s.drive := rfl
@[simp] theorem State.insertOn_supply (s : State) (c : Ch) (h : Handle) : (s.insertOn c h).supply = s.supply := rfl
@[simp] theorem State.insertOn_lines (s : State) (c : Ch) (h : Handle) : (s.insertOn c h).lines = s.lines := rfl
@[simp] theorem State.insertOn_store (s : State) (c : Ch) (h : Handle) : (s.insertOn c h).store = s.store := rfl
@[simp] theorem State.insertOn_pwmLeft (s : State) (c : Ch) (h : Handle) : (s.insertOn c h).pwmLeft = s.pwmLeft := rfl
@[simp] theorem State.insertOn_freeCount (s : State) (c : Ch) (h : Handle) :
    (s.insertOn c h).freeCount = s.freeCount := rfl

@[simp] theorem State.removeFrom_pending (s : State) (c : Ch) (h : Handle) :
    (s.removeFrom c h).pending = s.pending := rfl
@[simp] theorem State.removeFrom_now (s : State) (c : Ch) (h : Handle) : (s.removeFrom c h).now = s.now := rfl
@[simp] theorem State.removeFrom_inReset (s : State) (c : Ch) (h : Handle) :
    (s.removeFrom c h).inReset = s.inReset := rfl
@[simp] theorem State.removeFrom_link (s : State) (c : Ch) (h : Handle) : (s.removeFrom c h).link = s.link := rfl
@[simp] theorem State.removeFrom_conf (s : State) (c : Ch) (h : Handle) : (s.removeFrom c h).conf = s.conf := rfl
@[simp] theorem State.removeFrom_records (s : State) (c : Ch) (h : Handle) :
    (s.removeFrom c h).records = s.records := rfl
@[simp] theorem State.removeFrom_held (s : State) (c : Ch) (h : Handle) : (s.removeFrom c h).held = s.held := rfl
@[simp] theorem State.removeFrom_lists (s : State) (c : Ch) (h : Handle) :
    (s.removeFrom c h).lists = s.lists.set c (s.lists[c].filter (fun y => y ≠ h)) := rfl
@[simp] theorem State.removeFrom_monitors (s : State) (c : Ch) (h : Handle) :
    (s.removeFrom c h).monitors = s.monitors := rfl
@[simp] theorem State.removeFrom_drive (s : State) (c : Ch) (h : Handle) : (s.removeFrom c h).drive = s.drive := rfl
@[simp] theorem State.removeFrom_supply (s : State) (c : Ch) (h : Handle) :
    (s.removeFrom c h).supply = s.supply := rfl
@[simp] theorem State.removeFrom_lines (s : State) (c : Ch) (h : Handle) : (s.removeFrom c h).lines = s.lines := rfl
@[simp] theorem State.removeFrom_store (s : State) (c : Ch) (h : Handle) : (s.removeFrom c h).store = s.store := rfl
@[simp] theorem State.removeFrom_pwmLeft (s : State) (c : Ch) (h : Handle) :
    (s.removeFrom c h).pwmLeft = s.pwmLeft := rfl
@[simp] theorem State.removeFrom_freeCount (s : State) (c : Ch) (h : Handle) :
    (s.removeFrom c h).freeCount = s.freeCount := rfl

@[simp] theorem State.raiseHeld_pending (s : State) (n : SlotNo) : (s.raiseHeld n).pending = s.pending := rfl
@[simp] theorem State.raiseHeld_now (s : State) (n : SlotNo) : (s.raiseHeld n).now = s.now := rfl
@[simp] theorem State.raiseHeld_inReset (s : State) (n : SlotNo) : (s.raiseHeld n).inReset = s.inReset := rfl
@[simp] theorem State.raiseHeld_link (s : State) (n : SlotNo) : (s.raiseHeld n).link = s.link := rfl
@[simp] theorem State.raiseHeld_conf (s : State) (n : SlotNo) : (s.raiseHeld n).conf = s.conf := rfl
@[simp] theorem State.raiseHeld_records (s : State) (n : SlotNo) : (s.raiseHeld n).records = s.records := rfl
@[simp] theorem State.raiseHeld_held (s : State) (n : SlotNo) :
    (s.raiseHeld n).held = s.held.set n (s.held[n] + 1) := rfl
@[simp] theorem State.raiseHeld_lists (s : State) (n : SlotNo) : (s.raiseHeld n).lists = s.lists := rfl
@[simp] theorem State.raiseHeld_monitors (s : State) (n : SlotNo) : (s.raiseHeld n).monitors = s.monitors := rfl
@[simp] theorem State.raiseHeld_drive (s : State) (n : SlotNo) : (s.raiseHeld n).drive = s.drive := rfl
@[simp] theorem State.raiseHeld_supply (s : State) (n : SlotNo) : (s.raiseHeld n).supply = s.supply := rfl
@[simp] theorem State.raiseHeld_lines (s : State) (n : SlotNo) : (s.raiseHeld n).lines = s.lines := rfl
@[simp] theorem State.raiseHeld_store (s : State) (n : SlotNo) : (s.raiseHeld n).store = s.store := rfl
@[simp] theorem State.raiseHeld_pwmLeft (s : State) (n : SlotNo) : (s.raiseHeld n).pwmLeft = s.pwmLeft := rfl
@[simp] theorem State.raiseHeld_freeCount (s : State) (n : SlotNo) : (s.raiseHeld n).freeCount = s.freeCount := rfl

@[simp] theorem State.lowerHeld_pending (s : State) (n : SlotNo) : (s.lowerHeld n).pending = s.pending := rfl
@[simp] theorem State.lowerHeld_now (s : State) (n : SlotNo) : (s.lowerHeld n).now = s.now := rfl
@[simp] theorem State.lowerHeld_inReset (s : State) (n : SlotNo) : (s.lowerHeld n).inReset = s.inReset := rfl
@[simp] theorem State.lowerHeld_link (s : State) (n : SlotNo) : (s.lowerHeld n).link = s.link := rfl
@[simp] theorem State.lowerHeld_conf (s : State) (n : SlotNo) : (s.lowerHeld n).conf = s.conf := rfl
@[simp] theorem State.lowerHeld_records (s : State) (n : SlotNo) : (s.lowerHeld n).records = s.records := rfl
@[simp] theorem State.lowerHeld_held (s : State) (n : SlotNo) :
    (s.lowerHeld n).held = s.held.set n (s.held[n] - 1) := rfl
@[simp] theorem State.lowerHeld_lists (s : State) (n : SlotNo) : (s.lowerHeld n).lists = s.lists := rfl
@[simp] theorem State.lowerHeld_monitors (s : State) (n : SlotNo) : (s.lowerHeld n).monitors = s.monitors := rfl
@[simp] theorem State.lowerHeld_drive (s : State) (n : SlotNo) : (s.lowerHeld n).drive = s.drive := rfl
@[simp] theorem State.lowerHeld_supply (s : State) (n : SlotNo) : (s.lowerHeld n).supply = s.supply := rfl
@[simp] theorem State.lowerHeld_lines (s : State) (n : SlotNo) : (s.lowerHeld n).lines = s.lines := rfl
@[simp] theorem State.lowerHeld_store (s : State) (n : SlotNo) : (s.lowerHeld n).store = s.store := rfl
@[simp] theorem State.lowerHeld_pwmLeft (s : State) (n : SlotNo) : (s.lowerHeld n).pwmLeft = s.pwmLeft := rfl
@[simp] theorem State.lowerHeld_freeCount (s : State) (n : SlotNo) : (s.lowerHeld n).freeCount = s.freeCount := rfl

@[simp] theorem State.makeLive_pending (s : State) (h : Handle) (d : Demand) (remaining : Option Nat) :
    (s.makeLive h d remaining).pending = s.pending := rfl
@[simp] theorem State.makeLive_now (s : State) (h : Handle) (d : Demand) (remaining : Option Nat) :
    (s.makeLive h d remaining).now = s.now := rfl
@[simp] theorem State.makeLive_inReset (s : State) (h : Handle) (d : Demand) (remaining : Option Nat) :
    (s.makeLive h d remaining).inReset = s.inReset := rfl
@[simp] theorem State.makeLive_link (s : State) (h : Handle) (d : Demand) (remaining : Option Nat) :
    (s.makeLive h d remaining).link = s.link := rfl
@[simp] theorem State.makeLive_conf (s : State) (h : Handle) (d : Demand) (remaining : Option Nat) :
    (s.makeLive h d remaining).conf = s.conf := rfl
@[simp] theorem State.makeLive_records (s : State) (h : Handle) (d : Demand) (remaining : Option Nat) :
    (s.makeLive h d remaining).records = s.records.set h (.live d remaining) := rfl
@[simp] theorem State.makeLive_held (s : State) (h : Handle) (d : Demand) (remaining : Option Nat) :
    (s.makeLive h d remaining).held = s.held := rfl
@[simp] theorem State.makeLive_monitors (s : State) (h : Handle) (d : Demand) (remaining : Option Nat) :
    (s.makeLive h d remaining).monitors = s.monitors := rfl
@[simp] theorem State.makeLive_drive (s : State) (h : Handle) (d : Demand) (remaining : Option Nat) :
    (s.makeLive h d remaining).drive = s.drive := rfl
@[simp] theorem State.makeLive_supply (s : State) (h : Handle) (d : Demand) (remaining : Option Nat) :
    (s.makeLive h d remaining).supply = s.supply := rfl
@[simp] theorem State.makeLive_lines (s : State) (h : Handle) (d : Demand) (remaining : Option Nat) :
    (s.makeLive h d remaining).lines = s.lines := rfl
@[simp] theorem State.makeLive_store (s : State) (h : Handle) (d : Demand) (remaining : Option Nat) :
    (s.makeLive h d remaining).store = s.store := rfl
@[simp] theorem State.makeLive_pwmLeft (s : State) (h : Handle) (d : Demand) (remaining : Option Nat) :
    (s.makeLive h d remaining).pwmLeft = s.pwmLeft := rfl
@[simp] theorem State.makeLive_freeCount (s : State) (h : Handle) (d : Demand) (remaining : Option Nat) :
    (s.makeLive h d remaining).freeCount = s.freeCount := rfl

@[simp] theorem State.freeAll_pending (s : State) (p : Handle → Bool) :
    (s.freeAll p).pending = s.pending := by
  delta State.freeAll; exact rfl
@[simp] theorem State.freeAll_now (s : State) (p : Handle → Bool) :
    (s.freeAll p).now = s.now := by
  delta State.freeAll; exact rfl
@[simp] theorem State.freeAll_inReset (s : State) (p : Handle → Bool) :
    (s.freeAll p).inReset = s.inReset := by
  delta State.freeAll; exact rfl
@[simp] theorem State.freeAll_link (s : State) (p : Handle → Bool) :
    (s.freeAll p).link = s.link := by
  delta State.freeAll; exact rfl
@[simp] theorem State.freeAll_conf (s : State) (p : Handle → Bool) :
    (s.freeAll p).conf = s.conf := by
  delta State.freeAll; exact rfl
@[simp] theorem State.freeAll_records (s : State) (p : Handle → Bool) :
    (s.freeAll p).records = Vector.ofFn (fun h : Handle => if p h then Record.free else s.records[h]) :=
  by
  delta State.freeAll; exact rfl
@[simp] theorem State.freeAll_held (s : State) (p : Handle → Bool) :
    (s.freeAll p).held = s.held := by
  delta State.freeAll; exact rfl
@[simp] theorem State.freeAll_lists (s : State) (p : Handle → Bool) :
    (s.freeAll p).lists = Vector.ofFn (fun c : Ch => s.lists[c].filter (fun h => !p h)) :=
  by
  delta State.freeAll; exact rfl
@[simp] theorem State.freeAll_monitors (s : State) (p : Handle → Bool) :
    (s.freeAll p).monitors = s.monitors := by
  delta State.freeAll; exact rfl
@[simp] theorem State.freeAll_drive (s : State) (p : Handle → Bool) :
    (s.freeAll p).drive = s.drive := by
  delta State.freeAll; exact rfl
@[simp] theorem State.freeAll_supply (s : State) (p : Handle → Bool) :
    (s.freeAll p).supply = s.supply := by
  delta State.freeAll; exact rfl
@[simp] theorem State.freeAll_lines (s : State) (p : Handle → Bool) :
    (s.freeAll p).lines = s.lines := by
  delta State.freeAll; exact rfl
@[simp] theorem State.freeAll_store (s : State) (p : Handle → Bool) :
    (s.freeAll p).store = s.store := by
  delta State.freeAll; exact rfl
@[simp] theorem State.freeAll_pwmLeft (s : State) (p : Handle → Bool) :
    (s.freeAll p).pwmLeft = s.pwmLeft := by
  delta State.freeAll; exact rfl
@[simp] theorem State.freeAll_freeCount (s : State) (p : Handle → Bool) :
    (s.freeAll p).freeCount = s.freeCount := by
  delta State.freeAll; exact rfl

@[simp] theorem State.handOver_pending (s : State) (cs : List Ch) : (s.handOver cs).pending = s.pending := rfl
@[simp] theorem State.handOver_now (s : State) (cs : List Ch) : (s.handOver cs).now = s.now := rfl
@[simp] theorem State.handOver_inReset (s : State) (cs : List Ch) : (s.handOver cs).inReset = s.inReset := rfl
@[simp] theorem State.handOver_link (s : State) (cs : List Ch) : (s.handOver cs).link = s.link := rfl
@[simp] theorem State.handOver_conf (s : State) (cs : List Ch) : (s.handOver cs).conf = s.conf := rfl
@[simp] theorem State.handOver_records (s : State) (cs : List Ch) : (s.handOver cs).records = s.records := rfl
@[simp] theorem State.handOver_held (s : State) (cs : List Ch) : (s.handOver cs).held = s.held := rfl
@[simp] theorem State.handOver_lists (s : State) (cs : List Ch) : (s.handOver cs).lists = s.lists := rfl
@[simp] theorem State.handOver_monitors (s : State) (cs : List Ch) : (s.handOver cs).monitors = s.monitors := rfl
@[simp] theorem State.handOver_drive (s : State) (cs : List Ch) :
    (s.handOver cs).drive = s.drive.takePairs s.env (cs.map (fun c => (c, s.winnerPair c))) := rfl
@[simp] theorem State.handOver_supply (s : State) (cs : List Ch) : (s.handOver cs).supply = s.supply := rfl
@[simp] theorem State.handOver_lines (s : State) (cs : List Ch) : (s.handOver cs).lines = s.lines := rfl
@[simp] theorem State.handOver_store (s : State) (cs : List Ch) : (s.handOver cs).store = s.store := rfl
@[simp] theorem State.handOver_pwmLeft (s : State) (cs : List Ch) : (s.handOver cs).pwmLeft = s.pwmLeft := rfl
@[simp] theorem State.handOver_freeCount (s : State) (cs : List Ch) : (s.handOver cs).freeCount = s.freeCount := rfl

@[simp] theorem State.onChannel_pending (s : State) (f : Drive → Env → Ch → Drive) (c : Ch) :
    (s.onChannel f c).pending = s.pending := rfl
@[simp] theorem State.onChannel_now (s : State) (f : Drive → Env → Ch → Drive) (c : Ch) :
    (s.onChannel f c).now = s.now := rfl
@[simp] theorem State.onChannel_inReset (s : State) (f : Drive → Env → Ch → Drive) (c : Ch) :
    (s.onChannel f c).inReset = s.inReset := rfl
@[simp] theorem State.onChannel_link (s : State) (f : Drive → Env → Ch → Drive) (c : Ch) :
    (s.onChannel f c).link = s.link := rfl
@[simp] theorem State.onChannel_conf (s : State) (f : Drive → Env → Ch → Drive) (c : Ch) :
    (s.onChannel f c).conf = s.conf := rfl
@[simp] theorem State.onChannel_records (s : State) (f : Drive → Env → Ch → Drive) (c : Ch) :
    (s.onChannel f c).records = s.records := rfl
@[simp] theorem State.onChannel_held (s : State) (f : Drive → Env → Ch → Drive) (c : Ch) :
    (s.onChannel f c).held = s.held := rfl
@[simp] theorem State.onChannel_lists (s : State) (f : Drive → Env → Ch → Drive) (c : Ch) :
    (s.onChannel f c).lists = s.lists := rfl
@[simp] theorem State.onChannel_monitors (s : State) (f : Drive → Env → Ch → Drive) (c : Ch) :
    (s.onChannel f c).monitors = s.monitors := rfl
@[simp] theorem State.onChannel_drive (s : State) (f : Drive → Env → Ch → Drive) (c : Ch) :
    (s.onChannel f c).drive = f s.drive s.env c := rfl
@[simp] theorem State.onChannel_supply (s : State) (f : Drive → Env → Ch → Drive) (c : Ch) :
    (s.onChannel f c).supply = s.supply := rfl
@[simp] theorem State.onChannel_lines (s : State) (f : Drive → Env → Ch → Drive) (c : Ch) :
    (s.onChannel f c).lines = s.lines := rfl
@[simp] theorem State.onChannel_store (s : State) (f : Drive → Env → Ch → Drive) (c : Ch) :
    (s.onChannel f c).store = s.store := rfl
@[simp] theorem State.onChannel_pwmLeft (s : State) (f : Drive → Env → Ch → Drive) (c : Ch) :
    (s.onChannel f c).pwmLeft = s.pwmLeft := rfl
@[simp] theorem State.onChannel_freeCount (s : State) (f : Drive → Env → Ch → Drive) (c : Ch) :
    (s.onChannel f c).freeCount = s.freeCount := rfl

@[simp] theorem State.setLow_pending (s : State) : s.setLow.pending = s.pending := by
  delta State.setLow; exact rfl
@[simp] theorem State.setLow_now (s : State) : s.setLow.now = s.now := by
  delta State.setLow; exact rfl
@[simp] theorem State.setLow_inReset (s : State) : s.setLow.inReset = s.inReset := by
  delta State.setLow; exact rfl
@[simp] theorem State.setLow_link (s : State) : s.setLow.link = s.link := by
  delta State.setLow; exact rfl
@[simp] theorem State.setLow_conf (s : State) : s.setLow.conf = s.conf := by
  delta State.setLow; exact rfl
@[simp] theorem State.setLow_records (s : State) : s.setLow.records = s.records := by
  delta State.setLow; exact rfl
@[simp] theorem State.setLow_held (s : State) : s.setLow.held = s.held := by
  delta State.setLow; exact rfl
@[simp] theorem State.setLow_lists (s : State) : s.setLow.lists = s.lists := by
  delta State.setLow; exact rfl
@[simp] theorem State.setLow_monitors (s : State) :
    s.setLow.monitors = s.monitors := by
  delta State.setLow; exact rfl
@[simp] theorem State.setLow_supply (s : State) :
    s.setLow.supply = { s.supply with low := true, count := 0 } := by
  delta State.setLow; exact rfl
@[simp] theorem State.setLow_lines (s : State) : s.setLow.lines = s.lines := by
  delta State.setLow; exact rfl
@[simp] theorem State.setLow_store (s : State) : s.setLow.store = s.store := by
  delta State.setLow; exact rfl
@[simp] theorem State.setLow_pwmLeft (s : State) : s.setLow.pwmLeft = s.pwmLeft := by
  delta State.setLow; exact rfl
@[simp] theorem State.setLow_freeCount (s : State) :
    s.setLow.freeCount = s.freeCount := by
  delta State.setLow; exact rfl

@[simp] theorem State.clearLow_pending (s : State) :
    s.clearLow.pending = s.pending := by
  delta State.clearLow; exact rfl
@[simp] theorem State.clearLow_now (s : State) : s.clearLow.now = s.now := by
  delta State.clearLow; exact rfl
@[simp] theorem State.clearLow_inReset (s : State) :
    s.clearLow.inReset = s.inReset := by
  delta State.clearLow; exact rfl
@[simp] theorem State.clearLow_link (s : State) : s.clearLow.link = s.link := by
  delta State.clearLow; exact rfl
@[simp] theorem State.clearLow_conf (s : State) : s.clearLow.conf = s.conf := by
  delta State.clearLow; exact rfl
@[simp] theorem State.clearLow_records (s : State) :
    s.clearLow.records = s.records := by
  delta State.clearLow; exact rfl
@[simp] theorem State.clearLow_held (s : State) : s.clearLow.held = s.held := by
  delta State.clearLow; exact rfl
@[simp] theorem State.clearLow_lists (s : State) : s.clearLow.lists = s.lists := by
  delta State.clearLow; exact rfl
@[simp] theorem State.clearLow_monitors (s : State) :
    s.clearLow.monitors = s.monitors := by
  delta State.clearLow; exact rfl
@[simp] theorem State.clearLow_drive (s : State) :
    s.clearLow.drive = (({ s with supply := { s.supply with low := false, count := 0 } } : State).drive.passes
      ({ s with supply := { s.supply with low := false, count := 0 } } : State).env allFeeds).setKind .supply :=
  by
  delta State.clearLow; exact rfl
@[simp] theorem State.clearLow_supply (s : State) :
    s.clearLow.supply = { s.supply with low := false, count := 0 } := by
  delta State.clearLow; exact rfl
@[simp] theorem State.clearLow_lines (s : State) : s.clearLow.lines = s.lines := by
  delta State.clearLow; exact rfl
@[simp] theorem State.clearLow_store (s : State) : s.clearLow.store = s.store := by
  delta State.clearLow; exact rfl
@[simp] theorem State.clearLow_pwmLeft (s : State) :
    s.clearLow.pwmLeft = s.pwmLeft := by
  delta State.clearLow; exact rfl
@[simp] theorem State.clearLow_freeCount (s : State) :
    s.clearLow.freeCount = s.freeCount := by
  delta State.clearLow; exact rfl

/-! ### Updates of the drive side -/

@[simp] theorem Drive.modChan_chans (d : Drive) (c : Ch) (g : Channel → Channel) :
    (d.modChan c g).chans = d.chans.set c (g d.chans[c]) := rfl
@[simp] theorem Drive.modChan_pairs (d : Drive) (c : Ch) (g : Channel → Channel) :
    (d.modChan c g).pairs = d.pairs := rfl
@[simp] theorem Drive.modChan_feeds (d : Drive) (c : Ch) (g : Channel → Channel) :
    (d.modChan c g).feeds = d.feeds := rfl
@[simp] theorem Drive.modChan_flash (d : Drive) (c : Ch) (g : Channel → Channel) :
    (d.modChan c g).flash = d.flash := rfl
@[simp] theorem Drive.modChan_check (d : Drive) (c : Ch) (g : Channel → Channel) :
    (d.modChan c g).check = d.check := rfl
@[simp] theorem Drive.modChan_notice (d : Drive) (c : Ch) (g : Channel → Channel) :
    (d.modChan c g).notice = d.notice := rfl

@[simp] theorem Drive.modFeed_chans (d : Drive) (f : Fin 3) (g : FeedState → FeedState) :
    (d.modFeed f g).chans = d.chans := rfl
@[simp] theorem Drive.modFeed_pairs (d : Drive) (f : Fin 3) (g : FeedState → FeedState) :
    (d.modFeed f g).pairs = d.pairs := rfl
@[simp] theorem Drive.modFeed_feeds (d : Drive) (f : Fin 3) (g : FeedState → FeedState) :
    (d.modFeed f g).feeds = d.feeds.set f (g d.feeds[f]) := rfl
@[simp] theorem Drive.modFeed_flash (d : Drive) (f : Fin 3) (g : FeedState → FeedState) :
    (d.modFeed f g).flash = d.flash := rfl
@[simp] theorem Drive.modFeed_check (d : Drive) (f : Fin 3) (g : FeedState → FeedState) :
    (d.modFeed f g).check = d.check := rfl
@[simp] theorem Drive.modFeed_notice (d : Drive) (f : Fin 3) (g : FeedState → FeedState) :
    (d.modFeed f g).notice = d.notice := rfl

@[simp] theorem Drive.modPair_chans (d : Drive) (p : PairNo) (g : PairState → PairState) :
    (d.modPair p g).chans = d.chans := rfl
@[simp] theorem Drive.modPair_pairs (d : Drive) (p : PairNo) (g : PairState → PairState) :
    (d.modPair p g).pairs = d.pairs.set p (g d.pairs[p]) := rfl
@[simp] theorem Drive.modPair_feeds (d : Drive) (p : PairNo) (g : PairState → PairState) :
    (d.modPair p g).feeds = d.feeds := rfl
@[simp] theorem Drive.modPair_flash (d : Drive) (p : PairNo) (g : PairState → PairState) :
    (d.modPair p g).flash = d.flash := rfl
@[simp] theorem Drive.modPair_check (d : Drive) (p : PairNo) (g : PairState → PairState) :
    (d.modPair p g).check = d.check := rfl
@[simp] theorem Drive.modPair_notice (d : Drive) (p : PairNo) (g : PairState → PairState) :
    (d.modPair p g).notice = d.notice := rfl

@[simp] theorem Drive.setKind_chans (d : Drive) (k : NoticeKind) : (d.setKind k).chans = d.chans := rfl
@[simp] theorem Drive.setKind_pairs (d : Drive) (k : NoticeKind) : (d.setKind k).pairs = d.pairs := rfl
@[simp] theorem Drive.setKind_feeds (d : Drive) (k : NoticeKind) : (d.setKind k).feeds = d.feeds := rfl
@[simp] theorem Drive.setKind_flash (d : Drive) (k : NoticeKind) : (d.setKind k).flash = d.flash := rfl
@[simp] theorem Drive.setKind_check (d : Drive) (k : NoticeKind) : (d.setKind k).check = d.check := rfl
@[simp] theorem Drive.setKind_notice (d : Drive) (k : NoticeKind) :
    (d.setKind k).notice =
      { d.notice with kinds := d.notice.kinds ||| kindBit k } := rfl

@[simp] theorem Drive.noteChanged_chans (d : Drive) (c : Ch) : (d.noteChanged c).chans = d.chans := rfl
@[simp] theorem Drive.noteChanged_pairs (d : Drive) (c : Ch) : (d.noteChanged c).pairs = d.pairs := rfl
@[simp] theorem Drive.noteChanged_feeds (d : Drive) (c : Ch) : (d.noteChanged c).feeds = d.feeds := rfl
@[simp] theorem Drive.noteChanged_flash (d : Drive) (c : Ch) : (d.noteChanged c).flash = d.flash := rfl
@[simp] theorem Drive.noteChanged_check (d : Drive) (c : Ch) : (d.noteChanged c).check = d.check := rfl
@[simp] theorem Drive.noteChanged_notice (d : Drive) (c : Ch) :
    (d.noteChanged c).notice =
      ⟨d.notice.kinds ||| kindBit .channel, d.notice.changed ||| chBit c, d.notice.warn, d.notice.openSet⟩ := rfl

@[simp] theorem Drive.noteWarn_chans (d : Drive) (c : Ch) : (d.noteWarn c).chans = d.chans := rfl
@[simp] theorem Drive.noteWarn_pairs (d : Drive) (c : Ch) : (d.noteWarn c).pairs = d.pairs := rfl
@[simp] theorem Drive.noteWarn_feeds (d : Drive) (c : Ch) : (d.noteWarn c).feeds = d.feeds := rfl
@[simp] theorem Drive.noteWarn_flash (d : Drive) (c : Ch) : (d.noteWarn c).flash = d.flash := rfl
@[simp] theorem Drive.noteWarn_check (d : Drive) (c : Ch) : (d.noteWarn c).check = d.check := rfl
@[simp] theorem Drive.noteWarn_notice (d : Drive) (c : Ch) :
    (d.noteWarn c).notice =
      ⟨d.notice.kinds ||| kindBit .warn, d.notice.changed, d.notice.warn ||| chBit c, d.notice.openSet⟩ := rfl

@[simp] theorem Drive.noteOpen_chans (d : Drive) (c : Ch) : (d.noteOpen c).chans = d.chans := rfl
@[simp] theorem Drive.noteOpen_pairs (d : Drive) (c : Ch) : (d.noteOpen c).pairs = d.pairs := rfl
@[simp] theorem Drive.noteOpen_feeds (d : Drive) (c : Ch) : (d.noteOpen c).feeds = d.feeds := rfl
@[simp] theorem Drive.noteOpen_flash (d : Drive) (c : Ch) : (d.noteOpen c).flash = d.flash := rfl
@[simp] theorem Drive.noteOpen_check (d : Drive) (c : Ch) : (d.noteOpen c).check = d.check := rfl
@[simp] theorem Drive.noteOpen_notice (d : Drive) (c : Ch) :
    (d.noteOpen c).notice =
      ⟨d.notice.kinds ||| kindBit .openLoad, d.notice.changed ||| chBit c, d.notice.warn,
      d.notice.openSet ||| chBit c⟩ := rfl

@[simp] theorem Drive.setReservation_chans (d : Drive) (e : Env) (c : Ch) (r : Nat) :
    (d.setReservation e c r).chans = d.chans.set c { d.chans[c] with reservation := r } := rfl
@[simp] theorem Drive.setReservation_pairs (d : Drive) (e : Env) (c : Ch) (r : Nat) :
    (d.setReservation e c r).pairs = d.pairs := rfl
@[simp] theorem Drive.setReservation_feeds (d : Drive) (e : Env) (c : Ch) (r : Nat) :
    (d.setReservation e c r).feeds = d.feeds.set (e.feedOf c) { d.feeds[e.feedOf c] with
      committed := d.feeds[e.feedOf c].committed + r - d.chans[c].reservation } := rfl
@[simp] theorem Drive.setReservation_flash (d : Drive) (e : Env) (c : Ch) (r : Nat) :
    (d.setReservation e c r).flash = d.flash := rfl
@[simp] theorem Drive.setReservation_check (d : Drive) (e : Env) (c : Ch) (r : Nat) :
    (d.setReservation e c r).check = d.check := rfl
@[simp] theorem Drive.setReservation_notice (d : Drive) (e : Env) (c : Ch) (r : Nat) :
    (d.setReservation e c r).notice = d.notice := rfl

@[simp] theorem Drive.leaveQueue_chans (d : Drive) (e : Env) (c : Ch) : (d.leaveQueue e c).chans = d.chans := rfl
@[simp] theorem Drive.leaveQueue_pairs (d : Drive) (e : Env) (c : Ch) : (d.leaveQueue e c).pairs = d.pairs := rfl
@[simp] theorem Drive.leaveQueue_feeds (d : Drive) (e : Env) (c : Ch) :
    (d.leaveQueue e c).feeds = d.feeds.set (e.feedOf c) { d.feeds[e.feedOf c] with
      queue := d.feeds[e.feedOf c].queue.filter (fun x => x.ch ≠ c) } := rfl
@[simp] theorem Drive.leaveQueue_flash (d : Drive) (e : Env) (c : Ch) : (d.leaveQueue e c).flash = d.flash := rfl
@[simp] theorem Drive.leaveQueue_check (d : Drive) (e : Env) (c : Ch) : (d.leaveQueue e c).check = d.check := rfl
@[simp] theorem Drive.leaveQueue_notice (d : Drive) (e : Env) (c : Ch) : (d.leaveQueue e c).notice = d.notice := rfl

@[simp] theorem Drive.joinQueue_chans (d : Drive) (e : Env) (x : Entry) : (d.joinQueue e x).chans = d.chans := rfl
@[simp] theorem Drive.joinQueue_pairs (d : Drive) (e : Env) (x : Entry) : (d.joinQueue e x).pairs = d.pairs := rfl
@[simp] theorem Drive.joinQueue_feeds (d : Drive) (e : Env) (x : Entry) :
    (d.joinQueue e x).feeds = d.feeds.set (e.feedOf x.ch) { d.feeds[e.feedOf x.ch] with
      queue := queueJoin (fun c => d.chans[c].rank) x d.feeds[e.feedOf x.ch].queue } := rfl
@[simp] theorem Drive.joinQueue_flash (d : Drive) (e : Env) (x : Entry) : (d.joinQueue e x).flash = d.flash := rfl
@[simp] theorem Drive.joinQueue_check (d : Drive) (e : Env) (x : Entry) : (d.joinQueue e x).check = d.check := rfl
@[simp] theorem Drive.joinQueue_notice (d : Drive) (e : Env) (x : Entry) : (d.joinQueue e x).notice = d.notice := rfl

@[simp] theorem Drive.restartUnits_chans (d : Drive) : d.restartUnits.chans = d.chans := rfl
@[simp] theorem Drive.restartUnits_pairs (d : Drive) : d.restartUnits.pairs = d.pairs := rfl
@[simp] theorem Drive.restartUnits_feeds (d : Drive) : d.restartUnits.feeds = d.feeds := rfl
@[simp] theorem Drive.restartUnits_flash (d : Drive) : d.restartUnits.flash = d.flash := rfl
@[simp] theorem Drive.restartUnits_check (d : Drive) : d.restartUnits.check = { d.check with run := none } := rfl
@[simp] theorem Drive.restartUnits_notice (d : Drive) : d.restartUnits.notice = ⟨0#8, 0#16, 0#16, 0#16⟩ := rfl

@[simp] theorem Drive.joinFresh_chans (d : Drive) (e : Env) (c : Ch) :
    (d.joinFresh e c).chans = d.chans.set c { d.chans[c] with state := .waiting .budget } := rfl
@[simp] theorem Drive.joinFresh_pairs (d : Drive) (e : Env) (c : Ch) : (d.joinFresh e c).pairs = d.pairs := rfl
@[simp] theorem Drive.joinFresh_flash (d : Drive) (e : Env) (c : Ch) : (d.joinFresh e c).flash = d.flash := rfl
@[simp] theorem Drive.joinFresh_check (d : Drive) (e : Env) (c : Ch) : (d.joinFresh e c).check = d.check := rfl
@[simp] theorem Drive.joinFresh_notice (d : Drive) (e : Env) (c : Ch) : (d.joinFresh e c).notice = d.notice := rfl

/-! ### A level applied to a channel -/

@[simp] theorem Channel.apply_wanted (x : Channel) (l : Level) : (x.apply l).wanted = x.wanted := rfl
@[simp] theorem Channel.apply_cls (x : Channel) (l : Level) : (x.apply l).cls = x.cls := rfl
@[simp] theorem Channel.apply_state (x : Channel) (l : Level) : (x.apply l).state = x.state := rfl
@[simp] theorem Channel.apply_applied (x : Channel) (l : Level) : (x.apply l).applied = l := rfl
@[simp] theorem Channel.apply_reservation (x : Channel) (l : Level) : (x.apply l).reservation = x.reservation := rfl
@[simp] theorem Channel.apply_retries (x : Channel) (l : Level) : (x.apply l).retries = x.retries := rfl
@[simp] theorem Channel.apply_lastFault (x : Channel) (l : Level) : (x.apply l).lastFault = x.lastFault := rfl
@[simp] theorem Channel.apply_cooling (x : Channel) (l : Level) : (x.apply l).cooling = x.cooling := rfl
@[simp] theorem Channel.apply_upgrade (x : Channel) (l : Level) : (x.apply l).upgrade = x.upgrade := rfl
@[simp] theorem Channel.apply_lastShed (x : Channel) (l : Level) : (x.apply l).lastShed = x.lastShed := rfl
@[simp] theorem Channel.apply_inrushTimer (x : Channel) (l : Level) : (x.apply l).inrushTimer = x.inrushTimer := rfl
@[simp] theorem Channel.apply_retryTimer (x : Channel) (l : Level) : (x.apply l).retryTimer = x.retryTimer := rfl
@[simp] theorem Channel.apply_cleanTimer (x : Channel) (l : Level) : (x.apply l).cleanTimer = x.cleanTimer := rfl
@[simp] theorem Channel.apply_pwmSettled (x : Channel) (l : Level) :
    (x.apply l).pwmSettled = (x.pwmSettled && decide (x.applied = l)) := rfl
@[simp] theorem Channel.apply_openCount (x : Channel) (l : Level) : (x.apply l).openCount = x.openCount := rfl
@[simp] theorem Channel.apply_openFlag (x : Channel) (l : Level) : (x.apply l).openFlag = x.openFlag := rfl

/-! ### The environment of a state -/

@[simp] theorem State.env_conf (s : State) : s.env.conf = s.conf := rfl
@[simp] theorem State.env_monitors (s : State) : s.env.monitors = s.monitors := rfl
@[simp] theorem State.env_now (s : State) : s.env.now = s.now := rfl
@[simp] theorem State.env_low (s : State) : s.env.low = s.supply.low := rfl

end Sys2Proof.Machine
end

