-- ==== Sys2Proof/Laws/Drive.lean ====
section
/-!
SUPPORT. What the shared operations over the drive side do, read at one channel, one feed or one pair: the parts they
change, computed, and the parts they leave alone.
-/

namespace Sys2Proof.Machine

/-! ### One part of the drive side changed -/

theorem Drive.modChan_at (d : Drive) (c c' : Ch) (g : Channel → Channel) :
    (d.modChan c g).chans[c'] = if c' = c then g d.chans[c] else d.chans[c'] := by
  simp only [Drive.modChan, Fin.getElem_fin, Vector.getElem_set, Fin.ext_iff, eq_comm]

theorem Drive.modFeed_at (d : Drive) (f f' : Fin 3) (g : FeedState → FeedState) :
    (d.modFeed f g).feeds[f'] = if f' = f then g d.feeds[f] else d.feeds[f'] := by
  simp only [Drive.modFeed, Fin.getElem_fin, Vector.getElem_set, Fin.ext_iff, eq_comm]

theorem Drive.modPair_at (d : Drive) (p p' : PairNo) (g : PairState → PairState) :
    (d.modPair p g).pairs[p'] = if p' = p then g d.pairs[p] else d.pairs[p'] := by
  simp only [Drive.modPair, Fin.getElem_fin, Vector.getElem_set, Fin.ext_iff, eq_comm]

theorem Drive.setReservation_chan_at (d : Drive) (e : Env) (c c' : Ch) (r : Nat) :
    (d.setReservation e c r).chans[c'] = if c' = c then { d.chans[c] with reservation := r } else d.chans[c'] :=
  Drive.modChan_at _ c c' _

theorem Drive.setReservation_feed_at (d : Drive) (e : Env) (c : Ch) (r : Nat) (f : Fin 3) :
    (d.setReservation e c r).feeds[f] =
      if f = e.feedOf c then
        { d.feeds[f] with committed := d.feeds[f].committed + r - d.chans[c].reservation }
      else d.feeds[f] := by
  simp only [Drive.setReservation, Drive.modChan_feeds, Drive.modFeed_at]
  by_cases h : f = e.feedOf c <;> simp [h]

theorem Drive.leaveQueue_feed_at (d : Drive) (e : Env) (c : Ch) (f : Fin 3) :
    (d.leaveQueue e c).feeds[f] =
      if f = e.feedOf c then { d.feeds[f] with queue := d.feeds[f].queue.filter (fun x => x.ch ≠ c) }
      else d.feeds[f] := by
  refine (Drive.modFeed_at d (e.feedOf c) f _).trans ?_
  by_cases h : f = e.feedOf c <;> simp [h]

theorem Drive.joinQueue_feed_at (d : Drive) (e : Env) (x : Entry) (f : Fin 3) :
    (d.joinQueue e x).feeds[f] =
      if f = e.feedOf x.ch then
        { d.feeds[f] with queue := queueJoin (fun c => d.chans[c].rank) x d.feeds[f].queue }
      else d.feeds[f] := by
  refine (Drive.modFeed_at d (e.feedOf x.ch) f _).trans ?_
  by_cases h : f = e.feedOf x.ch <;> simp [h]

/-! ### The generator and the check unit follow; nothing else does -/

theorem Drive.syncFlash_eq (d : Drive) (e : Env) : d.syncFlash e = { d with flash := (d.syncFlash e).flash } := by
  unfold Drive.syncFlash
  split <;> rfl

@[simp] theorem Drive.syncFlash_chans (d : Drive) (e : Env) : (d.syncFlash e).chans = d.chans := by
  rw [d.syncFlash_eq e]
@[simp] theorem Drive.syncFlash_pairs (d : Drive) (e : Env) : (d.syncFlash e).pairs = d.pairs := by
  rw [d.syncFlash_eq e]
@[simp] theorem Drive.syncFlash_feeds (d : Drive) (e : Env) : (d.syncFlash e).feeds = d.feeds := by
  rw [d.syncFlash_eq e]
@[simp] theorem Drive.syncFlash_check (d : Drive) (e : Env) : (d.syncFlash e).check = d.check := by
  rw [d.syncFlash_eq e]
@[simp] theorem Drive.syncFlash_notice (d : Drive) (e : Env) : (d.syncFlash e).notice = d.notice := by
  rw [d.syncFlash_eq e]

/-- The generator is RUNNING after it follows exactly when there is a member (R124). -/
theorem Drive.syncFlash_running (d : Drive) (e : Env) :
    (d.syncFlash e).flash.isSome = !d.members.isEmpty := by
  unfold Drive.syncFlash
  split <;> simp_all

theorem Drive.visitFrom_eq (d : Drive) (selection : ChSet) (start : Nat) :
    d.visitFrom selection start =
      { d with check := (d.visitFrom selection start).check, notice := (d.visitFrom selection start).notice } := by
  unfold Drive.visitFrom
  split <;> rfl

@[simp] theorem Drive.visitFrom_chans (d : Drive) (x : ChSet) (n : Nat) : (d.visitFrom x n).chans = d.chans := by
  rw [d.visitFrom_eq x n]
@[simp] theorem Drive.visitFrom_pairs (d : Drive) (x : ChSet) (n : Nat) : (d.visitFrom x n).pairs = d.pairs := by
  rw [d.visitFrom_eq x n]
@[simp] theorem Drive.visitFrom_feeds (d : Drive) (x : ChSet) (n : Nat) : (d.visitFrom x n).feeds = d.feeds := by
  rw [d.visitFrom_eq x n]
@[simp] theorem Drive.visitFrom_flash (d : Drive) (x : ChSet) (n : Nat) : (d.visitFrom x n).flash = d.flash := by
  rw [d.visitFrom_eq x n]

theorem Drive.abandonTest_eq (d : Drive) (c : Ch) :
    d.abandonTest c = { d with check := (d.abandonTest c).check, notice := (d.abandonTest c).notice } := by
  unfold Drive.abandonTest
  split
  · rfl
  · split
    · rw [Drive.visitFrom_eq]
    · rfl

@[simp] theorem Drive.abandonTest_chans (d : Drive) (c : Ch) : (d.abandonTest c).chans = d.chans := by
  rw [d.abandonTest_eq c]
@[simp] theorem Drive.abandonTest_pairs (d : Drive) (c : Ch) : (d.abandonTest c).pairs = d.pairs := by
  rw [d.abandonTest_eq c]
@[simp] theorem Drive.abandonTest_feeds (d : Drive) (c : Ch) : (d.abandonTest c).feeds = d.feeds := by
  rw [d.abandonTest_eq c]
@[simp] theorem Drive.abandonTest_flash (d : Drive) (c : Ch) : (d.abandonTest c).flash = d.flash := by
  rw [d.abandonTest_eq c]

/-! ### A channel stops being driven -/

theorem Drive.undrive_chan_at (d : Drive) (e : Env) (c c' : Ch) (target : ChanState) :
    (d.undrive e c target).chans[c'] = if c' = c then d.chans[c].stopped target else d.chans[c'] := by
  simp only [Drive.undrive, Drive.syncFlash_chans, Drive.modFeed_chans, Drive.modChan_at,
    Drive.setReservation_chan_at]
  by_cases h : c' = c <;> simp [h, Channel.stopped]

theorem Drive.undrive_feed_at (d : Drive) (e : Env) (c : Ch) (target : ChanState) (f : Fin 3) :
    (d.undrive e c target).feeds[f] =
      if f = e.feedOf c then
        { committed := d.feeds[f].committed - d.chans[c].reservation
          queue := d.feeds[f].queue.filter (fun x => x.ch ≠ c)
          admitted := d.feeds[f].admitted.filter (fun x => x ≠ c) }
      else d.feeds[f] := by
  simp only [Drive.undrive, Drive.syncFlash_feeds, Drive.modFeed_at, Drive.modChan_feeds,
    Drive.setReservation_feed_at]
  by_cases h : f = e.feedOf c <;> simp [h]

@[simp] theorem Drive.undrive_pairs (d : Drive) (e : Env) (c : Ch) (x : ChanState) :
    (d.undrive e c x).pairs = d.pairs := by simp [Drive.undrive]
@[simp] theorem Drive.undrive_check (d : Drive) (e : Env) (c : Ch) (x : ChanState) :
    (d.undrive e c x).check = d.check := by simp [Drive.undrive]
@[simp] theorem Drive.undrive_notice (d : Drive) (e : Env) (c : Ch) (x : ChanState) :
    (d.undrive e c x).notice = d.notice := by simp [Drive.undrive]

theorem Drive.releasePair_eq (d : Drive) (e : Env) (c : Ch) :
    d.releasePair e c = { d with pairs := (d.releasePair e c).pairs } := by
  unfold Drive.releasePair
  split
  · rfl
  · split <;> rfl

@[simp] theorem Drive.releasePair_chans (d : Drive) (e : Env) (c : Ch) : (d.releasePair e c).chans = d.chans := by
  rw [d.releasePair_eq e c]
@[simp] theorem Drive.releasePair_feeds (d : Drive) (e : Env) (c : Ch) : (d.releasePair e c).feeds = d.feeds := by
  rw [d.releasePair_eq e c]
@[simp] theorem Drive.releasePair_flash (d : Drive) (e : Env) (c : Ch) : (d.releasePair e c).flash = d.flash := by
  rw [d.releasePair_eq e c]
@[simp] theorem Drive.releasePair_check (d : Drive) (e : Env) (c : Ch) : (d.releasePair e c).check = d.check := by
  rw [d.releasePair_eq e c]
@[simp] theorem Drive.releasePair_notice (d : Drive) (e : Env) (c : Ch) :
    (d.releasePair e c).notice = d.notice := by
  rw [d.releasePair_eq e c]

/-! ### A shed -/

theorem Drive.shed_chan_at (d : Drive) (e : Env) (c c' : Ch) (cause : ShedCause) :
    (d.shed e c cause).chans[c'] =
      if c' = c then { d.chans[c].stopped (.waiting .budget) with lastShed := some cause } else d.chans[c'] := by
  simp only [Drive.shed, Drive.noteChanged_chans, Drive.joinQueue_chans, Drive.modChan_at, Drive.undrive_chan_at]
  by_cases h : c' = c <;> simp [h]

/-- A shed leaves every class as it was. -/
theorem Drive.shed_rank (d : Drive) (e : Env) (c c' : Ch) (cause : ShedCause) :
    (d.shed e c cause).chans[c'].rank = d.chans[c'].rank := by
  rw [Drive.shed_chan_at]
  by_cases h : c' = c <;> simp [h, Channel.stopped, Channel.rank]

theorem Drive.shed_feed_at (d : Drive) (e : Env) (c : Ch) (cause : ShedCause) (f : Fin 3) :
    (d.shed e c cause).feeds[f] =
      if f = e.feedOf c then
        { committed := d.feeds[f].committed - d.chans[c].reservation
          queue := queueJoin (fun c => d.chans[c].rank) ⟨c, .fresh⟩
            (d.feeds[f].queue.filter (fun x => x.ch ≠ c))
          admitted := d.feeds[f].admitted.filter (fun x => x ≠ c) }
      else d.feeds[f] := by
  have hr : (fun y : Ch => ((d.undrive e c (.waiting .budget)).modChan c
      (fun x => { x with lastShed := some cause })).chans[y].rank) = fun y => d.chans[y].rank := by
    funext y
    rw [Drive.modChan_at, Drive.undrive_chan_at, Drive.undrive_chan_at]
    by_cases h : y = c <;> simp [h, Channel.stopped, Channel.rank]
  simp only [Drive.shed, Drive.noteChanged_feeds, Drive.joinQueue_feed_at, Drive.modChan_feeds,
    Drive.undrive_feed_at, hr]
  by_cases h : f = e.feedOf c <;> simp [h]

@[simp] theorem Drive.shed_pairs (d : Drive) (e : Env) (c : Ch) (x : ShedCause) :
    (d.shed e c x).pairs = d.pairs := by simp [Drive.shed]
@[simp] theorem Drive.shed_check (d : Drive) (e : Env) (c : Ch) (x : ShedCause) :
    (d.shed e c x).check = d.check := by simp [Drive.shed]

/-! ### Admissions -/

theorem Drive.enterOn_chan_at (d : Drive) (e : Env) (c c' : Ch) :
    (d.enterOn e c).chans[c'] =
      if c' = c then
        { d.chans[c].apply (levelToApply (e.cfg c) d.chans[c].wanted) with
          state := .on, inrushTimer := none, cleanTimer := some 10000, openCount := 0, openFlag := false
          reservation := steadyReservation (e.cfg c) (levelToApply (e.cfg c) d.chans[c].wanted) }
      else d.chans[c'] := by
  simp only [Drive.enterOn, Drive.syncFlash_chans, Drive.setReservation_chan_at, Drive.modChan_at]
  by_cases h : c' = c <;> simp [h, cleanRun]

theorem Drive.enterOn_feed_at (d : Drive) (e : Env) (c : Ch) (f : Fin 3) :
    (d.enterOn e c).feeds[f] =
      if f = e.feedOf c then
        { d.feeds[f] with committed := d.feeds[f].committed +
            steadyReservation (e.cfg c) (levelToApply (e.cfg c) d.chans[c].wanted) - d.chans[c].reservation }
      else d.feeds[f] := by
  simp only [Drive.enterOn, Drive.syncFlash_feeds, Drive.setReservation_feed_at, Drive.modChan_feeds,
    Drive.modChan_at]
  by_cases h : f = e.feedOf c <;> simp [h]

@[simp] theorem Drive.enterOn_pairs (d : Drive) (e : Env) (c : Ch) : (d.enterOn e c).pairs = d.pairs := by
  simp [Drive.enterOn]
@[simp] theorem Drive.enterOn_check (d : Drive) (e : Env) (c : Ch) : (d.enterOn e c).check = d.check := by
  simp [Drive.enterOn]
@[simp] theorem Drive.enterOn_notice (d : Drive) (e : Env) (c : Ch) : (d.enterOn e c).notice = d.notice := by
  simp [Drive.enterOn]

/-- A channel that an admitted fresh entry takes to INRUSH (R58). -/
def Channel.admitted (x : Channel) (cfg : ChannelConfig) : Channel :=
  { x with state := .inrush, applied := levelToApply cfg x.wanted, pwmSettled := false,
           inrushTimer := some (cfg.inrushWindow * 10), reservation := inrushReservation cfg,
           stallTimer := stallReload cfg }

/-- A channel that passes straight to ON, its inrush window being 0 (R58). -/
def Channel.admittedOn (x : Channel) (cfg : ChannelConfig) : Channel :=
  { x with state := .on, applied := levelToApply cfg x.wanted, pwmSettled := false, inrushTimer := none,
           cleanTimer := some 10000, openCount := 0, openFlag := false, stallTimer := stallReload cfg
           reservation := steadyReservation cfg (levelToApply cfg x.wanted) }

theorem Drive.admitFresh_chan_at (d : Drive) (e : Env) (c c' : Ch) :
    (d.admitFresh e c).chans[c'] =
      if c' = c then
        if (e.cfg c).inrushWindow = 0 then d.chans[c].admittedOn (e.cfg c) else d.chans[c].admitted (e.cfg c)
      else d.chans[c'] := by
  simp only [Drive.admitFresh]
  by_cases hw : (e.cfg c).inrushWindow = 0
  · simp only [hw, if_true, Drive.enterOn_chan_at, Drive.abandonTest_chans, Drive.syncFlash_chans,
      Drive.setReservation_chan_at, Drive.modChan_at, Drive.modFeed_chans, Drive.leaveQueue_chans]
    by_cases h : c' = c <;> simp [h, Channel.admittedOn, Channel.apply]
  · simp only [hw, if_false, Drive.abandonTest_chans, Drive.syncFlash_chans,
      Drive.setReservation_chan_at, Drive.modChan_at, Drive.modFeed_chans, Drive.leaveQueue_chans]
    by_cases h : c' = c <;> simp [h, Channel.admitted]

theorem Drive.admitFresh_feed_at (d : Drive) (e : Env) (c : Ch) (f : Fin 3) :
    (d.admitFresh e c).feeds[f] =
      if f = e.feedOf c then
        { committed :=
            if (e.cfg c).inrushWindow = 0 then
              d.feeds[f].committed + inrushReservation (e.cfg c) - d.chans[c].reservation +
                steadyReservation (e.cfg c) (levelToApply (e.cfg c) d.chans[c].wanted) - inrushReservation (e.cfg c)
            else d.feeds[f].committed + inrushReservation (e.cfg c) - d.chans[c].reservation
          queue := d.feeds[f].queue.filter (fun x => x.ch ≠ c)
          admitted := d.feeds[f].admitted ++ [c] }
      else d.feeds[f] := by
  simp only [Drive.admitFresh]
  by_cases hw : (e.cfg c).inrushWindow = 0
  · simp only [hw, if_true, Drive.enterOn_feed_at, Drive.abandonTest_feeds, Drive.abandonTest_chans,
      Drive.syncFlash_feeds, Drive.syncFlash_chans, Drive.setReservation_feed_at, Drive.setReservation_chan_at,
      Drive.modChan_at, Drive.modChan_feeds, Drive.modFeed_chans, Drive.modFeed_at, Drive.leaveQueue_chans,
      Drive.leaveQueue_feed_at]
    by_cases h : f = e.feedOf c <;> simp [h]
  · simp only [hw, if_false, Drive.abandonTest_feeds, Drive.syncFlash_feeds, Drive.setReservation_feed_at,
      Drive.modChan_at, Drive.modChan_feeds, Drive.modFeed_chans, Drive.modFeed_at, Drive.leaveQueue_chans,
      Drive.leaveQueue_feed_at]
    by_cases h : f = e.feedOf c <;> simp [h]

@[simp] theorem Drive.admitFresh_pairs (d : Drive) (e : Env) (c : Ch) : (d.admitFresh e c).pairs = d.pairs := by
  unfold Drive.admitFresh
  simp only
  split <;> simp

theorem Drive.admitUpgrade_chan_at (d : Drive) (e : Env) (c c' : Ch) :
    (d.admitUpgrade e c).chans[c'] =
      if c' = c then
        { d.chans[c].apply (levelToApply (e.cfg c) d.chans[c].wanted) with
          upgrade := false, reservation := d.chans[c].reservation + d.needed e ⟨c, .upgrade⟩ }
      else d.chans[c'] := by
  simp only [Drive.admitUpgrade, Drive.syncFlash_chans, Drive.setReservation_chan_at, Drive.modChan_at,
    Drive.leaveQueue_chans]
  by_cases h : c' = c <;> simp [h]

theorem Drive.admitUpgrade_feed_at (d : Drive) (e : Env) (c : Ch) (f : Fin 3) :
    (d.admitUpgrade e c).feeds[f] =
      if f = e.feedOf c then
        { d.feeds[f] with
          committed := d.feeds[f].committed + (d.chans[c].reservation + d.needed e ⟨c, .upgrade⟩)
            - d.chans[c].reservation
          queue := d.feeds[f].queue.filter (fun x => x.ch ≠ c) }
      else d.feeds[f] := by
  simp only [Drive.admitUpgrade, Drive.syncFlash_feeds, Drive.setReservation_feed_at, Drive.modChan_at,
    Drive.modChan_feeds, Drive.leaveQueue_chans, Drive.leaveQueue_feed_at]
  by_cases h : f = e.feedOf c <;> simp [h]

@[simp] theorem Drive.admitUpgrade_pairs (d : Drive) (e : Env) (c : Ch) :
    (d.admitUpgrade e c).pairs = d.pairs := by simp [Drive.admitUpgrade]
@[simp] theorem Drive.admitUpgrade_check (d : Drive) (e : Env) (c : Ch) :
    (d.admitUpgrade e c).check = d.check := by simp [Drive.admitUpgrade]
@[simp] theorem Drive.admitUpgrade_notice (d : Drive) (e : Env) (c : Ch) :
    (d.admitUpgrade e c).notice = d.notice := by simp [Drive.admitUpgrade]

/-- An admission changes its own channel's record alone. -/
theorem Drive.letIn_chan_ne (d : Drive) (e : Env) (x : Entry) {c : Ch} (h : c ≠ x.ch) :
    (d.letIn e x).chans[c] = d.chans[c] := by
  unfold Drive.letIn
  split
  · rw [Drive.admitFresh_chan_at, if_neg h]
  · rw [Drive.admitUpgrade_chan_at, if_neg h]

@[simp] theorem Drive.letIn_pairs (d : Drive) (e : Env) (x : Entry) : (d.letIn e x).pairs = d.pairs := by
  unfold Drive.letIn
  split <;> simp

/-- An admission changes no feed but that of its channel. -/
theorem Drive.letIn_feed_ne (d : Drive) (e : Env) (x : Entry) {f : Fin 3} (h : f ≠ e.feedOf x.ch) :
    (d.letIn e x).feeds[f] = d.feeds[f] := by
  unfold Drive.letIn
  split
  · rw [Drive.admitFresh_feed_at, if_neg h]
  · rw [Drive.admitUpgrade_feed_at, if_neg h]

/-- What no admission changes at any channel: what is wanted, the class, the retries and faults, the cooling flag, the
last-shed cause and the retry timer. -/
theorem Drive.letIn_keeps (d : Drive) (e : Env) (x : Entry) (c : Ch) :
    (d.letIn e x).chans[c].wanted = d.chans[c].wanted ∧ (d.letIn e x).chans[c].cls = d.chans[c].cls ∧
    (d.letIn e x).chans[c].retries = d.chans[c].retries ∧ (d.letIn e x).chans[c].lastFault = d.chans[c].lastFault ∧
    (d.letIn e x).chans[c].cooling = d.chans[c].cooling ∧ (d.letIn e x).chans[c].lastShed = d.chans[c].lastShed ∧
    (d.letIn e x).chans[c].retryTimer = d.chans[c].retryTimer := by
  by_cases h : c = x.ch
  · subst h
    unfold Drive.letIn
    split
    · rw [Drive.admitFresh_chan_at, if_pos rfl]
      split <;> simp [Channel.admitted, Channel.admittedOn]
    · rw [Drive.admitUpgrade_chan_at, if_pos rfl]
      simp
  · rw [Drive.letIn_chan_ne d e x h]
    simp

end Sys2Proof.Machine
end

