-- ==== Sys2Proof/Laws/Admission.lean ====
section
/-!
SUPPORT. What an admission pass and a lowered budget can do: a property that every shed of an admitted channel and every
admission of a queued entry that fits keep is kept by the whole (R107 to R110, R113). From it, what passes leave alone.
-/

namespace Sys2Proof.Machine

/-! ### Victims -/

/-- The victim stands on the list it is taken from. -/
theorem lastOfLowest_mem {rank : Ch → Nat} {l : List Ch} {v : Ch} (h : lastOfLowest rank l = some v) : v ∈ l := by
  have key : ∀ (l : List Ch) (best : Option Ch),
      l.foldl (fun best c => match best with
        | none => some c
        | some b => if rank c ≤ rank b then some c else some b) best = some v → v ∈ l ∨ best = some v := by
    intro l
    induction l with
    | nil => intro best hb; exact .inr hb
    | cons c l ih =>
      intro best hb
      rcases ih _ hb with h1 | h1
      · exact .inl (List.mem_cons_of_mem _ h1)
      · cases best with
        | none => exact .inl (by simp at h1; simp [h1])
        | some b =>
          simp only at h1
          split at h1
          · exact .inl (by simp at h1; simp [h1])
          · exact .inr h1
  rcases key l none h with h | h
  · exact h
  · cases h

/-- There is a victim wherever the list is not empty. -/
theorem lastOfLowest_isSome {rank : Ch → Nat} {l : List Ch} (h : l ≠ []) : (lastOfLowest rank l).isSome = true := by
  have key : ∀ (l : List Ch) (b : Ch),
      (l.foldl (fun best c => match best with
        | none => some c
        | some b => if rank c ≤ rank b then some c else some b) (some b)).isSome = true := by
    intro l
    induction l with
    | nil => intro b; rfl
    | cons c l ih => intro b; simp only [List.foldl_cons]; split <;> exact ih _
  cases l with
  | nil => exact absurd rfl h
  | cons c l => exact key l c

/-- A queue after a join holds the entry that joined and what it held before. -/
theorem mem_queueJoin {rank : Ch → Nat} {x y : Entry} {q : List Entry} :
    y ∈ queueJoin rank x q ↔ y = x ∨ y ∈ q := by
  have h := List.takeWhile_append_dropWhile (p := fun y : Entry => decide (rank x.ch ≤ rank y.ch)) (l := q)
  constructor
  · intro hy
    simp only [queueJoin, List.mem_append, List.mem_cons] at hy
    rw [← h]
    rcases hy with hy | hy | hy
    · exact .inr (List.mem_append_left _ hy)
    · exact .inl hy
    · exact .inr (List.mem_append_right _ hy)
  · intro hy
    simp only [queueJoin, List.mem_append, List.mem_cons]
    rcases hy with hy | hy
    · exact .inr (.inl hy)
    · rw [← h] at hy
      rcases List.mem_append.1 hy with hy | hy
      · exact .inl hy
      · exact .inr (.inr hy)

/-- A join stands behind every entry of its class or a higher one and ahead of the rest (R104). -/
theorem joinedInClass (rank : Ch → Nat) (x : Entry) (q : List Entry) : JoinedInClass rank x q (queueJoin rank x q) := by
  refine ⟨_, _, (List.takeWhile_append_dropWhile (p := fun y : Entry => decide (rank x.ch ≤ rank y.ch))).symm, rfl,
    fun y hy => ?_, fun y hy => ?_⟩
  · simpa using List.mem_takeWhile_imp hy
  · have := List.head?_dropWhile_not (fun y : Entry => decide (rank x.ch ≤ rank y.ch)) q
    rw [hy] at this
    simpa using this

/-! ### Induction over the sheds and the admissions of a pass -/

/-- A shed for an entry leaves that entry in the queue, the victim being of a lower class. -/
theorem Drive.mem_queue_shed {d : Drive} {e : Env} {f : Fin 3} {v : Ch} {x : Entry} (cause : ShedCause)
    (hx : x ∈ d.feeds[f].queue) (hv : d.chans[v].rank < d.chans[x.ch].rank) :
    x ∈ (d.shed e v cause).feeds[f].queue := by
  rw [Drive.shed_feed_at]
  split
  · have hne : x.ch ≠ v := by
      rintro rfl
      exact Nat.lt_irrefl _ hv
    dsimp only
    refine mem_queueJoin.2 (.inr ?_)
    exact List.mem_filter.2 ⟨hx, by simpa using hne⟩
  · exact hx

/-- The need of an entry is computed from the settings and its own channel (R102). -/
theorem Drive.needed_congr {d d' : Drive} {e : Env} {x : Entry} (h : d'.chans[x.ch] = d.chans[x.ch]) :
    d'.needed e x = d.needed e x := by
  simp only [Drive.needed, h]

/-- What every shed for an entry keeps, all the sheds for it keep; the entry stays in the queue and its class as it was
(R108). -/
theorem Drive.shedFor_induct {P : Drive → Prop} {e : Env} {f : Fin 3} {x : Entry} {need bound : Nat}
    (hs : ∀ (d : Drive) (v : Ch), P d → v ∈ d.feeds[f].admitted → x ∈ d.feeds[f].queue →
      d.chans[v].rank < d.chans[x.ch].rank → d.free e f < need → P (d.shed e v .budget)) :
    ∀ (fuel : Nat) (d : Drive), P d ∧ x ∈ d.feeds[f].queue ∧ d.chans[x.ch].rank = bound →
      P (Drive.shedFor e f bound need fuel d) ∧ x ∈ (Drive.shedFor e f bound need fuel d).feeds[f].queue ∧
      (Drive.shedFor e f bound need fuel d).chans[x.ch].rank = bound := by
  have key : ∀ (Q : Drive → Prop), (∀ d, Q d ↔ P d ∧ x ∈ d.feeds[f].queue ∧ d.chans[x.ch].rank = bound) →
      ∀ (fuel : Nat) (d : Drive), Q d → Q (Drive.shedFor e f bound need fuel d) := by
    intro Q hQ fuel
    induction fuel with
    | zero => intro d hd; exact hd
    | succ n ih =>
      intro d hd
      unfold Drive.shedFor
      split
      · exact hd
      · rename_i hfree
        split
        · exact hd
        · rename_i v hv
          obtain ⟨hp, hx, hb⟩ := (hQ d).1 hd
          have hm := lastOfLowest_mem hv
          simp only [Drive.below, List.mem_filter, decide_eq_true_eq] at hm
          have hlt : d.chans[v].rank < d.chans[x.ch].rank := by rw [hb]; exact hm.2
          refine ih _ ((hQ _).2 ⟨hs d v hp hm.1 hx hlt (by omega), Drive.mem_queue_shed .budget hx hlt, ?_⟩)
          rw [Drive.shed_rank]
          exact hb
  exact key _ (fun _ => Iff.rfl)

/-- What every shed of a channel of a lower class than some entry, and every admission of an entry that the supply test
passes and that fits, keep, a visit keeps. -/
theorem Drive.visit_induct {P : Drive → Prop} {e : Env} {f : Fin 3}
    (hs : ∀ (d : Drive) (v : Ch) (x : Entry), P d → v ∈ d.feeds[f].admitted → x ∈ d.feeds[f].queue →
      d.chans[v].rank < d.chans[x.ch].rank → P (d.shed e v .budget))
    (ha : ∀ (d : Drive) (x : Entry), P d → x ∈ d.feeds[f].queue → (e.low = true → 2 ≤ d.chans[x.ch].rank) →
      (d.needed e x ≤ d.free e f) → P (d.letIn e x))
    (d : Drive) (hd : P d) (x : Entry) (hx : x ∈ d.feeds[f].queue) : P (d.visit e f x) := by
  unfold Drive.visit
  simp only
  split
  · exact hd
  · rename_i hlow
    have hlow' : e.low = true → 2 ≤ d.chans[x.ch].rank := fun h => by
      by_contra hc
      exact hlow ⟨h, by omega⟩
    split
    · rename_i hfit
      exact ha d x hd hx hlow' hfit
    · split
      · have key := Drive.shedFor_induct
          (P := fun d' => P d' ∧ d'.chans[x.ch] = d.chans[x.ch]) (e := e) (f := f) (x := x)
          (need := d.needed e x) (bound := d.chans[x.ch].rank)
          (fun d' v hd' hv hx' hlt _ => ⟨hs d' v x hd'.1 hv hx' hlt, by
            have hne : x.ch ≠ v := by
              rintro rfl
              exact Nat.lt_irrefl _ hlt
            rw [Drive.shed_chan_at, if_neg hne]
            exact hd'.2⟩)
          d.feeds[f].admitted.length d ⟨⟨hd, rfl⟩, hx, rfl⟩
        obtain ⟨⟨hP, hch⟩, hq, hr⟩ := key
        split
        · rename_i hfit
          refine ha _ x hP hq (fun h => by rw [hr]; exact hlow' h) ?_
          rw [Drive.needed_congr hch]
          exact hfit
        · exact hP
      · exact hd

/-- The same of a whole pass (R107). -/
theorem Drive.pass_induct {P : Drive → Prop} {e : Env} {f : Fin 3}
    (hs : ∀ (d : Drive) (v : Ch) (x : Entry), P d → v ∈ d.feeds[f].admitted → x ∈ d.feeds[f].queue →
      d.chans[v].rank < d.chans[x.ch].rank → P (d.shed e v .budget))
    (ha : ∀ (d : Drive) (x : Entry), P d → x ∈ d.feeds[f].queue → (e.low = true → 2 ≤ d.chans[x.ch].rank) →
      (d.needed e x ≤ d.free e f) → P (d.letIn e x))
    (d : Drive) (hd : P d) : P (d.pass e f) := by
  have key : ∀ (fuel : Nat) (seen : List Ch) (d : Drive), P d → P (Drive.passLoop e f fuel seen d) := by
    intro fuel
    induction fuel with
    | zero => intro _ d hd; exact hd
    | succ n ih =>
      intro seen d hd
      unfold Drive.passLoop
      split
      · exact hd
      · rename_i x hx
        exact ih _ _ (Drive.visit_induct hs ha d hd x (List.mem_of_find?_eq_some hx))
  exact key 16 [] d hd

/-- What every pass keeps, passes on several feeds keep. -/
theorem Drive.passes_induct {P : Drive → Prop} {e : Env} (hp : ∀ (d : Drive) (f : Fin 3), P d → P (d.pass e f))
    (due : List (Fin 3)) (d : Drive) (hd : P d) : P (d.passes e due) := by
  have key : ∀ (l : List (Fin 3)) (d : Drive), P d →
      P (l.foldl (fun d f => if due.contains f then d.pass e f else d) d) := by
    intro l
    induction l with
    | nil => intro d hd; exact hd
    | cons f l ih =>
      intro d hd
      refine ih _ ?_
      dsimp only
      split
      · exact hp d f hd
      · exact hd
  exact key allFeeds d hd

theorem Drive.passIf_induct {P : Drive → Prop} {e : Env} (hp : ∀ (d : Drive) (f : Fin 3), P d → P (d.pass e f))
    (c : Ch) (r : Drive × Bool) (hr : P r.1) : P (Drive.passIf e c r) := by
  unfold Drive.passIf
  split
  · exact hp _ _ hr
  · exact hr

/-- What every shed of an admitted channel keeps, the shedding of a lowered budget keeps (R113). -/
theorem Drive.shedDown_induct {P : Drive → Prop} {e : Env} {f : Fin 3}
    (hs : ∀ (d : Drive) (v : Ch), P d → v ∈ d.feeds[f].admitted → P (d.shed e v .budget)) :
    ∀ (fuel : Nat) (d : Drive), P d → P (Drive.shedDown e f fuel d) := by
  intro fuel
  induction fuel with
  | zero => intro d hd; exact hd
  | succ n ih =>
    intro d hd
    unfold Drive.shedDown
    split
    · exact hd
    · split
      · exact hd
      · rename_i v hv
        exact ih _ (hs d v hd (lastOfLowest_mem hv))

/-- A pass that finds the queue empty does nothing (R106). -/
theorem Drive.pass_empty {d : Drive} {e : Env} {f : Fin 3} (h : d.feeds[f].queue = []) : d.pass e f = d := by
  unfold Drive.pass Drive.passLoop
  rw [h]
  rfl

/-! ### What passes leave alone -/

/-- A part of the drive side that no shed and no admission changes, no pass changes. -/
theorem Drive.pass_keeps {α : Type} (g : Drive → α) (hs : ∀ d e v, g (Drive.shed d e v .budget) = g d)
    (ha : ∀ d e x, g (Drive.letIn d e x) = g d) (d : Drive) (e : Env) (f : Fin 3) : g (d.pass e f) = g d :=
  Drive.pass_induct (P := fun d' => g d' = g d) (fun d' v _ hd _ _ _ => (hs d' e v).trans hd)
    (fun d' x hd _ _ _ => (ha d' e x).trans hd) d rfl

@[simp] theorem Drive.pass_pairs (d : Drive) (e : Env) (f : Fin 3) : (d.pass e f).pairs = d.pairs :=
  Drive.pass_keeps Drive.pairs (fun d e v => d.shed_pairs e v .budget) Drive.letIn_pairs d e f

theorem Drive.pass_wanted (d : Drive) (e : Env) (f : Fin 3) (c : Ch) :
    (d.pass e f).chans[c].wanted = d.chans[c].wanted :=
  Drive.pass_keeps (fun d => d.chans[c].wanted)
    (fun d e v => by simp only [Drive.shed_chan_at]; split <;> simp_all [Channel.stopped])
    (fun d e x => (d.letIn_keeps e x c).1) d e f

theorem Drive.pass_cls (d : Drive) (e : Env) (f : Fin 3) (c : Ch) : (d.pass e f).chans[c].cls = d.chans[c].cls :=
  Drive.pass_keeps (fun d => d.chans[c].cls)
    (fun d e v => by simp only [Drive.shed_chan_at]; split <;> simp_all [Channel.stopped])
    (fun d e x => (d.letIn_keeps e x c).2.1) d e f

theorem Drive.pass_rank (d : Drive) (e : Env) (f : Fin 3) (c : Ch) : (d.pass e f).chans[c].rank = d.chans[c].rank := by
  unfold Channel.rank
  rw [Drive.pass_cls]

theorem Drive.pass_retries (d : Drive) (e : Env) (f : Fin 3) (c : Ch) :
    (d.pass e f).chans[c].retries = d.chans[c].retries :=
  Drive.pass_keeps (fun d => d.chans[c].retries)
    (fun d e v => by simp only [Drive.shed_chan_at]; split <;> simp_all [Channel.stopped])
    (fun d e x => (d.letIn_keeps e x c).2.2.1) d e f

theorem Drive.pass_lastFault (d : Drive) (e : Env) (f : Fin 3) (c : Ch) :
    (d.pass e f).chans[c].lastFault = d.chans[c].lastFault :=
  Drive.pass_keeps (fun d => d.chans[c].lastFault)
    (fun d e v => by simp only [Drive.shed_chan_at]; split <;> simp_all [Channel.stopped])
    (fun d e x => (d.letIn_keeps e x c).2.2.2.1) d e f

theorem Drive.pass_cooling (d : Drive) (e : Env) (f : Fin 3) (c : Ch) :
    (d.pass e f).chans[c].cooling = d.chans[c].cooling :=
  Drive.pass_keeps (fun d => d.chans[c].cooling)
    (fun d e v => by simp only [Drive.shed_chan_at]; split <;> simp_all [Channel.stopped])
    (fun d e x => (d.letIn_keeps e x c).2.2.2.2.1) d e f

/-- A channel that stands neither in the queue nor on the admitted list of a feed is left as it is by the feed's pass.
-/
theorem Drive.pass_chan_outside {d : Drive} {e : Env} {f : Fin 3} {c : Ch} (hq : ∀ x ∈ d.feeds[f].queue, x.ch ≠ c)
    (hl : c ∉ d.feeds[f].admitted) : (d.pass e f).chans[c] = d.chans[c] := by
  have h := Drive.pass_induct (e := e) (f := f)
    (P := fun d' => d'.chans[c] = d.chans[c] ∧ (∀ x ∈ d'.feeds[f].queue, x.ch ≠ c) ∧ c ∉ d'.feeds[f].admitted)
    (fun d' v _ hd hv _ _ => by
      obtain ⟨h1, h2, h3⟩ := hd
      have hvc : c ≠ v := fun e => h3 (e ▸ hv)
      refine ⟨by rw [Drive.shed_chan_at, if_neg hvc, h1], fun x hx => ?_, fun hc => ?_⟩
      · rw [Drive.shed_feed_at] at hx
        split at hx
        · dsimp only at hx
          rcases mem_queueJoin.1 hx with hx | hx
          · subst hx; exact fun h => hvc h.symm
          · exact h2 x (List.mem_filter.1 hx).1
        · exact h2 x hx
      · rw [Drive.shed_feed_at] at hc
        split at hc
        · exact h3 (List.mem_filter.1 hc).1
        · exact h3 hc)
    (fun d' x hd hx _ _ => by
      obtain ⟨h1, h2, h3⟩ := hd
      have hxc : c ≠ x.ch := fun e => h2 x hx e.symm
      refine ⟨by rw [Drive.letIn_chan_ne d' e x hxc, h1], fun y hy => ?_, fun hc => ?_⟩
      · unfold Drive.letIn at hy
        split at hy
        · rw [Drive.admitFresh_feed_at] at hy
          split at hy
          · exact h2 y (List.mem_filter.1 hy).1
          · exact h2 y hy
        · rw [Drive.admitUpgrade_feed_at] at hy
          split at hy
          · exact h2 y (List.mem_filter.1 hy).1
          · exact h2 y hy
      · unfold Drive.letIn at hc
        split at hc
        · rw [Drive.admitFresh_feed_at] at hc
          split at hc
          · rcases List.mem_append.1 hc with hc | hc
            · exact h3 hc
            · exact hxc (List.mem_singleton.1 hc)
          · exact h3 hc
        · rw [Drive.admitUpgrade_feed_at] at hc
          split at hc
          · exact h3 hc
          · exact h3 hc)
    d ⟨rfl, hq, hl⟩
  exact h.1

end Sys2Proof.Machine
end

