-- ==== Sys2Proof/Laws/Operands.lean ====
section
/-!
SUPPORT. The operand forms of requests: which byte names which number, the level a parameter names, and the clamps and
value checks of PLACE and AMEND against R10 and R11 as Safety.lean states them.
-/

namespace Sys2Proof.Machine

/-- A byte below the bound names that number. -/
theorem numOf_of_lt {n : Nat} {b : Byte} (i : Fin n) (h : b.toNat = i.val) : numOf n b = some i := by
  unfold numOf; split
  · congr 1; ext; exact h
  · omega

/-- A byte from the bound on names none. -/
theorem numOf_of_ge {n : Nat} {b : Byte} (h : n ≤ b.toNat) : numOf n b = none := by
  unfold numOf; split
  · omega
  · rfl

/-- A header that passed the link's checks names the slot its digit says (R150). -/
theorem State.Accepts.slotOf_val {s : State} {h : Header} (a : s.Accepts h) : (slotOf h).val = h.slot.toNat := by
  have := a.slot
  simp [slotOf]
  omega

theorem State.Accepts.slotOf_eq_zero {s : State} {h : Header} (a : s.Accepts h) : slotOf h = 0 ↔ h.slot = 0#4 := by
  constructor
  · intro e
    have := State.Accepts.slotOf_val a
    rw [e] at this
    exact BitVec.eq_of_toNat_eq (by simpa using this.symm)
  · intro e
    simp [slotOf, e]

/-- The level that mode and duty name is the one left after the clamp, but for an undefined mode, a DIM duty of 0 and
one above 63 (R9, R11). -/
theorem exactLevel_eq (p : LevelParam) : exactLevel p =
    if 3 < p.mode.toNat ∨ (p.mode = 3#8 ∧ (p.duty = 0#8 ∨ 64 ≤ p.duty.toNat)) then none
    else some (levelAfterClamp p) := by
  obtain ⟨m, d⟩ := p
  have : ∀ m : Byte, m = 0#8 ∨ m = 1#8 ∨ m = 2#8 ∨ m = 3#8 ∨ 3 < m.toNat := by
    intro m
    have := m.isLt
    rcases m with ⟨⟨v, hv⟩⟩
    simp [← BitVec.toNat_inj]
    omega
  simp only [exactLevel, levelAfterClamp]
  rcases this m with h | h | h | h | h
  · simp [h]
  · simp [h]
  · simp [h]
  · simp only [h]
    by_cases h64 : d.toNat < 64
    · by_cases h0 : d = 0#8
      · simp [h0]
      · have : d.toNat ≠ 0 := fun e => h0 (BitVec.eq_of_toNat_eq (by simpa using e))
        simp [h64, h0, this]
        simp [Nat.not_le.2 h64]
        ext
        simp [Nat.mod_eq_of_lt h64]
    · simp [h64, Nat.not_lt.1 h64]
  · have h0 : m ≠ 0#8 := by rintro rfl; simp at h
    have h1 : m ≠ 1#8 := by rintro rfl; simp at h
    have h2 : m ≠ 2#8 := by rintro rfl; simp at h
    have h3 : m ≠ 3#8 := by rintro rfl; simp at h
    simp [h0, h1, h2, h3, h]

theorem clsOf_eq (b : Byte) : clsOf b = if h : b.toNat < 4 then some ⟨b.toNat, h⟩ else none := rfl

/-- The clamps of R10 and the value checks of R11, on the clamped values, say what `BadDemand` says. -/
theorem checkDemand_clampDemand (cfg : ChannelConfig) (ceiling : Cls) (p : LevelParam) (cls : Byte) (hold : Word16) :
    (BadDemand cfg ceiling p cls hold → checkDemand cfg (clampDemand ceiling p cls hold) = none) ∧
    (¬ BadDemand cfg ceiling p cls hold →
      checkDemand cfg (clampDemand ceiling p cls hold) = some (levelAfterClamp p, classAfterClamp ceiling cls) ∧
      (clampDemand ceiling p cls hold).hold = min 3000 hold.toNat ∧
      (clampDemand ceiling p cls hold).flags = clampFlags ceiling p cls hold) := by
  have hh : (min maxHold hold.toNat = 0) ↔ hold = 0#16 := by
    simp [maxHold, ← BitVec.toNat_inj]
  have hl : (if dutyTooLarge p = true then some Level.steady else exactLevel p) =
      if 3 < p.mode.toNat ∨ (p.mode = 3#8 ∧ p.duty = 0#8) then none else some (levelAfterClamp p) := by
    rw [exactLevel_eq]
    by_cases hd : dutyTooLarge p = true
    · simp [dutyTooLarge] at hd
      have : p.duty ≠ 0#8 := by intro e; simp [e] at hd
      simp [dutyTooLarge, hd, levelAfterClamp, this]
    · simp only [hd]
      simp [dutyTooLarge] at hd
      by_cases h3 : p.mode = 3#8
      · have := hd h3
        have h64 : ¬ 64 ≤ p.duty.toNat := by omega
        simp [h3, h64]
      · simp [h3]
  constructor
  · intro hb
    simp only [checkDemand, clampDemand, hl, hh, clsOf_eq]
    by_cases h1 : 3 < p.mode.toNat ∨ (p.mode = 3#8 ∧ p.duty = 0#8)
    · simp [h1]
    · simp only [h1, if_false]
      by_cases h2 : cls.toNat < 4
      · simp only [h2, dite_true, Option.map_some]
        rcases hb with hb | hb | hb | hb | hb
        · exact absurd (.inl hb) h1
        · omega
        · exact absurd (.inr hb) h1
        · have : levelAfterClamp p = .flash := by simp [levelAfterClamp, hb.1]
          have : flashRefused cfg (levelAfterClamp p) = true := by
            rw [this]
            simp [flashRefused]
            rcases hb.2 with h | h <;> simp [h]
          simp [this]
        · split
          · rfl
          · rw [if_pos]
            refine ⟨hb.1, ?_⟩
            split
            all_goals
              rename_i hlt
              have := hb.2
              rw [Fin.le_def]
              rw [Fin.lt_def] at hlt
              simp at *
              omega
      · simp [h2]
  · intro hb
    simp only [BadDemand, not_or] at hb
    obtain ⟨h1, h2, h3, h4, h5⟩ := hb
    have h2' : cls.toNat < 4 := by omega
    have h13 : ¬ (3 < p.mode.toNat ∨ (p.mode = 3#8 ∧ p.duty = 0#8)) := by tauto
    refine ⟨?_, rfl, ?_⟩
    · simp only [checkDemand, clampDemand, hl, hh, clsOf_eq, h13, if_false, h2', dite_true, Option.map_some]
      have hf : flashRefused cfg (levelAfterClamp p) = false := by
        by_cases hm : p.mode = 2#8
        · have : ¬ (cfg.configured = false ∨ cfg.loadType ≠ LoadType.lamp) := fun h => h4 ⟨hm, h⟩
          push Not at this
          simp [flashRefused, this.1, this.2]
        · have : levelAfterClamp p ≠ .flash := by
            unfold levelAfterClamp; split_ifs <;> simp
          simp [flashRefused, this]
      have hc : (if ceiling < (⟨cls.toNat, h2'⟩ : Cls) then ceiling else ⟨cls.toNat, h2'⟩) =
          classAfterClamp ceiling cls := by
        have := ceiling.isLt
        ext
        simp only [classAfterClamp, Fin.lt_def]
        split <;> (simp; omega)
      simp only [hf, hc]
      rw [if_neg (by simp), if_neg]
      rintro ⟨ha, hb⟩
      refine h5 ⟨ha, ?_⟩
      rw [Fin.le_def] at hb
      simp [classAfterClamp] at hb
      have := ceiling.isLt
      omega
    · simp only [clampDemand, clampFlags, adjustFlags, clsOf_eq, h2', dite_true, maxHold, dutyTooLarge, Fin.lt_def]
      by_cases a : ceiling.val < cls.toNat <;> by_cases b : 3000 < hold.toNat <;> by_cases c : p.mode = 3#8 <;>
        by_cases e : 64 ≤ p.duty.toNat <;> simp [a, b, c, e]

end Sys2Proof.Machine
end

