-- ==== Sys2Proof/Laws/PerInstr.lean ====
section
/-!
SUPPORT. A law of the frame, command by command: the frame written for a request ends with the CRC of the 19 bytes
before it (R149); an event of the part has no frame.
-/

namespace Sys2Proof.Laws

open Sys2Proof.Machine

/-- The frame of a command, where it has one, is 19 bytes and their CRC (R149). -/
def FrameForm.Statement (i : Instr) : Prop :=
  ∀ bytes, encodeFrame i = some bytes → bytes = bytes.take 19 ++ [crc8 (bytes.take 19)]

/-- A whole frame is 19 bytes and their CRC. -/
theorem frameOf_crc (kind : Byte) (h : Header) (body : List Byte) :
    frameOf kind h body = (frameOf kind h body).take 19 ++ [crc8 ((frameOf kind h body).take 19)] := by
  have hl : (kind :: headerByte h :: fillTo 17 body).length = 19 := by simp [fillTo]
  have ht : (frameOf kind h body).take 19 = kind :: headerByte h :: fillTo 17 body := List.take_left' hl
  rw [ht]
  rfl

/-- What is written by `frameOf` has the form. -/
theorem frameForm_of_frame {i : Instr} {kind : Byte} {h : Header} {body : List Byte}
    (hi : encodeFrame i = some (frameOf kind h body)) : FrameForm.Statement i := by
  intro bytes hb
  rw [hi] at hb
  cases hb
  exact frameOf_crc kind h body

/-- What has no frame has the form. -/
theorem frameForm_of_none {i : Instr} (hi : encodeFrame i = none) : FrameForm.Statement i := by
  intro bytes hb
  rw [hi] at hb
  cases hb

theorem FrameForm.poll (h : Header) : FrameForm.Statement (.poll h) := frameForm_of_frame rfl
theorem FrameForm.readNotices (h : Header) : FrameForm.Statement (.readNotices h) := frameForm_of_frame rfl
theorem FrameForm.clearNotices (h : Header) (mask : Byte) :
    FrameForm.Statement (.clearNotices h mask) := frameForm_of_frame rfl
theorem FrameForm.setNoticeEnable (h : Header) (kinds : Byte) :
    FrameForm.Statement (.setNoticeEnable h kinds) := frameForm_of_frame rfl
theorem FrameForm.describe (h : Header) : FrameForm.Statement (.describe h) := frameForm_of_frame rfl
theorem FrameForm.place (h : Header) (load : Byte) (level : LevelParam) (cls : Byte) (hold : Word16) :
    FrameForm.Statement (.place h load level cls hold) := frameForm_of_frame rfl
theorem FrameForm.renew (h : Header) (handle : Byte) : FrameForm.Statement (.renew h handle) := frameForm_of_frame rfl
theorem FrameForm.amend (h : Header) (handle : Byte) (level : LevelParam) (cls : Byte) (hold : Word16) :
    FrameForm.Statement (.amend h handle level cls hold) := frameForm_of_frame rfl
theorem FrameForm.retire (h : Header) (handle : Byte) :
    FrameForm.Statement (.retire h handle) := frameForm_of_frame rfl
theorem FrameForm.renewAll (h : Header) (target : Byte) :
    FrameForm.Statement (.renewAll h target) := frameForm_of_frame rfl
theorem FrameForm.retireAll (h : Header) (target : Byte) :
    FrameForm.Statement (.retireAll h target) := frameForm_of_frame rfl
theorem FrameForm.lookup (h : Header) (handle : Byte) :
    FrameForm.Statement (.lookup h handle) := frameForm_of_frame rfl
theorem FrameForm.readLapsed (h : Header) : FrameForm.Statement (.readLapsed h) := frameForm_of_frame rfl
theorem FrameForm.mapLoad (h : Header) (load enabled channel : Byte) (permitted : Word16) :
    FrameForm.Statement (.mapLoad h load enabled channel permitted) := frameForm_of_frame rfl
theorem FrameForm.readLoad (h : Header) (load : Byte) :
    FrameForm.Statement (.readLoad h load) := frameForm_of_frame rfl
theorem FrameForm.list (h : Header) (channel : Byte) : FrameForm.Statement (.list h channel) := frameForm_of_frame rfl
theorem FrameForm.setRequester (h : Header) (target enabled quota ceiling : Byte) :
    FrameForm.Statement (.setRequester h target enabled quota ceiling) := frameForm_of_frame rfl
theorem FrameForm.addQuota (h : Header) (target n : Byte) :
    FrameForm.Statement (.addQuota h target n) := frameForm_of_frame rfl
theorem FrameForm.readRequester (h : Header) (target : Byte) :
    FrameForm.Statement (.readRequester h target) := frameForm_of_frame rfl
theorem FrameForm.setChannelLimits (h : Header) (channel : Byte) (p : LimitsParams) :
    FrameForm.Statement (.setChannelLimits h channel p) := frameForm_of_frame rfl
theorem FrameForm.setChannelProfile (h : Header) (channel : Byte) (p : ProfileParams) :
    FrameForm.Statement (.setChannelProfile h channel p) := frameForm_of_frame rfl
theorem FrameForm.lock (h : Header) (channel : Byte) : FrameForm.Statement (.lock h channel) := frameForm_of_frame rfl
theorem FrameForm.unlock (h : Header) (channel : Byte) :
    FrameForm.Statement (.unlock h channel) := frameForm_of_frame rfl
theorem FrameForm.clearFault (h : Header) (channel : Byte) :
    FrameForm.Statement (.clearFault h channel) := frameForm_of_frame rfl
theorem FrameForm.channelStatus (h : Header) (channel : Byte) :
    FrameForm.Statement (.channelStatus h channel) := frameForm_of_frame rfl
theorem FrameForm.setInterlock (h : Header) (pair enabled a b : Byte) :
    FrameForm.Statement (.setInterlock h pair enabled a b) := frameForm_of_frame rfl
theorem FrameForm.readInterlock (h : Header) (pair : Byte) :
    FrameForm.Statement (.readInterlock h pair) := frameForm_of_frame rfl
theorem FrameForm.setBudget (h : Header) (feed : Byte) (budget : Word16) :
    FrameForm.Statement (.setBudget h feed budget) := frameForm_of_frame rfl
theorem FrameForm.feedStatus (h : Header) (feed : Byte) :
    FrameForm.Statement (.feedStatus h feed) := frameForm_of_frame rfl
theorem FrameForm.setSupplyLimits (h : Header) (uv recovery : Word16) :
    FrameForm.Statement (.setSupplyLimits h uv recovery) := frameForm_of_frame rfl
theorem FrameForm.setFlashPeriod (h : Header) (period : Byte) :
    FrameForm.Statement (.setFlashPeriod h period) := frameForm_of_frame rfl
theorem FrameForm.bindLine (h : Header) (line enabled polarity load : Byte) (level : LevelParam) (cls : Byte) :
    FrameForm.Statement (.bindLine h line enabled polarity load level cls) := frameForm_of_frame rfl
theorem FrameForm.readLine (h : Header) (line : Byte) :
    FrameForm.Statement (.readLine h line) := frameForm_of_frame rfl
theorem FrameForm.checkOutputs (h : Header) (selection : Word16) :
    FrameForm.Statement (.checkOutputs h selection) := frameForm_of_frame rfl
theorem FrameForm.checkResults (h : Header) : FrameForm.Statement (.checkResults h) := frameForm_of_frame rfl
theorem FrameForm.storeConfiguration (h : Header) :
    FrameForm.Statement (.storeConfiguration h) := frameForm_of_frame rfl
theorem FrameForm.restart (h : Header) : FrameForm.Statement (.restart h) := frameForm_of_frame rfl
theorem FrameForm.unknownKindFrame (kind : Byte) (h : Header) :
    FrameForm.Statement (.unknownKindFrame kind h) := frameForm_of_frame rfl
theorem FrameForm.frameDiscard (edges : Nat) : FrameForm.Statement (.frameDiscard edges) := frameForm_of_none rfl
theorem FrameForm.holdExpiry (handle : Handle) : FrameForm.Statement (.holdExpiry handle) := frameForm_of_none rfl
theorem FrameForm.graceExpiry (handle : Handle) : FrameForm.Statement (.graceExpiry handle) := frameForm_of_none rfl
theorem FrameForm.deadTimeExpiry (pair : PairNo) : FrameForm.Statement (.deadTimeExpiry pair) := frameForm_of_none rfl
theorem FrameForm.inrushTimerExpiry (channel : Ch) :
    FrameForm.Statement (.inrushTimerExpiry channel) := frameForm_of_none rfl
theorem FrameForm.retryTimerExpiry (channel : Ch) :
    FrameForm.Statement (.retryTimerExpiry channel) := frameForm_of_none rfl
theorem FrameForm.overloadRetry (channel : Ch) : FrameForm.Statement (.overloadRetry channel) := frameForm_of_none rfl
theorem FrameForm.coolingFlagClear (channel : Ch) :
    FrameForm.Statement (.coolingFlagClear channel) := frameForm_of_none rfl
theorem FrameForm.cleanRunExpiry (channel : Ch) :
    FrameForm.Statement (.cleanRunExpiry channel) := frameForm_of_none rfl
theorem FrameForm.sampleCompletion (channel : Ch) (sense : Nat) :
    FrameForm.Statement (.sampleCompletion channel sense) := frameForm_of_none rfl
theorem FrameForm.stallTimerExpiry (channel : Ch) :
    FrameForm.Statement (.stallTimerExpiry channel) := frameForm_of_none rfl
theorem FrameForm.openFlagSet (channel : Ch) : FrameForm.Statement (.openFlagSet channel) := frameForm_of_none rfl
theorem FrameForm.openFlagClear (channel : Ch) : FrameForm.Statement (.openFlagClear channel) := frameForm_of_none rfl
theorem FrameForm.pwmPeriodStart : FrameForm.Statement .pwmPeriodStart := frameForm_of_none rfl
theorem FrameForm.supplyReading (sense : Nat) : FrameForm.Statement (.supplyReading sense) := frameForm_of_none rfl
theorem FrameForm.supplyRecovery (sense : Nat) : FrameForm.Statement (.supplyRecovery sense) := frameForm_of_none rfl
theorem FrameForm.onPhaseStart : FrameForm.Statement .onPhaseStart := frameForm_of_none rfl
theorem FrameForm.onPhaseExpiry : FrameForm.Statement .onPhaseExpiry := frameForm_of_none rfl
theorem FrameForm.lineReading (line : LineNo) (high : Bool) :
    FrameForm.Statement (.lineReading line high) := frameForm_of_none rfl
theorem FrameForm.debounceChange (line : LineNo) : FrameForm.Statement (.debounceChange line) := frameForm_of_none rfl
theorem FrameForm.unbiasedStepEnd (sense : Nat) :
    FrameForm.Statement (.unbiasedStepEnd sense) := frameForm_of_none rfl
theorem FrameForm.biasedStepEnd (sense : Nat) : FrameForm.Statement (.biasedStepEnd sense) := frameForm_of_none rfl
theorem FrameForm.storeWriteCompletion (readBack : Configuration) :
    FrameForm.Statement (.storeWriteCompletion readBack) := frameForm_of_none rfl
theorem FrameForm.powerOn : FrameForm.Statement .powerOn := frameForm_of_none rfl
theorem FrameForm.resetAssert : FrameForm.Statement .resetAssert := frameForm_of_none rfl
theorem FrameForm.csnFall : FrameForm.Statement .csnFall := frameForm_of_none rfl

end Sys2Proof.Laws
end

