-- ==== Sys2Proof/Laws/Records.lean ====
section
/-!
SUPPORT. What the record operations of the Demand Resolver do: which handle a new record takes, where it stands in its
list, when AMEND, RENEW and RETIRE reach a record, and what the packed sets of a response hold.
-/

namespace Sys2Proof.Machine

/-- The lowest free handle is the one that is free with no free one below it (R8). -/
theorem State.lowestFree_eq_some {n : Handle} {s : State} (h60 : n.val < 60) (hf : s.records[n] = .free)
    (hm : ∀ m : Handle, m < n → s.records[m] ≠ .free) : s.lowestFree = some n := by
  unfold State.lowestFree allHandles
  rw [List.find?_eq_some_iff_getElem]
  refine ⟨by simp [h60, hf, Record.isFree], n.val, by simp, by simp, ?_⟩
  intro j hj
  simp
  have := hm ⟨j, by omega⟩ (by simpa [Fin.lt_def] using hj)
  right
  cases hr : s.records[(⟨j, by omega⟩ : Handle)] <;> simp_all [Record.isFree]

/-- Inserting a live record puts it at the head of its class group (R38). -/
theorem insertedInClass {records : Vector Record 64} {n : Handle} {d : Demand} {time : Option Nat}
    (l : List Handle) (h : records[n] = .live d time) :
    InsertedInClass records d.cls n l (listInsert (fun y => records[y].rank) n l) := by
  refine ⟨_, _,
    (List.takeWhile_append_dropWhile (p := fun y => decide (records[n].rank < records[y].rank))).symm, rfl, ?_, ?_⟩
  · intro y hy
    have := List.mem_takeWhile_imp hy
    simpa [h, Record.rank] using this
  · intro y hy
    have := List.head?_dropWhile_not (fun y => decide (records[n].rank < records[y].rank)) l
    rw [hy] at this
    simpa [h, Record.rank] using this

/-- The checks of a record request let through a handle below 60 whose record is not free, sent by its owner or by
slot 0 (R13). -/
theorem State.Accepts.actOn_ok {s : State} {h : Header} {handle : Byte} {n : Handle} {d : Demand} (a : s.Accepts h)
    (hn : handle.toNat = n.val) (h60 : n.val < 60)
    (hr : (∃ time, s.records[n] = .live d time) ∨ (∃ g, s.records[n] = .lapsed d g))
    (ho : d.owner = slotOf h ∨ h.slot = 0#4) : actOn (slotOf h) handle s = .ok (n, d) := by
  simp only [actOn, handleOf, numOf_of_lt n hn]
  rw [if_neg (by omega)]
  have : ¬ (d.owner ≠ slotOf h ∧ slotOf h ≠ 0) := by
    rintro ⟨h1, h2⟩
    rcases ho with ho | ho
    · exact h1 ho
    · exact h2 (a.slotOf_eq_zero.2 ho)
  rcases hr with ⟨t, hr⟩ | ⟨t, hr⟩ <;> simp only [hr] <;> rw [if_neg this]

/-- A number of 16 bits goes out high byte first (R153). -/
theorem numWord_eq (x : Nat) : numWord x = [BitVec.ofNat 8 (x / 256), BitVec.ofNat 8 x] := by
  simp only [numWord, wordBytes, hiByte, loByte]
  congr 1
  · apply BitVec.eq_of_toNat_eq
    simp
    omega
  · congr 1
    apply BitVec.eq_of_toNat_eq
    simp

/-- A set of numbered things goes out with thing i at bit i. -/
theorem bitsOf_testBit (l : List Bool) (i : Nat) : (bitsOf l).testBit i = l.getD i false := by
  induction l generalizing i with
  | nil => simp [bitsOf]
  | cons b l ih =>
    cases i with
    | zero => cases b <;> simp [bitsOf, Nat.testBit_zero]
    | succ i =>
      have : bitsOf (b :: l) / 2 = bitsOf l := by cases b <;> (simp [bitsOf]; try omega)
      rw [Nat.testBit_succ, this, ih]
      simp

end Sys2Proof.Machine
end

