-- ==== Sys2Proof/Tests/Slice0.lean ====
section
/-!
SUPPORT. Tests of the model, each about one step or less: ill-formed configurations that the checks refuse, frames
written out from R151 to R154, values from the manual's tables and worked examples, and for each statement with
hypotheses a state and operands that meet them. The expected values are the manual's, not the model's.
-/

set_option maxRecDepth 20000
set_option Elab.async false

namespace Sys2Proof.Tests

open Sys2Proof.Machine

/-! ### States to test on -/

/-- The rear fog lamp of the worked example of chapter 03: feed A, inrush window 50 ms, two retries. -/
def lamp : ChannelConfig :=
  { defaultChannel with
    iNom := 42, iRate := 200, k := 12, peakLimit := 200, inrushLimit := 900, inrushFactor := 10, inrushWindow := 5,
    loadType := .lamp, openLoadLevel := 10, retryLimit := 2, lockAtStart := false, configured := true }

/-- A fan motor on feed B. -/
def motor : ChannelConfig := { lamp with feed := .b, loadType := .motor, stallLevel := 150, stallTime := 60 }

/-- Lamps on CH0 to CH7 and motors on CH8 to CH14, CH15 unconfigured; load n on channel n mod 16, loads 0 to 29 mapped;
slots 0 to 3 permitted, to load 29 none; slots 1 to 3 enabled; the pair of CH0 and CH1; line 0 bound to load 5. -/
def conf : Configuration :=
  { defaultConfiguration with
    channels := Vector.ofFn (fun c : Ch => if c < 8 then lamp else if c < 15 then motor else defaultChannel)
    loads := Vector.ofFn (fun l : LoadNo => ⟨decide (l < 30), Fin.ofNat 16 l.val, if l = 29 then 0 else 0x00F#11⟩)
    slots := Vector.ofFn (fun i : Fin 10 => ⟨decide (i < 3), 4, 2⟩)
    budgets := #v[100, 500, 4000]
    pairs := defaultConfiguration.pairs.set 0 ⟨true, 0, 1⟩
    bindings := defaultConfiguration.bindings.set 0 ⟨true, .activeHigh, 5, .steady, 2⟩ }

/-- The part as power-on leaves it with that configuration, the supply no longer low. -/
def base : State :=
  { State.reset with
    conf := conf
    monitors := Vector.replicate 16 startMonitor
    drive := startDrive conf true
    supply := ⟨false, 0, 240⟩ }

def withChan (s : State) (c : Ch) (x : Channel) : State :=
  { s with drive := { s.drive with chans := s.drive.chans.set c x } }

def withFeed (s : State) (f : Fin 3) (x : FeedState) : State :=
  { s with drive := { s.drive with feeds := s.drive.feeds.set f x } }

def withPair (s : State) (p : PairNo) (x : PairState) : State :=
  { s with drive := { s.drive with pairs := s.drive.pairs.set p x } }

def withRecord (s : State) (h : Handle) (r : Record) : State := { s with records := s.records.set h r }

def withMonitor (s : State) (c : Ch) (m : Monitor) : State := { s with monitors := s.monitors.set c m }

/-- A channel in a state, with a wanted level and an effective class. -/
def chan (state : ChanState) (wanted : Level) (cls : Option Cls) : Channel :=
  { startChannel lamp with state := state, wanted := wanted, cls := cls }

/-- A driven channel with a level applied and its reservation. -/
def drivenAt (state : ChanState) (level : Level) (cls : Cls) (reservation : Nat) : Channel :=
  { chan state level (some cls) with applied := level, reservation := reservation }

/-- A record's fields, of slot 2 on the channel of its load. -/
def demand (load : LoadNo) (cls : Cls) (hold : Nat) : Demand :=
  { owner := 2, load := load, channel := Fin.ofNat 16 load.val, level := .steady, cls := cls, hold := hold }

/-- CH3 in ON and CH4 waiting for budget behind it, each with a LIVE record of slot 2. -/
def busy : State :=
  let s := withFeed (withChan (withChan base 3 (drivenAt .on .steady 2 42)) 4 (chan (.waiting .budget) .steady (some 1)))
    0 ⟨42, [⟨4, .fresh⟩], [3]⟩
  { withRecord (withRecord s 0 (.live (demand 3 2 0) none)) 1 (.live (demand 4 1 10) (some 1000)) with
    held := s.held.set 2 2, lists := (s.lists.set 3 [0]).set 4 [1] }

/-- The supervisor's header and slot 2's. -/
def sup : Header := ⟨0, 5⟩
def two : Header := ⟨2, 1⟩

/-- The state that a command leaves. -/
def after (i : Instr) (s : State) : State :=
  match exec i s with
  | .next t => t
  | .fault _ => s
  | .refused _ => s

/-- The status and the result of the response that a request leaves. -/
def answer (i : Instr) (s : State) : Status × List Byte :=
  let r := (after i s).link.response
  (r.status, r.result)

/-! ### Ill-formed terms that the checks refuse -/

/-- The configuration with one channel's fields changed. -/
def withCfg (x : ChannelConfig) : Configuration := { conf with channels := conf.channels.set 0 x }

theorem test_conf_wellFormed : conf.isWellFormed = true := by decide +kernel
theorem test_default_wellFormed : defaultConfiguration.isWellFormed = true := by decide +kernel

/-- Each range of R49 at the values just outside it. -/
theorem test_channel_ranges :
    ∀ x ∈ ([{ lamp with iNom := 0 }, { lamp with iNom := 1024 }, { lamp with iRate := 0 }, { lamp with iRate := 1024 },
      { lamp with k := 7 }, { lamp with k := 17 }, { lamp with peakLimit := 0 },
      { lamp with peakLimit := 901 }, { lamp with inrushLimit := 1024 }, { lamp with inrushFactor := 0 },
      { lamp with inrushFactor := 17 }, { lamp with inrushWindow := 256 }, { lamp with openLoadLevel := 1024 },
      { lamp with stallLevel := 0 }, { lamp with stallLevel := 1024 }, { lamp with stallTime := 0 },
      { lamp with stallTime := 256 }, { lamp with retryLimit := 8 },
      { motor with outageWatch := true }] : List ChannelConfig), (withCfg x).isWellFormed = false := by
  decide +kernel

/-- Budgets, quotas, period, thresholds, pairs and bindings just outside their rules (R1, R75, R78, R102, R116, R122,
R135). -/
theorem test_other_ranges :
    ∀ x ∈ ([{ conf with budgets := #v[0, 0, 4001] }, { conf with quota0 := 61 },
      { conf with slots := conf.slots.set 9 ⟨true, 61, 0⟩ }, { conf with period := 39 }, { conf with period := 201 },
      { conf with uv := 99 }, { conf with uv := 301, recovery := 306 }, { conf with recovery := 184 },
      { conf with recovery := 351 }, { conf with pairs := conf.pairs.set 1 ⟨true, 7, 7⟩ },
      { conf with pairs := conf.pairs.set 1 ⟨true, 1, 2⟩ },
      { conf with bindings := conf.bindings.set 3 ⟨true, .activeLow, 30, .off, 0⟩ },
      { conf with bindings := conf.bindings.set 3 ⟨true, .activeLow, 29, .dim 0, 0⟩ }] : List Configuration),
      x.isWellFormed = false := by
  decide +kernel

/-- A frame of unknown kind whose byte 0 names a kind, and an image read back out of range. -/
theorem test_instr_wellFormed :
    (Instr.unknownKindFrame 0x10 two).wellFormed = false ∧ (Instr.unknownKindFrame 0x06 two).wellFormed = true ∧
    (Instr.storeWriteCompletion { conf with uv := 0 }).wellFormed = false ∧
    (Instr.storeWriteCompletion conf).wellFormed = true := by
  decide +kernel

/-! ### Frames, byte by byte from R149, R151, R153, R154 -/

/-- A frame from its leading bytes: 00h to byte 18, then the CRC. -/
def frame (front : List Byte) : List Byte :=
  let l := front ++ List.replicate (19 - front.length) 0x00#8
  l ++ [crc8 l]

/-- The published check of polynomial 2Fh from FFh over the digits 1 to 9 is DFh after a final inversion, which R149
does not make. -/
theorem test_crc_check_value : crc8 [0x31, 0x32, 0x33, 0x34, 0x35, 0x36, 0x37, 0x38, 0x39] = 0x20#8 := by
  decide +kernel

/-- One frame of each family of requests. -/
theorem test_frames_decode :
    decodeFrame 160 (frame [0x01, 0x35]) = .poll ⟨3, 5⟩ ∧
    decodeFrame 160 (frame [0x03, 0x05, 0x40]) = .clearNotices ⟨0, 5⟩ 0x40 ∧
    decodeFrame 160 (frame [0x10, 0x01, 0x04, 0x01, 0x00, 0x02, 0x00, 0x00]) =
      .place ⟨0, 1⟩ 0x04 ⟨0x01, 0x00⟩ 0x02 0x0000 ∧
    decodeFrame 160 (frame [0x12, 0x2F, 0x07, 0x03, 0x2A, 0x01, 0x0B, 0xB8]) =
      .amend ⟨2, 15⟩ 0x07 ⟨0x03, 0x2A⟩ 0x01 0x0BB8 ∧
    decodeFrame 160 (frame [0x20, 0x00, 0x1F, 0x01, 0x0F, 0x07, 0xFF]) = .mapLoad ⟨0, 0⟩ 0x1F 0x01 0x0F 0x07FF ∧
    decodeFrame 160 (frame [0x28, 0x00, 0x0A, 0x01, 0x3C, 0x03]) = .setRequester ⟨0, 0⟩ 0x0A 0x01 0x3C 0x03 ∧
    decodeFrame 160 (frame [0x30, 0x03, 0x05, 0x01, 0x00, 0x2A, 0x00, 0xC8, 0x0C, 0x00, 0xC8, 0x03, 0x84, 0x0A, 0x05]) =
      .setChannelLimits ⟨0, 3⟩ 0x05 ⟨0x01, 0x002A, 0x00C8, 0x0C, 0x00C8, 0x0384, 0x0A, 0x05⟩ := by
  decide +kernel

theorem test_frames_decode_rest :
    decodeFrame 160 (frame [0x31, 0x03, 0x05, 0x01, 0x00, 0x1E, 0x01, 0x90, 0x64, 0x02, 0x01, 0x00]) =
      .setChannelProfile ⟨0, 3⟩ 0x05 ⟨0x01, 0x001E, 0x0190, 0x64, 0x02, 0x01, 0x00⟩ ∧
    decodeFrame 160 (frame [0x38, 0x00, 0x07, 0x01, 0x0E, 0x0F]) = .setInterlock ⟨0, 0⟩ 0x07 0x01 0x0E 0x0F ∧
    decodeFrame 160 (frame [0x40, 0x00, 0x02, 0x0F, 0xA0]) = .setBudget ⟨0, 0⟩ 0x02 0x0FA0 ∧
    decodeFrame 160 (frame [0x42, 0x00, 0x00, 0xB4, 0x00, 0xC8]) = .setSupplyLimits ⟨0, 0⟩ 0x00B4 0x00C8 ∧
    decodeFrame 160 (frame [0x48, 0x00, 0x43]) = .setFlashPeriod ⟨0, 0⟩ 0x43 ∧
    decodeFrame 160 (frame [0x50, 0x00, 0x03, 0x01, 0x01, 0x1D, 0x02, 0x00, 0x02]) =
      .bindLine ⟨0, 0⟩ 0x03 0x01 0x01 0x1D ⟨0x02, 0x00⟩ 0x02 ∧
    decodeFrame 160 (frame [0x58, 0x00, 0x52, 0x28]) = .checkOutputs ⟨0, 0⟩ 0x5228 ∧
    decodeFrame 160 (frame [0x60, 0x00]) = .storeConfiguration ⟨0, 0⟩ ∧
    decodeFrame 160 (frame [0x61, 0x0E]) = .restart ⟨0, 14⟩ ∧
    decodeFrame 160 (frame [0xFF, 0x21]) = .unknownKindFrame 0xFF ⟨2, 1⟩ ∧
    decodeFrame 159 (frame [0x01, 0x35]) = .frameDiscard 159 := by
  decide +kernel

/-! ### One step each, from the manual's tables and worked examples -/

/-- Chapter 09, worked example, frame 1: the first record is handle 0. -/
theorem test_place_answers_handle_0 :
    answer (.place ⟨0, 1⟩ 0x04 ⟨0x01, 0x00⟩ 0x02 0x0000) base = (.ok, List.replicate 15 0x00#8) ∧
    (after (.place ⟨0, 1⟩ 0x04 ⟨0x01, 0x00⟩ 0x02 0x0000) base).drive.chans[4].state = .waiting .budget := by
  decide +kernel

/-- R10: class, hold and duty out of their bounds raise the three adjustment flags. -/
theorem test_place_clamps :
    (after (.place two 0x04 ⟨0x03, 0x40⟩ 0x03 0x0BB9) base).link.response.flags = 0x07#8 ∧
    (after (.place two 0x04 ⟨0x03, 0x40⟩ 0x03 0x0BB9) base).records[0] =
      .live { demand 4 2 3000 with level := .steady } (some 300000) := by
  decide +kernel

/-- R25 note 1: a remaining of 44 750 ms reports 448, one of 100 ms or 1 ms reports 1. -/
theorem test_tenths : tenths 44750 = 448 ∧ tenths 100 = 1 ∧ tenths 1 = 1 := by decide

/-- Chapter 09, worked example, frame 3: reason CRC, 20 bytes clocked, LINK pending. -/
theorem test_frameDiscard_crc :
    answer (.frameDiscard 160) base = (.frameCheck, 0x02#8 :: 20#8 :: List.replicate 13 0x00#8) ∧
    (after (.frameDiscard 160) base).drive.notice.kinds = 0x40#8 := by
  decide +kernel

/-- Chapter 11: DIM 16 of I_nom 100 holds 25; P = 67 gives 335 and 335, and FAST 167 and 168. -/
theorem test_reservation_and_lengths :
    steadyReservation { lamp with iNom := 100 } (.dim 16) = 25 ∧ onLength 67 .normal = 335 ∧ offLength 67 .normal = 335 ∧
    onLength 67 .fast = 167 ∧ offLength 67 .fast = 168 := by
  decide +kernel

/-- Chapter 03, worked example: a reading of 1023 in INRUSH trips SHORT, the first of two retries due in 1000 ms. -/
theorem test_short_in_inrush :
    let s := withChan base 5 { drivenAt .inrush .steady 1 420 with inrushTimer := some 50 }
    (after (.sampleCompletion 5 1200) s).drive.chans[5].state = .tripped ∧
    (after (.sampleCompletion 5 1200) s).drive.chans[5].retries = 1 ∧
    (after (.sampleCompletion 5 1200) s).drive.chans[5].retryTimer = some 1000 := by
  decide +kernel

/-- R86: from 0 toward 100 x 100 x 256 with k 12 the step is 625, and a distance below 2^k moves H by 1. -/
theorem test_heatStep : heatStep 12 2560000 0 = 625 ∧ heatStep 12 4000 5 = 6 ∧ heatStep 12 0 7 = 6 ∧
    heatStep 12 9 9 = 9 := by
  decide +kernel

/-- R118: the 500th reading in a row at Recovery clears the flag; R117: a reading of UV - 1 sets it. -/
theorem test_supply_low :
    (after (.supplyReading 200) { base with supply := ⟨true, 499, 190⟩ }).supply = ⟨false, 0, 200⟩ ∧
    (after (.supplyReading 179) busy).drive.chans[3].state = .on ∧
    (after (.supplyReading 179) busy).supply = ⟨true, 0, 179⟩ := by
  decide +kernel

/-- R132: the 20th differing reading changes the level, and the bound line's record is LIVE (R133). -/
theorem test_line_bounce :
    let s := { base with lines := base.lines.set 0 ⟨false, 1⟩ }
    (after (.lineReading 0 true) s).lines[0] = ⟨true, 20⟩ ∧
    (after (.lineReading 0 true) s).records[60] =
      .live { owner := 11, load := 5, channel := 5, level := .steady, cls := 2, hold := 0 } none ∧
    (after (.lineReading 0 false) s).lines[0] = ⟨false, 20⟩ := by
  decide +kernel

/-- Chapter 08, worked example: 2 x 268 is above 270, a short to the supply on the last member; CHECK is set. -/
theorem test_unbiased_short :
    let s := { base with supply := ⟨false, 0, 270⟩
                         drive := { base.drive with check := ⟨some ⟨0x4000#16, ⟨14, .unbiased, 0⟩⟩,
                           Vector.replicate 16 .notTested, 1⟩ } }
    (after (.unbiasedStepEnd 268) s).drive.check.results[14] = .shortToSupply ∧
    (after (.unbiasedStepEnd 268) s).drive.check.run = none ∧
    (after (.unbiasedStepEnd 268) s).drive.notice.kinds = 0x20#8 := by
  decide +kernel

/-- R109: the lowest class goes first, and within a class the last admitted. -/
theorem test_victim_order :
    lastOfLowest (fun c => if c = 12 then 1 else 2) [7, 8, 12] = some 12 ∧
    lastOfLowest (fun _ => 2) [7, 8] = some 8 := by
  decide +kernel

/-- R77: of two waiting members of one class the earlier wait start is granted, and of two equal ones the lower
channel. -/
theorem test_arbiter_order :
    let at5 (c : Ch) (n : Nat) (s : State) := withChan s c (chan (.waiting (.interlock n)) .steady (some 1))
    (at5 0 9 (at5 1 7 base)).drive.arbiterChoice 0 1 = some 1 ∧
    (at5 0 7 (at5 1 7 base)).drive.arbiterChoice 0 1 = some 0 := by
  decide +kernel

/-- R170: what a cut-short write leaves does not agree with itself. -/
theorem test_cut_image_disagrees (n : Nat) : (cutImage n).agrees = false := by
  simp only [cutImage, Image.agrees]
  split
  · rename_i h
    simp [← h]
  · rename_i h
    simpa using fun e => h e.symm

/-! ### For each statement with hypotheses, states and operands that meet them -/

/-- The part held in reset, and the part with a store write in flight. -/
def held : State := { base with inReset := true }
def storing : State := { base with store := { base.store with writing := some conf, result := .inFlight } }

/-- Slot 2 is enabled in the configuration of these states, so its frames are taken where frames are. -/
theorem accepts_two {s : State} (running : s.inReset = false) (counted : s.link.csn = .high) (h : s.conf = conf) :
    s.Accepts two where
  running := running
  counted := by simp [counted]
  slot := by decide
  enabled := by rw [h]; decide +kernel

theorem accepts_base : base.Accepts two := accepts_two rfl rfl rfl
theorem accepts_busy : busy.Accepts two := accepts_two rfl rfl rfl
theorem supervised_base : base.Supervised sup := ⟨rfl, by decide, rfl⟩
theorem supervised_busy : busy.Supervised sup := ⟨rfl, by decide, rfl⟩
theorem pairs_conf : PairsWellFormed conf.pairs := by decide +kernel

/-- CH6 in ON at FLASH, the generator in the last millisecond of its on phase, while CH3 is under test. -/
def flashing : State :=
  let s := withFeed (withChan base 6 (drivenAt .on .flash 2 42)) 0 ⟨42, [], [6]⟩
  { s with drive := { s.drive with
      flash := some ⟨.on, 1, .normal, 335, 335⟩
      check := ⟨some ⟨0x0058#16, ⟨3, .biased, 0⟩⟩, Vector.replicate 16 .notTested, 3⟩ } }

/-- The generator in the last millisecond of an off phase, without and with an outage. -/
def offPhase (open' : Bool) : State :=
  let s := withChan flashing 6 { drivenAt .on .flash 2 42 with openFlag := open' }
  { s with
    conf := { conf with channels := conf.channels.set 6 { lamp with outageWatch := true } }
    drive := { s.drive with flash := some ⟨.off, 1, .normal, 335, 335⟩ } }

/-- Timers of every sort in their last millisecond and before it. -/
def ticking : State :=
  let s := withRecord (withRecord (withRecord (withRecord base 0 (.live (demand 3 2 1) (some 1))) 1
    (.live (demand 3 2 1) (some 2))) 2 (.lapsed (demand 3 2 1) 1)) 59 (.lapsed (demand 3 2 1) 5000)
  let s := withChan s 5 { drivenAt .inrush .steady 2 420 with inrushTimer := some 1 }
  let s := withChan s 6 { drivenAt .inrush .steady 2 420 with inrushTimer := some 50 }
  let s := withChan s 7 { chan .tripped .steady (some 2) with retryTimer := some 1 }
  let s := withChan s 4 { chan .tripped .steady (some 2) with retryTimer := some 1000 }
  let s := withChan s 8 { drivenAt .on .steady 2 42 with cleanTimer := some 1 }
  let s := withChan s 9 { drivenAt .on .steady 2 42 with cleanTimer := some 10000 }
  let s := withPair (withPair s 0 ⟨.none, some 1⟩) 7 ⟨.none, some 50⟩
  { s with
    pwmLeft := 1
    drive := { s.drive with
      flash := some ⟨.on, 1, .normal, 335, 335⟩
      check := ⟨some ⟨0x0008#16, ⟨3, .unbiased, 1⟩⟩, Vector.replicate 16 .notTested, 1⟩ } }

theorem test_meets_IdleStep :
    ticking.pending = [] ∧ ticking.inReset = false ∧ ticking.records[0] = .live (demand 3 2 1) (some 1) ∧
    ticking.records[1] = .live (demand 3 2 1) (some 2) ∧ ticking.records[2] = .lapsed (demand 3 2 1) 1 ∧
    ticking.records[59] = .lapsed (demand 3 2 1) 5000 ∧ ticking.records[63] = .free ∧
    ticking.drive.chans[5].inrushTimer = some 1 ∧ ticking.drive.chans[6].inrushTimer = some 50 ∧
    ticking.drive.chans[7].retryTimer = some 1 ∧ ticking.drive.chans[4].retryTimer = some 1000 ∧
    ticking.drive.pairs[0].dead = some 1 ∧ ticking.drive.pairs[7].dead = some 50 ∧
    ticking.drive.chans[8].cleanTimer = some 1 ∧ ticking.drive.chans[9].cleanTimer = some 10000 ∧
    ticking.drive.flash = some ⟨.on, 1, .normal, 335, 335⟩ ∧ ticking.pwmLeft = 1 ∧
    (offPhase false).drive.flash = some ⟨.off, 1, .normal, 335, 335⟩ := by
  decide +kernel

/-- What a millisecond makes of it: each timer in its last millisecond stays for its event, the step timer of the check
falls to 0, and the test of 1 ms ends after it and not before (R141). -/
theorem test_tick :
    ticking.tick.pending =
      [.onPhaseExpiry, .deadTimeExpiry 0, .inrushTimerExpiry 5, .retryTimerExpiry 7, .cleanRunExpiry 8, .holdExpiry 0,
       .graceExpiry 2, .pwmPeriodStart] ∧
    ticking.tick.records[1] = .live (demand 3 2 1) (some 1) ∧
    ticking.tick.records[59] = .lapsed (demand 3 2 1) 4999 ∧
    ticking.tick.drive.chans[9].cleanTimer = some 9999 ∧
    (offPhase false).tick.pending = [.onPhaseStart] ∧
    (after (.unbiasedStepEnd 0) ticking).drive.check.run = some ⟨0x0008#16, ⟨3, .unbiased, 1⟩⟩ ∧
    (after (.unbiasedStepEnd 0) ticking.tick).drive.check.run = some ⟨0x0008#16, ⟨3, .biased, 3⟩⟩ := by
  decide +kernel

theorem test_meets_FrameReadsBack :
    (Instr.amend two 0xFF ⟨0x03, 0xFF⟩ 0xFF 0xFFFF).wellFormed = true ∧
    (encodeFrame (.amend two 0xFF ⟨0x03, 0xFF⟩ 0xFF 0xFFFF)).isSome = true ∧
    (Instr.unknownKindFrame 0x00 two).wellFormed = true ∧ (encodeFrame (.unknownKindFrame 0x00 two)).isSome = true := by
  decide +kernel

/-- The bits of a frame on SDI after a fall of CSN (R147). -/
def clocked (s : State) (bytes : List Byte) : State :=
  (bytes.flatMap (fun b => (List.range 8).map (fun i => b.getLsbD (7 - i)))).foldl
    (fun x bit => (x.sckRise bit).sckFall) (after .csnFall s)

/-- A frame clocked in is the request it spells, one byte alone is a frame to discard, and SDO shows the old response:
after a discard its byte 2 is 01h for FRAME_CHECK, whose last bit is the 24th. -/
theorem test_clocked_frames :
    (clocked base (frame [0x10, 0x21, 0x04, 0x03, 0x10, 0x02, 0x01, 0x2C])).frameTaken =
      some (.place two 0x04 ⟨0x03, 0x10⟩ 0x02 0x012C) ∧
    (clocked base [0x10]).frameTaken = some (.frameDiscard 8) ∧ base.sdo = none ∧
    (clocked base (frame [0x01])).sdo = some false ∧ (clocked base [0x10]).inReset = false ∧
    (clocked (after (.frameDiscard 7) base) [0, 0, 0]).sdo =
      some ((after (.frameDiscard 7) base).link.response.result[0]?.any (fun b => b.getLsbD 7)) := by
  decide +kernel

/-- CSN low since before power-on completed: SDO is high-impedance, and the rise discards no edge counted (R147, R171;
log entry 32). -/
theorem test_csn_low_uncounted :
    (after .csnFall held).sdo = none ∧ (after .powerOn (after .csnFall held)).sdo = none ∧
    (after .powerOn (after .csnFall held)).frameTaken = some (.frameDiscard 0) :=
  ⟨rfl, rfl, rfl⟩

theorem test_meets_LinkChecks :
    base.takesFrames = true ∧ kindOfByte 0x06 = none ∧ requestParts (.poll ⟨11, 0⟩) = some (.poll, ⟨11, 0⟩, []) ∧
    (requesterOf base.conf (slotOf ⟨4, 0⟩)).enabled = false ∧ Kind.lock.supervisorOnly = true ∧ two.slot ≠ 0#4 := by
  decide +kernel

theorem test_meets_RefusalsChangeNothing :
    requestParts (.renew two 0x05) = some (.renew, two, [0x05]) ∧ base.takesFrames = true ∧
    exec (.renew two 0x05) base = .next (after (.renew two 0x05) base) ∧
    (after (.renew two 0x05) base).link.response.status = .noRecord :=
  ⟨rfl, rfl, rfl, by decide +kernel⟩

theorem test_meets_StoreInFlight :
    storing.Supervised sup ∧ Kind.restart.storeBlocked = true ∧ storing.store.writing.isSome = true ∧
    requestParts (.restart sup) = some (.restart, sup, []) ∧ Kind.place.storeBlocked = false ∧
    exec (.lock sup 0x03) storing = .next (after (.lock sup 0x03) storing) :=
  ⟨⟨rfl, by decide, rfl⟩, rfl, rfl, rfl, rfl, rfl⟩

theorem test_meets_PinEvents :
    base.inReset = false ∧ held.inReset = true ∧ base.store.writing = none ∧ storing.store.writing.isSome = true :=
  ⟨rfl, rfl, rfl, rfl⟩

theorem test_meets_HeldInReset :
    held.inReset = true ∧ exec (.sampleCompletion 3 0) held = .next (after (.sampleCompletion 3 0) held) :=
  ⟨rfl, rfl⟩

theorem test_meets_ResponsesStayFull :
    base.ResponsesFull ∧ step { base with pending := [.poll two] } = .next (after (.poll two) base) :=
  ⟨⟨rfl, fun _ _ h => by simp [base, State.reset] at h⟩, rfl⟩

theorem test_meets_PollsAndNotices : base.Accepts two ∧ base.Supervised sup := ⟨accepts_base, supervised_base⟩

theorem test_meets_NoticeEnable :
    base.Supervised sup ∧ base.store.writing = none ∧ storing.Supervised sup ∧ storing.store.writing.isSome = true :=
  ⟨supervised_base, rfl, ⟨rfl, by decide, rfl⟩, rfl⟩

/-- Every handle of requesters in use, a full list on CH4, and slot 2 at its quota. -/
def allUsed : State := { base with records := Vector.replicate 64 (.live (demand 3 2 1) (some 100)) }
def listFull : State := { base with lists := base.lists.set 4 [0, 1, 2, 3, 4, 5] }
def atQuota : State := { base with held := base.held.set 2 4 }

theorem accepts_full : allUsed.Accepts two ∧ listFull.Accepts two ∧ atQuota.Accepts two :=
  ⟨accepts_two rfl rfl rfl, accepts_two rfl rfl rfl, accepts_two rfl rfl rfl⟩

/-- Each check of PLACE at the value where it first fails, and its status in R9. -/
theorem test_meets_PlaceChecks :
    (answer (.place two 32 ⟨1, 0⟩ 2 0) base).1 = .noLoad ∧ (answer (.place two 30 ⟨1, 0⟩ 2 0) base).1 = .noLoad ∧
    (answer (.place two 29 ⟨1, 0⟩ 2 0) base).1 = .notPermitted ∧
    (answer (.place two 4 ⟨4, 0⟩ 2 0) base).1 = .badValue ∧ (answer (.place two 4 ⟨1, 0⟩ 4 0) base).1 = .badValue ∧
    (answer (.place two 4 ⟨3, 0⟩ 2 0) base).1 = .badValue ∧ (answer (.place two 8 ⟨2, 0⟩ 2 0) base).1 = .badValue ∧
    (answer (.place two 4 ⟨1, 0⟩ 1 0) base).1 = .badValue ∧
    (answer (.place two 4 ⟨1, 0⟩ 2 0) atQuota).1 = .quotaFull ∧
    (answer (.place two 4 ⟨1, 0⟩ 2 0) allUsed).1 = .tableFull ∧
    (answer (.place two 4 ⟨1, 0⟩ 2 0) listFull).1 = .listFull ∧ (answer (.place two 4 ⟨3, 63⟩ 0 1) base).1 = .ok := by
  decide +kernel

theorem not_bad : ¬ BadDemand lamp 2 ⟨0x02, 0x00⟩ 0x02 0x0000 := by unfold BadDemand; decide +kernel
theorem is_bad : BadDemand lamp 2 ⟨0x03, 0x00⟩ 0x02 0x0000 := by unfold BadDemand; decide +kernel

theorem test_meets_PlaceTaken :
    busy.Accepts two ∧ (0x04#8).toNat = (4 : LoadNo).val ∧ busy.conf.loads[4].enabled = true ∧
    busy.conf.loads[4].permitted.getLsbD 2 = true ∧
    ¬ BadDemand busy.conf.channels[busy.conf.loads[4].channel] (requesterOf busy.conf (slotOf two)).ceiling
      ⟨0x02, 0x00⟩ 0x02 0x0000 ∧
    busy.held[2] < (requesterOf busy.conf (slotOf two)).quota ∧ busy.records[2] = .free ∧
    (∀ m : Handle, m < 2 → busy.records[m] ≠ .free) ∧ requesterCount busy.lists[4] < 6 :=
  ⟨accepts_busy, rfl, by decide +kernel, by decide +kernel, not_bad, by decide +kernel⟩

/-- A record of slot 3 on handle 59 and a LAPSED one on handle 58. -/
def others : State :=
  withRecord (withRecord base 59 (.live { demand 3 2 0 with owner := 3 } none)) 58
    (.lapsed { demand 3 2 1 with owner := 3 } 5000)

theorem test_meets_HandleChecks :
    others.Accepts two ∧ 64 ≤ (0x40#8).toNat ∧ 60 ≤ (0x3C#8).toNat ∧ (0x3F#8).toNat ≤ 63 ∧ others.records[0] = .free ∧
    others.records[59] = .live { demand 3 2 0 with owner := 3 } none ∧
    others.records[58] = .lapsed { demand 3 2 1 with owner := 3 } 5000 ∧ (3 : SlotNo) ≠ slotOf two ∧ two.slot ≠ 0#4 :=
  ⟨accepts_two rfl rfl rfl, by decide +kernel⟩

/-- Handle 1 of `busy` LAPSED, with room on its list and without. -/
def lapsed : State := { withRecord busy 1 (.lapsed (demand 4 1 10) 1) with lists := busy.lists.set 4 [] }
def lapsedFull : State := { lapsed with lists := lapsed.lists.set 4 [10, 11, 12, 13, 14, 15] }

theorem test_meets_Renew :
    busy.Accepts two ∧ (0x01#8).toNat = (1 : Handle).val ∧ (demand 4 1 10).owner = slotOf two ∧
    busy.records[1] = .live (demand 4 1 10) (some 1000) ∧
    lapsed.records[1] = .lapsed (demand 4 1 10) 1 ∧ requesterCount lapsed.lists[4] < 6 ∧
    lapsedFull.records[1] = .lapsed (demand 4 1 10) 1 ∧ 6 ≤ requesterCount lapsedFull.lists[4] :=
  ⟨accepts_busy, rfl, rfl, by decide +kernel⟩

theorem test_meets_Amend :
    busy.Accepts two ∧ busy.records[1] = .live (demand 4 1 10) (some 1000) ∧
    lapsed.records[1] = .lapsed (demand 4 1 10) 1 ∧
    BadDemand busy.conf.channels[4] (requesterOf busy.conf (demand 4 1 10).owner).ceiling ⟨0x03, 0x00⟩ 0x02 0x0000 ∧
    ¬ BadDemand busy.conf.channels[4] (requesterOf busy.conf (demand 4 1 10).owner).ceiling ⟨0x02, 0x00⟩ 0x02 0x0000 :=
  ⟨accepts_busy, by decide +kernel, by decide +kernel, is_bad, not_bad⟩

theorem test_meets_Retire :
    busy.records[1] = .live (demand 4 1 10) (some 1000) ∧ lapsed.records[1] = .lapsed (demand 4 1 10) 1 ∧
    (0x01#8).toNat = (1 : Handle).val ∧ (demand 4 1 10).owner = slotOf two := by
  decide +kernel

theorem test_meets_WholeSlot :
    busy.Accepts two ∧ 12 ≤ (0x0C#8).toNat ∧ (0x0B#8).toNat = 11 ∧ (0x0A#8).toNat ≤ 10 ∧
    (0x0A#8).toNat ≠ two.slot.toNat ∧ (0x02#8).toNat = (2 : SlotNo).val ∧ (2 : SlotNo).val = two.slot.toNat :=
  ⟨accepts_busy, by decide⟩

theorem test_meets_HoldAndGrace :
    ticking.inReset = false ∧ ticking.records[0] = .live (demand 3 2 1) (some 1) ∧
    ticking.records[2] = .lapsed (demand 3 2 1) 1 := by
  decide +kernel

theorem test_meets_RecordsAreShown :
    busy.Accepts two ∧ lapsed.records[1] = .lapsed (demand 4 1 10) 1 ∧ busy.records[63] = .free ∧
    busy.records[0] = .live (demand 3 2 0) none ∧ busy.records[1] = .live (demand 4 1 10) (some 1000) ∧
    busy.lists[3][0]? = some 0 ∧ busy.lists[4].length ≤ 1 ∧ 16 ≤ (0x10#8).toNat :=
  ⟨accepts_busy, by decide +kernel⟩

theorem test_meets_RequesterSettings :
    busy.Supervised sup ∧ busy.store.writing = none ∧ (requesterOf busy.conf 2).enabled = true ∧ busy.held[2] ≠ 0 ∧
    (requesterOf busy.conf 10).enabled = false ∧ busy.held[3] = 0 ∧ (requesterOf busy.conf 0).quota = 8 ∧
    60 < (0x3D#8).toNat ∧ (0x3C#8).toNat ≤ 60 ∧ 3 < (0x04#8).toNat :=
  ⟨supervised_busy, rfl, by decide +kernel⟩

/-! The laws on `busy`, a state between reset and a step: each invariant's premises hold there, and a step follows. -/

theorem steps_busy : step { busy with pending := [.lock sup 0x03] } = .next (after (.lock sup 0x03) busy) := rfl

theorem confSound_busy : busy.ConfSound where
  inForce := (Configuration.isWellFormed_iff _).1 (by decide +kernel)
  image _ := (Configuration.isWellFormed_iff _).1 (by decide +kernel)
  writing x h := by simp [busy, withRecord, withFeed, withChan, base, State.reset] at h
  pending i h := by simp [busy, withRecord, withFeed, withChan, base, State.reset] at h

theorem storeSound_busy : busy.StoreSound where
  valid h := by simp [busy, withRecord, withFeed, withChan, base, State.reset] at h
  writing _ := by decide +kernel
  inForce x h := by simp [busy, withRecord, withFeed, withChan, base, State.reset] at h

theorem heldSound_busy : busy.HeldSound where
  counts := by decide +kernel
  owners h := by
    have h0 : busy.records[(0 : Handle)] = .live (demand 3 2 0) none := by decide +kernel
    have h1 : busy.records[(1 : Handle)] = .live (demand 4 1 10) (some 1000) := by decide +kernel
    have hf : ∀ h : Handle, h ≠ 0 → h ≠ 1 → busy.records[h] = .free := by decide +kernel
    by_cases e0 : h = 0
    · subst e0
      rw [h0]
      show (2 : SlotNo).val ≤ 10
      decide
    · by_cases e1 : h = 1
      · subst e1
        rw [h1]
        show (2 : SlotNo).val ≤ 10
        decide
      · rw [hf h e0 e1]
        trivial

theorem listsSound_busy : busy.ListsSound where
  holdsLive := by decide +kernel
  once := by decide +kernel
  capacity := by decide +kernel
  ordered := by decide +kernel

theorem winners_busy : busy.WinnersHeld := by unfold State.WinnersHeld; decide +kernel

/-- The laws of the feeds, each as a check over the channels and the feeds. -/
def feedsCheck (s : State) : Bool :=
  let d := s.drive
  let x := s.conf
  decide ((∀ c : Ch, d.chans[c].wanted = .off → d.chans[c].state = .disabled ∨ d.chans[c].state = .off) ∧
    (∀ c : Ch, d.chans[c].state.driven = false → d.chans[c].applied = .off ∧ d.chans[c].reservation = 0) ∧
    (∀ c : Ch, d.chans[c].state = .inrush → d.chans[c].reservation = inrushReservation x.channels[c]) ∧
    (∀ c : Ch, d.chans[c].state = .on →
      d.chans[c].reservation = steadyReservation x.channels[c] d.chans[c].applied) ∧
    (∀ c : Ch, d.chans[c].upgrade = true → d.chans[c].state = .on ∧ d.chans[c].reservation <
      steadyReservation x.channels[c] (levelToApply x.channels[c] d.chans[c].wanted)) ∧
    (∀ (f : Fin 3) (c : Ch), ∀ k ∈ [EntryKind.fresh, .upgrade], (⟨c, k⟩ : Entry) ∈ d.feeds[f].queue ↔
      x.channels[c].feed.index = f ∧ d.chans[c].entryKind = some k)) &&
  decide ((∀ f : Fin 3, (d.feeds[f].queue.map Entry.ch).Nodup) ∧
    (∀ f : Fin 3, d.feeds[f].queue.Pairwise (fun a b => d.chans[b.ch].rank ≤ d.chans[a.ch].rank)) ∧
    (∀ f : Fin 3, d.feeds[f].admitted.Nodup ∧ ∀ c : Ch, c ∈ d.feeds[f].admitted ↔
      x.channels[c].feed.index = f ∧ d.chans[c].state.driven = true) ∧
    (∀ f : Fin 3, d.feeds[f].committed = d.reserved x f ∧ d.feeds[f].committed ≤ x.budgets[f]))

theorem feedsSound_of_check {s : State} (h : feedsCheck s = true) : s.FeedsSound := by
  simp only [feedsCheck, Bool.and_eq_true, decide_eq_true_eq] at h
  obtain ⟨⟨h1, h2, h3, h4, h5, h6⟩, h7, h8, h9, h10⟩ := h
  exact ⟨h1, h2, h3, h4, h5, fun f e => h6 f e.ch e.kind (by cases e.kind <;> simp), h7, h8, h9, h10⟩

theorem feedsSound_busy : busy.FeedsSound := feedsSound_of_check (by decide +kernel)

theorem lowHolds_busy : busy.LowHolds := by unfold State.LowHolds; decide +kernel
theorem retriesBounded_busy : busy.RetriesBounded := by unfold State.RetriesBounded; decide +kernel

theorem pairsSound_busy : busy.PairsSound where
  holders := by decide +kernel
  deadTime := by decide +kernel
  disabled := by decide +kernel

theorem heatBounded_busy : busy.HeatBounded := by unfold State.HeatBounded; decide +kernel

theorem linesSound_busy : busy.LinesSound := by
  intro n
  have h : ∀ n : LineNo, ¬ (busy.conf.bindings[n].enabled = true ∧ busy.active n = true) ∧
      busy.records[lineHandle n] = .free := by decide +kernel
  rw [if_neg (h n).1]
  exact (h n).2

theorem flashSound_flashing : flashing.FlashSound ∧
    step { flashing with pending := [.onPhaseExpiry] } = .next (after .onPhaseExpiry flashing) :=
  ⟨by unfold State.FlashSound; decide +kernel, rfl⟩

theorem checkSound_flashing : flashing.CheckSound ∧
    step { flashing with pending := [.biasedStepEnd 1] } = .next (after (.biasedStepEnd 1) flashing) := by
  refine ⟨fun r h => ?_, rfl⟩
  obtain rfl : r = ⟨0x0058#16, ⟨3, .biased, 0⟩⟩ := by
    have e : flashing.drive.check.run = some ⟨0x0058#16, ⟨3, .biased, 0⟩⟩ := rfl
    exact Option.some.inj (h.symm.trans e)
  decide +kernel

theorem test_meets_UnchangedPair :
    ∀ c ∈ ([3, 4, 7] : List Ch), (busy.drive.chans[c].wanted, busy.drive.chans[c].cls) = busy.winnerPair c := by
  decide +kernel

/-- CH0 in ON holds the pair of CH0 and CH1, for which CH1 waits. -/
def paired : State :=
  withPair (withFeed (withChan (withChan base 0 (drivenAt .on .steady 2 42)) 1
    (chan (.waiting (.interlock 7)) .steady (some 3))) 0 ⟨42, [], [0]⟩) 0 ⟨.a, none⟩

/-- CH5 locked and wanted, CH6 locked and not wanted, CH2 latched after an overload and hot. -/
def locked : State :=
  let s := withChan (withChan base 5 (chan .disabled .steady (some 2))) 6 (chan .disabled .off none)
  withMonitor (withChan s 2 { chan .latched .steady (some 2) with retries := 2, lastFault := some .overload }) 2
    ⟨64 * 200 * 200 + 1, true, 0⟩

/-- What the Sequencer of CH3 or CH4 makes of a new pair, by the clauses of R60 to R64: OFF releases and clears; a class
of 1 under supply-low sheds; a class moves a waiting entry; DIM 32 in ON is applied at once, and from there STEADY waits
as an upgrade; in OFF a level enters the switch-on path. -/
theorem test_meets_NewPair :
    PairsWellFormed busy.env.conf.pairs ∧
    (let low : State := { busy with supply := ⟨true, 0, 150⟩ }
     let off := busy.drive.takePair busy.env 3 .off none
     let shed := busy.drive.takePair low.env 3 .steady (some 1)
     let moved := busy.drive.takePair busy.env 4 .steady (some 3)
     let dim := busy.drive.takePair busy.env 3 (.dim 32) (some 2)
     let up := dim.1.takePair busy.env 3 .steady (some 3)
     let on := busy.drive.takePair busy.env 2 .steady (some 0)
     off.2 = true ∧ off.1.chans[3].state = .off ∧ off.1.feeds[0] = ⟨0, [⟨4, .fresh⟩], []⟩ ∧
     busy.drive.takePair busy.env 7 .off (some 2) =
       ({ busy.drive with chans := busy.drive.chans.set 7 { busy.drive.chans[7] with cls := some 2 } }, false) ∧
     shed.2 = true ∧ shed.1.chans[3].lastShed = some .undervolt ∧ shed.1.chans[3].state = .waiting .budget ∧
     shed.1.feeds[0].queue = [⟨4, .fresh⟩, ⟨3, .fresh⟩] ∧ moved.2 = true ∧ moved.1.feeds[0].queue = [⟨4, .fresh⟩] ∧
     dim.2 = true ∧ dim.1.chans[3].applied = .dim 32 ∧ dim.1.feeds[0].committed = 21 ∧
     up.2 = true ∧ up.1.chans[3].upgrade = true ∧ up.1.chans[3].applied = .dim 32 ∧
     up.1.feeds[0].queue = [⟨3, .upgrade⟩, ⟨4, .fresh⟩] ∧
     on.2 = true ∧ on.1.chans[2].state = .waiting .budget ∧ on.1.feeds[0].queue = [⟨4, .fresh⟩, ⟨2, .fresh⟩]) :=
  ⟨pairs_conf, by decide +kernel⟩

/-- To OFF from ON the holder's pair goes into dead time; from LATCHED the hot channel is marked (R63). -/
theorem test_meets_NewPair_off :
    (paired.drive.takePair paired.env 0 .off none).1.pairs[0] = ⟨.none, some 50⟩ ∧
    (locked.drive.takePair locked.env 2 .off none).1.chans[2].cooling = true ∧
    (locked.drive.takePair locked.env 2 .off none).1.chans[2].retries = 0 ∧
    (locked.drive.takePair locked.env 2 .off none).2 = false := by
  decide +kernel

theorem test_meets_LoadMap :
    busy.Accepts two ∧ busy.Supervised sup ∧ busy.store.writing = none ∧ 32 ≤ (0x20#8).toNat ∧ 16 ≤ (0x10#8).toNat ∧
    2048 ≤ (0x0800#16).toNat ∧ (0x07FF#16).toNat < 2048 ∧ busy.useCount 3 ≠ 0 ∧ busy.useCount 31 = 0 ∧
    busy.lineNames 5 0 = true ∧ (∀ n, busy.lineNames 31 n = false) :=
  ⟨accepts_busy, supervised_busy, rfl, by decide +kernel⟩

/-- Each check of the configuration requests at the value where it fails, and its status (R50, R51). -/
theorem test_meets_ChannelConfiguration :
    let good : LimitsParams := ⟨2, 1023, 1023, 16, 1, 1023, 16, 255⟩
    let prof : ProfileParams := ⟨0, 1023, 1023, 255, 7, 1, 1⟩
    let limits (c : Byte) (p : LimitsParams) := (answer (.setChannelLimits sup c p) base).1
    let profile (c : Byte) (p : ProfileParams) := (answer (.setChannelProfile sup c p) base).1
    limits 15 good = .ok ∧ profile 15 prof = .ok ∧ limits 16 good = .badValue ∧ profile 16 prof = .badValue ∧
    limits 3 good = .wrongState ∧ profile 3 prof = .wrongState ∧ limits 15 { good with feed := 3 } = .badValue ∧
    limits 15 { good with k := 17 } = .badValue ∧ limits 15 { good with inrushLimit := 0 } = .badValue ∧
    profile 15 { prof with loadType := 1 } = .badValue ∧ profile 15 { prof with retryLimit := 8 } = .badValue := by
  decide +kernel

theorem test_meets_Lock :
    paired.Supervised sup ∧ PairsWellFormed paired.conf.pairs ∧ paired.drive.chans[15].state = .disabled ∧
    paired.drive.chans[0].state ≠ .disabled ∧ (∀ e ∈ paired.drive.feeds[0].queue, e.ch = 0) ∧
    paired.conf.pairs[0].enabled = true ∧ paired.conf.pairs[0].a = 0 ∧ paired.drive.pairs[0].holder = .a :=
  ⟨⟨rfl, by decide, rfl⟩, pairs_conf, by decide +kernel⟩

theorem test_meets_UnlockAndClearFault :
    locked.Supervised sup ∧ locked.drive.chans[5].state = .disabled ∧ locked.conf.channels[5].configured = true ∧
    locked.drive.chans[5].wanted ≠ .off ∧ locked.drive.chans[6].wanted = .off ∧
    locked.conf.channels[15].configured = false ∧ locked.drive.chans[3].state ≠ .disabled ∧
    locked.drive.chans[3].state ≠ .tripped ∧ locked.drive.chans[3].state ≠ .latched ∧
    locked.drive.chans[2].state = .latched :=
  ⟨⟨rfl, by decide, rfl⟩, by decide +kernel⟩

/-- A cooling CH2 at T_cool + 1 and a cooling CH3 at T_cool. -/
def coolingTwo : State :=
  let s := withMonitor (withMonitor base 2 ⟨2560001, true, 0⟩) 3 ⟨2560000, true, 0⟩
  withChan (withChan s 2 { chan .off .steady (some 2) with cooling := true }) 3
    { chan (.waiting .cooling) .steady (some 2) with cooling := true }

theorem test_meets_SwitchOn :
    PairsWellFormed coolingTwo.env.conf.pairs ∧ coolingTwo.drive.chans[2].cooling = true ∧
    64 * coolingTwo.env.conf.channels[2].iRate ^ 2 < coolingTwo.env.monitors[2].heat ∧
    ¬ 64 * coolingTwo.env.conf.channels[3].iRate ^ 2 < coolingTwo.env.monitors[3].heat ∧
    (∀ p : PairNo, coolingTwo.env.conf.pairs[p].enabled = true →
      coolingTwo.env.conf.pairs[p].a ≠ 3 ∧ coolingTwo.env.conf.pairs[p].b ≠ 3) ∧
    coolingTwo.drive.chans[0].cooling = false ∧ coolingTwo.env.conf.pairs[0].a = 0 ∧
    coolingTwo.drive.pairs[0] = ⟨.none, none⟩ ∧ paired.env.conf.pairs[0].b = 1 ∧
    paired.drive.pairs[0].holder ≠ .b ∧ paired.drive.pairs[0].holder ≠ .none ∧
    (withPair base 0 ⟨.none, some 1⟩).drive.pairs[0].dead ≠ none :=
  ⟨pairs_conf, by decide +kernel⟩

/-- CH5 waits alone on feed A, whose budget its inrush reservation of 420 fills; CH6 the same with a window of 0. -/
def alone (c : Ch) (window : Nat) : State :=
  let s := withFeed (withChan base c (chan (.waiting .budget) (.dim 16) (some 2))) 0 ⟨80, [⟨c, .fresh⟩], [7]⟩
  { s with conf := { conf with budgets := #v[500, 0, 0]
                               channels := conf.channels.set c { lamp with inrushWindow := window } } }

/-- CH5 in ON at DIM 16 waits alone with an upgrade to STEADY, for which the budget leaves the 31 it needs. -/
def raising : State :=
  let s := withFeed (withChan base 5 { drivenAt .on (.dim 16) 2 11 with wanted := .steady, upgrade := true }) 0
    ⟨69, [⟨5, .upgrade⟩], [7, 5]⟩
  { s with conf := { conf with budgets := #v[100, 0, 0] } }

theorem test_meets_AdmittedUpgrade :
    raising.drive.feeds[0].queue = [⟨5, .upgrade⟩] ∧ raising.env.conf.channels[5].feed.index = 0 ∧
    steadyReservation raising.env.conf.channels[5] .steady - raising.drive.chans[5].reservation = 31 ∧
    raising.env.conf.budgets[0] - raising.drive.feeds[0].committed = 31 ∧
    (raising.drive.pass raising.env 0).chans[5].applied = .steady ∧
    (raising.drive.pass raising.env 0).feeds[0] = ⟨100, [], [7, 5]⟩ := by
  decide +kernel

theorem test_meets_AdmittedFresh :
    ∀ s ∈ [alone 5 5, alone 5 0], s.drive.feeds[0].queue = [⟨5, .fresh⟩] ∧ s.drive.chans[5].reservation = 0 ∧
      s.env.conf.channels[5].feed.index = 0 ∧
      min 1023 (s.env.conf.channels[5].iNom * s.env.conf.channels[5].inrushFactor) =
        s.env.conf.budgets[0] - s.drive.feeds[0].committed ∧ s.env.low = false := by
  decide +kernel

/-- With the window of 0 the channel is in ON at once and holds its steady reservation of 11 beside the 80. -/
theorem test_window_0_goes_on :
    ((alone 5 0).drive.pass (alone 5 0).env 0).chans[5].state = .on ∧
    ((alone 5 0).drive.pass (alone 5 0).env 0).feeds[0] = ⟨91, [], [7, 5]⟩ ∧
    ((alone 5 5).drive.pass (alone 5 5).env 0).feeds[0] = ⟨500, [], [7, 5]⟩ := by
  decide +kernel

theorem test_meets_Status :
    busy.Accepts two ∧ 16 ≤ (0x10#8).toNat ∧ busy.drive.chans[3].retries ≤ 7 ∧ PairsWellFormed busy.conf.pairs ∧
    (∀ p : PairNo, busy.conf.pairs[p].enabled = true → busy.conf.pairs[p].a ≠ 3 ∧ busy.conf.pairs[p].b ≠ 3) ∧
    paired.Accepts two ∧ paired.drive.chans[0].retries ≤ 7 ∧ paired.conf.pairs[0].enabled = true ∧
    paired.conf.pairs[0].a = 0 ∧ paired.conf.pairs[0].b = 1 ∧ 3 ≤ (0x03#8).toNat ∧
    busy.drive.feeds[0].queue.length ≤ 16 :=
  ⟨accepts_busy, by decide, by decide +kernel, pairs_conf, by decide +kernel,
    accepts_two rfl rfl rfl, by decide +kernel⟩

/-- CH2 driven, CH4 waiting for budget, CH5 tripped, CH6 waiting for a pair that is given up. -/
def pairing : State :=
  let s := withChan (withChan base 2 (drivenAt .on .steady 2 42)) 4 (chan (.waiting .budget) .steady (some 1))
  let s := withFeed s 0 ⟨42, [⟨4, .fresh⟩], [2]⟩
  withChan (withChan s 5 (chan .tripped .steady (some 2))) 6 (chan (.waiting (.interlock 3)) .steady (some 2))

/-- The checks and the holders of SET INTERLOCK at their boundary operands (R78). -/
theorem test_meets_Interlock :
    let set (pair a b : Byte) := answer (.setInterlock sup pair 1 a b) pairing
    (set 8 2 3).1 = .badValue ∧ (set 7 16 3).1 = .badValue ∧ (set 7 2 16).1 = .badValue ∧ (set 7 2 2).1 = .badValue ∧
    (set 7 1 2).1 = .badValue ∧ (set 7 2 15).2[3]? = some 1 ∧ (set 7 15 2).2[3]? = some 2 ∧
    (set 7 5 4).2[3]? = some 2 ∧ (set 7 4 5).2[3]? = some 1 ∧ (set 7 4 3).2[3]? = some 1 ∧ (set 7 6 3).2[3]? = some 1 ∧
    (set 7 3 6).2[3]? = some 2 ∧ (set 7 3 15).2[3]? = some 0 := by
  decide +kernel

/-- The states whose members SET INTERLOCK moves: CH4 displaced by the driven CH2, CH7 waiting beside CH6, and CH1 a
former member (R78). -/
theorem test_meets_Interlock_moves :
    pairing.FeedsSound ∧ paired.FeedsSound ∧
    (after (.setInterlock sup 7 1 2 4) pairing).drive.chans[4].state = .waiting (.interlock 0) ∧
    (after (.setInterlock sup 7 1 2 4) pairing).drive.feeds[0].queue = [] ∧
    (let both := withChan pairing 7 (chan (.waiting (.interlock 2)) .steady (some 2))
     (after (.setInterlock sup 6 1 6 7) both).drive.pairs[6].holder = .b ∧
     (after (.setInterlock sup 6 1 6 7) both).drive.chans[7].state = .waiting .budget ∧
     (after (.setInterlock sup 6 1 6 7) both).drive.chans[6].state = .waiting (.interlock 3)) ∧
    (after (.setInterlock sup 0 1 2 3) paired).drive.chans[1].state = .waiting .budget ∧
    (after (.setInterlock sup 0 0 0 0) paired).drive.chans[1].state = .waiting .budget :=
  ⟨feedsSound_of_check (by decide +kernel), feedsSound_of_check (by decide +kernel), by decide +kernel⟩

theorem test_interlock_both_driven :
    (answer (.setInterlock sup 7 1 2 3) (withChan pairing 3 (drivenAt .on .steady 2 42))).1 = .wrongState := by
  decide +kernel

/-- The pair of CH0 and CH1 in the last millisecond of its dead time, with wait starts for its members. -/
def deadTimeOf (a b : Option Nat) (clsB : Cls) : State :=
  let put (s : State) (c : Ch) (w : Option Nat) (k : Cls) : State :=
    match w with
    | none => s
    | some n => withChan s c (chan (.waiting (.interlock n)) .steady (some k))
  withPair (put (put base 0 a 2) 1 b clsB) 0 ⟨.none, some 1⟩

theorem test_meets_DeadTime :
    (∀ s ∈ [deadTimeOf none none 2, deadTimeOf (some 5) none 2, deadTimeOf (some 5) (some 5) 2,
      deadTimeOf (some 5) (some 4) 2, deadTimeOf (some 4) (some 5) 3],
      s.inReset = false ∧ s.conf.pairs[0].enabled = true ∧ s.drive.pairs[0].dead = some 1 ∧
      s.conf.pairs[0].a ≠ s.conf.pairs[0].b) ∧
    (after (.deadTimeExpiry 0) (deadTimeOf none none 2)).drive.pairs[0] = ⟨.none, none⟩ ∧
    (after (.deadTimeExpiry 0) (deadTimeOf (some 5) none 2)).drive.pairs[0].holder = .a ∧
    (after (.deadTimeExpiry 0) (deadTimeOf (some 5) (some 5) 2)).drive.pairs[0].holder = .a ∧
    (after (.deadTimeExpiry 0) (deadTimeOf (some 5) (some 4) 2)).drive.pairs[0].holder = .b ∧
    (after (.deadTimeExpiry 0) (deadTimeOf (some 4) (some 5) 3)).drive.pairs[0].holder = .b := by
  decide +kernel

/-- CH5 at the end of its inrush, and CH6 in ON at DIM 16 at the end of its clean run. -/
def timed : State :=
  let s := withChan base 5 { drivenAt .inrush .steady 2 420 with inrushTimer := some 1 }
  withFeed (withChan s 6 { drivenAt .on (.dim 16) 2 11 with cleanTimer := some 1, retries := 1 }) 0 ⟨431, [], [5, 6]⟩

theorem test_meets_Timers :
    timed.inReset = false ∧ timed.drive.chans[5].state = .inrush ∧ timed.drive.chans[5].inrushTimer = some 1 ∧
    timed.drive.chans[6].state = .on ∧ timed.drive.chans[6].cleanTimer = some 1 ∧
    timed.drive.chans[6].applied = .dim 16 ∧ timed.drive.chans[3].state.driven = false ∧
    (after (.inrushTimerExpiry 5) timed).drive.feeds[0].committed = 53 ∧
    (after .pwmPeriodStart timed).gate 6 = .pwm 16 := by
  decide +kernel

/-- The gates of R55 and R123: CH6 of FLASH in the on phase and in the off phase, CH3 at STEADY, CH5 undriven, and CH6 at
DIM 16 before a PWM period starts. -/
theorem test_gates :
    flashing.gate 6 = .on ∧ (offPhase false).gate 6 = .off ∧ busy.gate 3 = .on ∧ busy.gate 5 = .off ∧
    timed.gate 6 = .on := by
  decide +kernel

/-- CH5 tripped SHORT with its retry due, CH6 tripped OVERLOAD at T_cool, CH7 cooling in WAITING, CH2 cooling in OFF. -/
def retrying : State :=
  let s := withChan base 5 { chan .tripped .steady (some 2) with
    retryTimer := some 1, retries := 1, lastFault := some .short }
  let s := withChan s 6 { chan .tripped .steady (some 2) with retries := 2, lastFault := some .overload }
  let s := withChan s 7 { chan (.waiting .cooling) .steady (some 2) with cooling := true }
  withMonitor (withChan s 2 { chan .off .off none with cooling := true }) 6 ⟨2560000, true, 0⟩

theorem test_meets_Retries :
    retrying.inReset = false ∧ retrying.drive.chans[5].state = .tripped ∧
    retrying.drive.chans[5].retryTimer = some 1 ∧ retrying.drive.chans[6].lastFault = some .overload ∧
    retrying.monitors[6].heat = 64 * retrying.conf.channels[6].iRate ^ 2 ∧
    retrying.drive.chans[7].cooling = true ∧ retrying.monitors[7].heat ≤ 64 * retrying.conf.channels[7].iRate ^ 2 ∧
    retrying.drive.chans[2].cooling = true ∧ retrying.drive.chans[2].state ≠ .waiting .cooling := by
  decide +kernel

/-- Stage 8 of a completion, from R67 and R70: CH6 takes its retry at a reading that brings H below T_cool and not at
one that leaves it above; CH7 goes on, and the flag of CH2 clears in OFF. Each needs 420 of a budget of 100. -/
theorem test_meets_Retries_by_sample :
    (let s := withMonitor retrying 6 ⟨2560001, true, 0⟩
     s.drive.chans[6].state.driven = false ∧ s.drive.chans[6].state = .tripped ∧ s.heatAfter 6 0 = 2559376 ∧
     (after (.sampleCompletion 6 0) s).drive.chans[6].state = .waiting .budget) ∧
    (let s := withMonitor retrying 6 ⟨2561000, true, 0⟩
     s.heatAfter 6 0 = 2560375 ∧ (after (.sampleCompletion 6 0) s).drive.chans[6].state = .tripped) ∧
    retrying.drive.chans[7].state = .waiting .cooling ∧
    (after (.sampleCompletion 7 0) retrying).drive.chans[7].state = .waiting .budget ∧
    (let x := retrying.drive.chans[2]
     (after (.sampleCompletion 2 0) retrying).drive.chans[2] = { x with cooling := false, stallTimer := 2550 }) := by
  decide +kernel

/-- The choice of log entry 37 for a part whose R70 and R67 meet: CH5 comes to its retry with the flag set and H above
T_cool, and waits. -/
theorem test_retry_with_heat :
    let s := withMonitor (withChan retrying 5 { retrying.drive.chans[5] with cooling := true }) 5 ⟨2560001, false, 0⟩
    (after (.retryTimerExpiry 5) s).drive.chans[5].state = .waiting .cooling := by
  decide +kernel

theorem test_meets_PairMembers :
    paired.PairsSound ∧ paired.conf.pairs[0].enabled = true ∧ paired.drive.chans[0].state.driven = true ∧
    step { busy with pending := [.lock sup 0x03] } = .next (after (.lock sup 0x03) busy) :=
  ⟨⟨by decide +kernel, by decide +kernel, by decide +kernel⟩, by decide +kernel, by decide +kernel, rfl⟩

/-- CH3 in ON one step below T_warn, and one step below T_trip. -/
def warm (h : Nat) : State := withMonitor busy 3 ⟨h, false, 0⟩

theorem test_meets_Sample :
    (warm 7679999).inReset = false ∧ (warm 7679999).monitors[3].warn = false ∧
    (after (.sampleCompletion 3 199) (warm 7679999)).monitors[3].warn = true ∧
    (warm 7679999).drive.chans[7].state.driven = false ∧ (warm 7679999).drive.chans[7].cooling = false ∧
    (warm 7679999).drive.chans[7].state ≠ .tripped ∧
    (after (.sampleCompletion 7 0) (warm 7679999)).monitors[7].warn = false := by
  decide +kernel

/-- CH5 TRIPPED after SHORT takes none of stage 8 and keeps its notice sets, but a warn flag that is set there, as after
a lower I_rate, is handed on (R98); CH6 in INRUSH finds no trip. -/
theorem test_meets_Sample_rest :
    (let s := withMonitor retrying 5 ⟨7700000, false, 0⟩
     s.drive.chans[5].state.driven = false ∧ s.drive.chans[5].state = .tripped ∧
     s.drive.chans[5].lastFault = some .short ∧ s.drive.chans[5].cooling = false ∧
     (after (.sampleCompletion 5 0) s).monitors[5].warn = true ∧
     (after (.sampleCompletion 5 0) s).drive.chans[5] = { s.drive.chans[5] with stallTimer := 2550 } ∧
     (after (.sampleCompletion 5 0) s).drive.notice.warn = 0x0020#16) ∧
    ticking.drive.chans[6].state = .inrush ∧ ticking.inReset = false ∧ ticking.tickOn 6 = true := by
  decide +kernel

theorem test_meets_Sample_no_trip : ¬ ticking.findsShort 6 899 ∧ ¬ ticking.findsOverload 6 899 := by
  unfold State.findsOverload State.findsShort
  refine ⟨?_, ?_⟩ <;> decide +kernel

theorem test_meets_Trips :
    (warm 0).findsShort 3 200 ∧ ¬ (warm 10239999).findsShort 3 199 ∧ ¬ (warm 10240000).findsOverload 3 199 ∧
    (warm 10240100).findsOverload 3 199 ∧ 1 ≤ busy.conf.channels[3].iRate ∧ PairsWellFormed busy.conf.pairs := by
  unfold State.findsOverload State.findsShort
  refine ⟨?_, ?_, ?_, ?_, ?_, pairs_conf⟩ <;> decide +kernel

/-- CH8, a motor in ON, with one stall tick left. -/
def stalling (timer : Nat) : State :=
  withFeed (withChan base 8 { drivenAt .on .steady 2 42 with stallTimer := timer }) 1 ⟨42, [], [8]⟩

theorem test_meets_Stall :
    (stalling 1).inReset = false ∧ (stalling 1).conf.channels[8].loadType = .motor ∧
    (stalling 1).drive.chans[8].state = .on ∧ (stalling 1).drive.chans[8].stallTimer = 1 ∧
    (stalling 1).tickOn 8 = true ∧ (stalling 1).currentAt 8 150 = 150 ∧ (stalling 1).conf.channels[8].stallLevel = 150 ∧
    (after (.sampleCompletion 8 150) (stalling 1)).drive.chans[8].lastFault = some .stall ∧
    (after (.sampleCompletion 8 149) (stalling 1)).drive.chans[8].stallTimer = 600 ∧
    (after (.sampleCompletion 8 150) (stalling 2)).drive.chans[8].stallTimer = 1 ∧
    (after (.stallTimerExpiry 8) (stalling 1)).drive.chans[8].state = .tripped := by
  decide +kernel

/-- A MOTOR with no inrush window, tripped by STALL and cleared before the next completion, runs from the reload (R95;
log entry 31). -/
theorem test_stall_timer_after_clear :
    let s := withChan (withFeed base 1 ⟨0, [], []⟩) 8 { chan .tripped .steady (some 2) with
      lastFault := some .stall, retries := 1, retryTimer := some 1000, stallTimer := 0 }
    let s := { s with conf := { s.conf with channels := s.conf.channels.set 8 { motor with inrushWindow := 0 } } }
    let t := after (.clearFault sup 8) s
    s.drive.chans[8].stallTimer = 0 ∧ t.drive.chans[8].state = .on ∧ t.drive.chans[8].stallTimer = 600 ∧
      (after (.sampleCompletion 8 150) t).drive.chans[8].stallTimer = 599 := by
  decide +kernel

theorem test_meets_Stall_no_trip : ¬ (stalling 1).findsShort 8 150 ∧ ¬ (stalling 1).findsOverload 8 150 := by
  unfold State.findsOverload State.findsShort
  refine ⟨?_, ?_⟩ <;> decide +kernel

/-- CH3 in ON with an open-load counter and flag. -/
def opening (n : Nat) (flag : Bool) : State :=
  withChan busy 3 { drivenAt .on .steady 2 42 with openCount := n, openFlag := flag }

theorem test_meets_OpenFlag :
    (opening 99 false).inReset = false ∧ (opening 99 false).drive.chans[3].state = .on ∧
    (opening 99 false).tickOn 3 = true ∧ (opening 99 false).conf.channels[3].openLoadLevel = 10 ∧
    (opening 99 false).conf.channels[3].loadType ≠ .motor ∧ (opening 99 false).drive.chans[3].cooling = false ∧
    (after (.sampleCompletion 3 9) (opening 99 false)).drive.chans[3].openFlag = true ∧
    (after (.sampleCompletion 3 9) (opening 98 false)).drive.chans[3].openCount = 99 ∧
    (after (.sampleCompletion 3 10) (opening 99 true)).drive.chans[3].openFlag = false ∧
    (after (.openFlagSet 3) (opening 99 false)).drive.notice.kinds = 0x08#8 ∧
    (after (.openFlagClear 3) (opening 99 true)).drive.chans[3].openFlag = false := by
  decide +kernel

theorem test_meets_OpenFlag_no_trip : ¬ (opening 99 false).findsShort 3 9 ∧ ¬ (opening 99 false).findsOverload 3 9 := by
  unfold State.findsOverload State.findsShort
  refine ⟨?_, ?_⟩ <;> decide +kernel

/-- R96 at an off-tick of a FLASH channel and with an open-load level of 0: counter and flag are kept. R128: the flag of
a complete run is set before and after the expiry of the on phase. -/
theorem test_meets_OpenFlag_kept :
    let off (flag : Bool) := withChan (offPhase flag) 6 { (offPhase flag).drive.chans[6] with openCount := 99 }
    let zeroLevel := { conf with channels := conf.channels.set 3 { lamp with openLoadLevel := 0 } }
    let zero := { opening 99 false with conf := zeroLevel }
    let on := withChan flashing 6 { flashing.drive.chans[6] with openCount := 99 }
    (off false).tickOn 6 = false ∧ (off false).drive.chans[6].state = .on ∧ (off false).inReset = false ∧
    (after (.sampleCompletion 6 0) (off false)).drive.chans[6] = { (off false).drive.chans[6] with stallTimer := 2550 } ∧
    (after (.sampleCompletion 6 0) (off true)).drive.chans[6].openFlag = true ∧
    (after (.sampleCompletion 3 0) zero).drive.chans[3].openCount = 99 ∧
    (after (.sampleCompletion 3 0) zero).drive.chans[3].openFlag = false ∧
    (after .onPhaseExpiry (after (.openFlagSet 6) on)).drive.chans[6].openFlag = true ∧
    (after (.openFlagSet 6) (after .onPhaseExpiry on)).drive.chans[6].openFlag = true := by
  decide +kernel

/-- Lowered to 42 the budget covers CH3; lowered to 41 it does not; raised to 462 it lets CH4 in (R112, R113). -/
theorem test_meets_Budget :
    busy.Supervised sup ∧ busy.store.writing = none ∧ busy.FeedsSound ∧ busy.conf.budgets[0] = 100 ∧
    (after (.setBudget sup 0 42) busy).drive.chans[3].state = .on ∧
    (after (.setBudget sup 0 41) busy).drive.chans[3].state = .waiting .budget ∧
    (after (.setBudget sup 0 462) busy).drive.chans[4].state = .inrush ∧
    (answer (.setBudget sup 3 1) busy).1 = .badValue ∧ (answer (.setBudget sup 2 4001) busy).1 = .badValue :=
  ⟨supervised_busy, rfl, feedsSound_busy, by decide +kernel⟩

theorem test_meets_SupplyLimits :
    let set (uv rec : Word16) := (answer (.setSupplyLimits sup uv rec) busy).1
    set 99 200 = .badValue ∧ set 301 350 = .badValue ∧ set 100 104 = .badValue ∧ set 100 351 = .badValue ∧
    set 100 105 = .ok ∧ set 300 350 = .ok := by
  decide +kernel

theorem test_meets_PassPreempts :
    (∀ x ∈ busy.drive.feeds[0].queue, busy.drive.chans[x.ch].rank ≤ busy.drive.chans[3].rank) ∧
    busy.drive.chans[3].state.driven = true ∧
    (∀ x ∈ busy.drive.feeds[0].queue, busy.env.conf.budgets[0] - busy.drive.feeds[0].committed +
      ((busy.drive.feeds[0].admitted.filter (fun c => busy.drive.chans[c].rank < busy.drive.chans[x.ch].rank)).map
        (fun c => busy.drive.chans[c].reservation)).sum < busy.drive.needed busy.env x) := by
  decide +kernel

/-- CH4 of class 2 waits with a need of 420 behind CH3 of class 1, which holds 42, under a budget. -/
def visiting (budget : Nat) : State :=
  let s := withChan (withChan busy 3 (drivenAt .on .steady 1 42)) 4 (chan (.waiting .budget) .steady (some 2))
  { s with conf := { s.conf with budgets := #v[budget, 500, 4000] } }

/-- With 462 the entry fits, with 420 to 461 CH3 is shed for it, with 419 it stays (R108, R109). -/
theorem test_meets_Visit :
    (visiting 420).FeedsSound ∧ (visiting 462).FeedsSound ∧ (visiting 419).FeedsSound ∧
    (let visited (n : Nat) := (visiting n).drive.visit (visiting n).env 0 ⟨4, .fresh⟩
     (visited 462).feeds[0] = ⟨462, [], [3, 4]⟩ ∧ (visited 461).chans[3].state = .waiting .budget ∧
     (visited 420).feeds[0] = ⟨420, [⟨3, .fresh⟩], [4]⟩ ∧ visited 419 = (visiting 419).drive) :=
  ⟨feedsSound_of_check (by decide +kernel), feedsSound_of_check (by decide +kernel),
    feedsSound_of_check (by decide +kernel), by decide +kernel⟩

/-- CH3 alone is the victim of a budget of 41 (R113). -/
theorem test_meets_Victims :
    busy.drive.VictimsFor 0 4 (busy.drive.feeds[0].committed - 41) [3] where
  among := by decide +kernel
  inOrder := List.pairwise_singleton _ _
  first := by
    have h : ∀ c ∈ busy.drive.feeds[0].admitted, c ∈ ([3] : List Ch) := by decide +kernel
    exact fun c hc _ hn => absurd (h c hc) hn
  enough := by decide +kernel
  noMore _ := by decide +kernel

/-- `busy` with CH3 of class 1, and with the flag set and the count at its last two values. -/
def lowClass : State := withChan busy 3 (drivenAt .on .steady 1 42)
def recovering (n : Nat) : State := { busy with supply := ⟨true, n, 150⟩ }

theorem test_meets_SupplyReadings :
    busy.inReset = false ∧ busy.supply.low = false ∧ busy.conf.uv = 180 ∧ busy.FeedsSound ∧
    lowClass.drive.chans[3].state.driven = true ∧ lowClass.drive.chans[3].rank ≤ 1 ∧
    (after (.supplyReading 179) lowClass).drive.chans[3].lastShed = some .undervolt ∧
    (after (.supplyReading 180) lowClass).drive.chans[3].state = .on ∧
    (after (.supplyReading 199) (recovering 499)).supply = ⟨true, 0, 199⟩ ∧
    (after (.supplyReading 200) (recovering 498)).supply = ⟨true, 499, 200⟩ ∧
    (after (.supplyRecovery 200) (recovering 499)).supply = ⟨false, 0, 200⟩ :=
  ⟨rfl, rfl, rfl, feedsSound_busy, by decide +kernel⟩

/-- The laws of the feeds hold with a channel of class 1 driven, the supply not being low. -/
theorem test_meets_SupplyReadings_feeds : lowClass.FeedsSound := feedsSound_of_check (by decide +kernel)

theorem test_meets_LowSupply :
    busy.ConfSound ∧ busy.FeedsSound ∧ busy.LowHolds ∧
    step { busy with pending := [.supplyReading 179] } = .next (after (.supplyReading 179) busy) :=
  ⟨confSound_busy, feedsSound_busy, lowHolds_busy, rfl⟩

theorem test_meets_Flash :
    flashing.Supervised sup ∧ (answer (.setFlashPeriod sup 39) flashing).1 = .badValue ∧
    (answer (.setFlashPeriod sup 201) flashing).1 = .badValue ∧ (answer (.setFlashPeriod sup 40) flashing).1 = .ok ∧
    (answer (.setFlashPeriod sup 200) flashing).1 = .ok ∧
    (after .onPhaseExpiry flashing).drive.flash = some ⟨.off, 335, .normal, 335, 335⟩ ∧
    (after .onPhaseStart (offPhase false)).drive.flash = some ⟨.on, 335, .normal, 335, 335⟩ ∧
    (after .onPhaseStart (offPhase true)).drive.flash = some ⟨.on, 167, .fast, 167, 168⟩ :=
  ⟨⟨rfl, by decide, rfl⟩, by decide +kernel⟩

/-- Line 0, bound, and line 1, unbound, at a counter. -/
def bouncing (n : Nat) : State := { base with lines := (base.lines.set 0 ⟨false, n⟩).set 1 ⟨true, n⟩ }

theorem test_meets_Lines :
    (bouncing 1).inReset = false ∧ (bouncing 1).lines[0].counter ≤ 1 ∧ (bouncing 1).conf.bindings[0].enabled = true ∧
    (bouncing 1).conf.bindings[1].enabled = false ∧ 1 < (bouncing 2).lines[0].counter ∧
    (after (.lineReading 0 true) (bouncing 2)).lines[0] = ⟨false, 1⟩ ∧
    (after (.debounceChange 1) (bouncing 1)).lines[1] = ⟨false, 20⟩ ∧
    (after (.debounceChange 0) (bouncing 1)).held[11] = 1 ∧ (answer (.readLine two 4) (bouncing 1)).1 = .badValue ∧
    answer (.readLine two 0) (bouncing 1) =
      (.ok, [0x01, 0x00, 0x05, 0x01, 0x00, 0x02, 0x00, 0x00, 0x01, 0x00, 0x00, 0x00, 0x00, 0x00, 0x00]) := by
  decide +kernel

/-- The checks of BIND LINE at the values where they fail, and the two bindings that are taken (R135). -/
theorem test_meets_BindLine :
    let bind (line en pol load : Byte) (l : LevelParam) (cls : Byte) :=
      (answer (.bindLine sup line en pol load l cls) base).1
    bind 4 1 0 5 ⟨1, 0⟩ 2 = .badValue ∧ bind 3 1 2 5 ⟨1, 0⟩ 2 = .badValue ∧ bind 3 1 1 32 ⟨1, 0⟩ 2 = .noLoad ∧
    bind 3 1 1 30 ⟨1, 0⟩ 2 = .noLoad ∧ bind 3 1 1 5 ⟨4, 0⟩ 2 = .badValue ∧ bind 3 1 1 5 ⟨1, 0⟩ 4 = .badValue ∧
    bind 3 1 1 5 ⟨3, 0⟩ 2 = .badValue ∧ bind 3 1 1 5 ⟨3, 64⟩ 2 = .badValue ∧ bind 3 1 1 8 ⟨2, 0⟩ 2 = .badValue ∧
    bind 3 1 1 5 ⟨3, 63⟩ 3 = .ok ∧ bind 0 0 0 255 ⟨9, 0⟩ 9 = .ok := by
  decide +kernel

theorem test_meets_LineRecords :
    base.LinesSound ∧ step { base with pending := [.bindLine sup 1 1 1 5 ⟨1, 0⟩ 2] } =
      .next (after (.bindLine sup 1 1 1 5 ⟨1, 0⟩ 2) base) := by
  refine ⟨fun n => ?_, rfl⟩
  have h : ∀ n : LineNo, ¬ (base.conf.bindings[n].enabled = true ∧ base.active n = true) ∧
      base.records[lineHandle n] = .free := by decide +kernel
  rw [if_neg (h n).1]
  exact (h n).2

/-- CH3 under test with a step's time left, the rail at 270. -/
def testing (x : TestStep) (timer : Nat) : State :=
  { base with
    supply := ⟨false, 0, 270⟩
    drive := { base.drive with check := ⟨some ⟨0x8008#16, ⟨3, x, timer⟩⟩, Vector.replicate 16 .notTested, 2⟩ } }

theorem test_meets_OutputCheck :
    base.Supervised sup ∧ (answer (.checkOutputs sup 0) base).1 = .badValue ∧
    (answer (.checkOutputs sup 1) (testing .biased 0)).1 = .busy ∧
    answer (.checkOutputs sup 0x8008) base = (.ok, 0x01#8 :: 0x02#8 :: List.replicate 13 0x00#8) ∧
    (after (.unbiasedStepEnd 600) (testing .unbiased 1)).drive = (testing .unbiased 1).drive ∧
    (after (.biasedStepEnd 0) (testing .biased 1)).drive = (testing .biased 1).drive ∧
    (after (.unbiasedStepEnd 135) (testing .unbiased 0)).bias = some 3 ∧
    (after (.unbiasedStepEnd 136) (testing .unbiased 0)).drive.check.results[3] = .shortToSupply ∧
    (after (.biasedStepEnd 189) (testing .biased 0)).drive.check.results[3] = .ok ∧
    (after (.biasedStepEnd 190) (testing .biased 0)).drive.check.results[3] = .openLoad ∧
    (after (.biasedStepEnd 190) (testing .biased 0)).drive.check.untested = 1 :=
  ⟨supervised_base, by decide +kernel⟩

theorem test_meets_Store :
    base.Supervised sup ∧ base.store.writing = none ∧ storing.inReset = false ∧ storing.store.writing = some conf :=
  ⟨supervised_base, rfl, rfl, rfl⟩

theorem test_meets_Restart :
    busy.Supervised sup ∧ busy.store.writing = none ∧
    answer (.restart sup) busy = (.ok, 0x02#8 :: List.replicate 14 0x00#8) :=
  ⟨supervised_busy, rfl, by decide +kernel⟩

/-- RESTART empties the pending kinds and the three sets, and the channels go to OFF (R165, R172). -/
theorem test_restart_notices :
    let s := { busy with drive := { busy.drive with notice := ⟨0xFF#8, 0xFFFF#16, 0xFFFF#16, 0xFFFF#16⟩ } }
    (after (.restart sup) s).drive.notice = ⟨0x00#8, 0x0000#16, 0x0000#16, 0x0000#16⟩ ∧
    (after (.restart sup) s).drive.chans[3].state = .off := by
  decide +kernel

/-- Power-on with an image that agrees, and with a write in flight. -/
theorem test_meets_PowerOn :
    (let s := { held with store := { held.store with image := ⟨conf, Config.checkValue conf⟩ } }
     s.store.writing = none ∧ Config.checkValue s.store.image.contents = s.store.image.check) ∧
    storing.store.writing ≠ none :=
  ⟨⟨rfl, rfl⟩, by decide +kernel⟩

theorem test_meets_Configuration :
    busy.ConfSound ∧ busy.StoreSound ∧
    step { busy with pending := [.setBudget sup 0 41] } = .next (after (.setBudget sup 0 41) busy) :=
  ⟨confSound_busy, storeSound_busy, rfl⟩

/-- A frame that ends while CSN has been low since before power-on completed is not taken (R148), and a step in reset
with no command waiting changes nothing. -/
def uncounted : State := { base with link := { base.link with csn := .lowUncounted } }

theorem test_meets_NotTaken :
    uncounted.inReset = false ∧ uncounted.link.csn = .lowUncounted ∧ (requestParts (.lock sup 0x03)).isSome = true ∧
    kindOfByte 0x06 = none ∧ (after (.place two 0x04 ⟨0x01, 0x00⟩ 0x02 0x0000) uncounted).records[0] = .free ∧
    (after (.frameDiscard 7) uncounted).drive.notice.kinds = base.drive.notice.kinds ∧
    (after (.frameDiscard 7) uncounted).link.csn = .high ∧ held.pending = [] ∧ held.inReset = true := by
  decide +kernel

/-- What LOCK and a trip of CH3 release lets in CH4, which waits with a need of 420 (R66, R72, R111). -/
theorem test_meets_ReleasePass :
    (visiting 420).drive.feeds[0].queue = [⟨4, .fresh⟩] ∧ (visiting 420).drive.chans[3].reservation = 42 ∧
    (after (.lock sup 0x03) (visiting 420)).drive.feeds[0] = ⟨420, [], [4]⟩ ∧
    (after (.lock sup 0x03) (visiting 419)).drive.feeds[0] = ⟨0, [⟨4, .fresh⟩], []⟩ ∧
    (after (.sampleCompletion 3 200) (visiting 420)).drive.feeds[0] = ⟨420, [], [4]⟩ ∧
    (after (.sampleCompletion 3 200) (visiting 420)).drive.chans[3].lastFault = some .short := by
  decide +kernel

/-- CH5, admitted while it is under test, ends its test with no result; CH6 is visited next, and with no member above it
the run ends with CHECK (R143). -/
theorem test_meets_AbandonedTest :
    let tested (selection : ChSet) : Drive :=
      let d := { (alone 5 5).drive with
        check := ⟨some ⟨selection, ⟨5, .biased, 2⟩⟩, Vector.replicate 16 .notTested, 2⟩ }
      d.pass (alone 5 5).env 0
    (alone 5 5).drive.chans[5].openFlag = false ∧
    (tested 0x0060).check = ⟨some ⟨0x0060, ⟨6, .unbiased, 1⟩⟩, Vector.replicate 16 .notTested, 2⟩ ∧
    (tested 0x0021).check = ⟨none, Vector.replicate 16 .notTested, 2⟩ ∧
    (tested 0x0021).notice.kinds = 0x20#8 := by
  decide +kernel

/-- The first member starts a full on phase, FAST with its open flag set under outage watch; a running cycle goes on;
the last leave stops it (R124, R125). -/
theorem test_meets_FlashFollows :
    let told (flash : Option Cycle) (x : Channel) : Option Cycle :=
      (({ (offPhase true).drive with flash := flash, chans := (offPhase true).drive.chans.set 6 x } : Drive).syncFlash
        (offPhase true).env).flash
    let x := drivenAt .on .flash 2 42
    told none x = some ⟨.on, 335, .normal, 335, 335⟩ ∧
    told none { x with openFlag := true } = some ⟨.on, 167, .fast, 167, 168⟩ ∧
    told (some ⟨.off, 9, .fast, 167, 168⟩) x = some ⟨.off, 9, .fast, 167, 168⟩ ∧
    told (some ⟨.off, 9, .fast, 167, 168⟩) (chan .off .off none) = none := by
  decide +kernel

theorem test_meets_OpenFlagsInOn : (opening 99 true).OpenFlagsInOn ∧ (opening 99 true).FeedsSound :=
  ⟨by unfold State.OpenFlagsInOn; decide +kernel, feedsSound_of_check (by decide +kernel)⟩

/-- A MOTOR with two stall ticks left counts its open-load readings too, and a cooling lamp's flag clears meanwhile
(R92, R95, R96). -/
theorem test_meets_OpenFlag_motor :
    (stalling 2).drive.chans[8].state = .on ∧ (stalling 2).tickOn 8 = true ∧
    (stalling 2).conf.channels[8].openLoadLevel = 10 ∧ (stalling 2).conf.channels[8].stallLevel ≤ 150 ∧
    (after (.sampleCompletion 8 9) (stalling 2)).drive.chans[8].openCount = 1 ∧
    (let s := withChan busy 3 { drivenAt .on .steady 2 42 with openCount := 5, cooling := true }
     (after (.sampleCompletion 3 9) s).drive.chans[3].openCount = 6 ∧
     (after (.sampleCompletion 3 9) s).drive.chans[3].cooling = false) := by
  decide +kernel

/-- The line record joins the list of its channel as the newest of its class, behind a higher class, and counts for slot
11; it leaves both when the line becomes inactive (R133, R134). -/
theorem test_line_record_on_list :
    let s := withRecord (withRecord { bouncing 1 with lists := base.lists.set 5 [0, 1] } 0
      (.live (demand 5 3 0) none)) 1 (.live (demand 5 2 0) none)
    let t := after (.lineReading 0 true) s
    t.lists[5] = [0, 60, 1] ∧ t.held[11] = 1 ∧
    (after (.debounceChange 0) { t with lines := t.lines.set 0 ⟨true, 1⟩ }).lists[5] = [0, 1] ∧
    (after (.debounceChange 0) { t with lines := t.lines.set 0 ⟨true, 1⟩ }).held[11] = 0 := by
  decide +kernel

end Sys2Proof.Tests
end

section
/-!
SUPPORT. A pending notice kind stays pending: no shed, no admission, no pass and no handing over of a pair clears one
(R159, R162). The bit is `i` throughout.
-/

namespace Sys2Proof.Machine

/-! ### What the Channel Sequencer leaves of the Notice Unit -/

@[simp] theorem Drive.requeue_notice (d : Drive) (e : Env) (c : Ch) : (d.requeue e c).notice = d.notice := by
  unfold Drive.requeue
  split <;> rfl

@[simp] theorem Drive.classInFeed_notice (d : Drive) (e : Env) (c : Ch) :
    (d.classInFeed e c).1.notice = d.notice := by
  unfold Drive.classInFeed
  split <;> simp

@[simp] theorem Drive.interlockTest_notice (d : Drive) (e : Env) (c : Ch) :
    (d.interlockTest e c).1.notice = d.notice := by
  unfold Drive.interlockTest
  split
  · rfl
  · dsimp only
    split <;> rfl

@[simp] theorem Drive.switchOn_notice (d : Drive) (e : Env) (c : Ch) : (d.switchOn e c).1.notice = d.notice := by
  unfold Drive.switchOn
  split
  · rfl
  · exact d.interlockTest_notice e c

@[simp] theorem Drive.goOff_notice (d : Drive) (e : Env) (c : Ch) : (d.goOff e c).1.notice = d.notice := by
  simp [Drive.goOff]

@[simp] theorem Drive.levelInOn_notice (d : Drive) (e : Env) (c : Ch) : (d.levelInOn e c).1.notice = d.notice := by
  unfold Drive.levelInOn
  dsimp only
  split <;> simp

/-! ### What keeps a kind pending -/

section
variable {d : Drive} {i : Nat}

theorem Drive.setKind_pends (k : NoticeKind) (h : d.notice.kinds.getLsbD i = true) :
    (d.setKind k).notice.kinds.getLsbD i = true := by
  simp [h]

theorem Drive.setKind_lapse_pends (d : Drive) : (d.setKind .lapse).notice.kinds.getLsbD 1 = true := by
  simp [kindBit]

theorem Drive.shed_pends (e : Env) (c : Ch) (cause : ShedCause) (h : d.notice.kinds.getLsbD i = true) :
    (d.shed e c cause).notice.kinds.getLsbD i = true := by
  simp [Drive.shed, h]

theorem Drive.visitFrom_pends (selection : ChSet) (start : Nat) (h : d.notice.kinds.getLsbD i = true) :
    (d.visitFrom selection start).notice.kinds.getLsbD i = true := by
  unfold Drive.visitFrom
  split
  · exact h
  · exact Drive.setKind_pends .check h

theorem Drive.abandonTest_pends (c : Ch) (h : d.notice.kinds.getLsbD i = true) :
    (d.abandonTest c).notice.kinds.getLsbD i = true := by
  unfold Drive.abandonTest
  split
  · exact h
  · split
    · exact Drive.visitFrom_pends _ _ h
    · exact h

theorem Drive.admitFresh_pends (e : Env) (c : Ch) (h : d.notice.kinds.getLsbD i = true) :
    (d.admitFresh e c).notice.kinds.getLsbD i = true := by
  unfold Drive.admitFresh
  dsimp only
  split
  · rw [Drive.enterOn_notice]
    exact Drive.abandonTest_pends c (by simpa using h)
  · exact Drive.abandonTest_pends c (by simpa using h)

theorem Drive.letIn_pends (e : Env) (x : Entry) (h : d.notice.kinds.getLsbD i = true) :
    (d.letIn e x).notice.kinds.getLsbD i = true := by
  unfold Drive.letIn
  split
  · exact Drive.admitFresh_pends e x.ch h
  · simpa using h

theorem Drive.pass_pends (e : Env) (f : Fin 3) (h : d.notice.kinds.getLsbD i = true) :
    (d.pass e f).notice.kinds.getLsbD i = true :=
  Drive.pass_induct (P := fun d' => d'.notice.kinds.getLsbD i = true)
    (fun _ v _ hd _ _ _ => Drive.shed_pends e v .budget hd) (fun _ x hd _ _ _ => Drive.letIn_pends e x hd) d h

/-- Of the ways in which a pair is taken, the shed of R64 alone touches the Notice Unit, and it only sets kinds. -/
theorem Drive.takePair_pends (e : Env) (c : Ch) (wanted : Level) (cls : Option Cls)
    (h : d.notice.kinds.getLsbD i = true) : (d.takePair e c wanted cls).1.notice.kinds.getLsbD i = true := by
  unfold Drive.takePair
  dsimp only
  split
  · split <;> simpa using h
  · split
    · exact Drive.shed_pends e c .undervolt h
    · split
      · split
        all_goals split <;> simpa using h
      · split <;> simpa using h

end

/-- What the taking of one pair and every pass keep, the taking of several pairs keeps (R43, R106). -/
theorem Drive.takePairs_induct {P : Drive → Prop} {e : Env}
    (ht : ∀ (d : Drive) (c : Ch) (wanted : Level) (cls : Option Cls), P d → P (d.takePair e c wanted cls).1)
    (hp : ∀ (d : Drive) (f : Fin 3), P d → P (d.pass e f)) (news : List (Ch × Level × Option Cls)) (d : Drive)
    (hd : P d) : P (d.takePairs e news) := by
  refine Drive.passes_induct hp _ _ ?_
  exact List.foldlRecOn news _ (motive := fun acc : Drive × List (Fin 3) => P acc.1) hd
    (fun acc hacc n _ => ht acc.1 n.1 n.2.1 n.2.2 hacc)

theorem State.handOver_pends {s : State} {i : Nat} (cs : List Ch) (h : s.drive.notice.kinds.getLsbD i = true) :
    (s.handOver cs).drive.notice.kinds.getLsbD i = true :=
  Drive.takePairs_induct (P := fun d => d.notice.kinds.getLsbD i = true)
    (fun _ c wanted cls => Drive.takePair_pends s.env c wanted cls) (fun _ f => Drive.pass_pends s.env f) _ _ h

end Sys2Proof.Machine
end

section
/-!
SUPPORT. The record operations that RENEW, AMEND, RETIRE and the two expiries share: a record made LIVE on its list, a
record freed, and the handing over that follows; and the response to a request taken with adjustment flags.
-/

namespace Sys2Proof.Machine

/-! ### Lists -/

@[simp] theorem State.makeLive_lists (s : State) (h : Handle) (d : Demand) (remaining : Option Nat) :
    (s.makeLive h d remaining).lists = s.lists.set d.channel
      (listInsert (fun y => (s.records.set h (.live d remaining))[y].rank) h s.lists[d.channel]) := rfl

/-- A record made LIVE is the newest of its class on the list of its channel (R38). -/
theorem State.makeLive_insertedInClass (s : State) (h : Handle) (d : Demand) (remaining : Option Nat) :
    InsertedInClass (s.makeLive h d remaining).records d.cls h s.lists[d.channel]
      (s.makeLive h d remaining).lists[d.channel] := by
  have hr : (s.records.set h (.live d remaining))[h] = .live d remaining := by simp
  simpa using insertedInClass s.lists[d.channel] hr

theorem State.makeLive_lists_ne (s : State) (h : Handle) {d : Demand} (remaining : Option Nat) {c : Ch}
    (hc : c ≠ d.channel) : (s.makeLive h d remaining).lists[c] = s.lists[c] := by
  simp [Fin.val_ne_of_ne hc.symm]

/-- A LIVE record taken off its list and made LIVE anew there is repositioned as the newest of its class (R40). -/
theorem State.reposition_insertedInClass (s : State) (h : Handle) (d : Demand) (remaining : Option Nat) :
    InsertedInClass ((s.removeFrom d.channel h).makeLive h d remaining).records d.cls h
      (s.lists[d.channel].filter (fun y => y ≠ h))
      ((s.removeFrom d.channel h).makeLive h d remaining).lists[d.channel] := by
  have hrest : (s.removeFrom d.channel h).lists[d.channel] = s.lists[d.channel].filter (fun y => y ≠ h) := by simp
  exact hrest ▸ (s.removeFrom d.channel h).makeLive_insertedInClass h d remaining

theorem State.reposition_lists_ne (s : State) (h : Handle) {d : Demand} (remaining : Option Nat) {c : Ch}
    (hc : c ≠ d.channel) : ((s.removeFrom d.channel h).makeLive h d remaining).lists[c] = s.lists[c] := by
  rw [State.makeLive_lists_ne _ h remaining hc]
  simp [Fin.val_ne_of_ne hc.symm]

/-! ### Records freed -/

theorem State.freeRecord_live {s : State} {n : Handle} {d : Demand} {time : Option Nat}
    (hr : s.records[n] = .live d time) :
    s.freeRecord n = ((s.putRecord n .free).lowerHeld d.owner).removeFrom d.channel n := by
  simp only [State.freeRecord, hr]

theorem State.freeRecord_lapsed {s : State} {n : Handle} {d : Demand} {grace : Nat}
    (hr : s.records[n] = .lapsed d grace) : s.freeRecord n = (s.putRecord n .free).lowerHeld d.owner := by
  simp only [State.freeRecord, hr]

/-! ### Handing over -/

/-- With no channel named nothing is handed on. -/
theorem State.handOver_nil (s : State) : s.handOver [] = s := rfl

theorem State.handOver_follows (s : State) (cs : List Ch) : (s.handOver cs).Follows s.drive cs := rfl

/-- The frame that ends is not seen by the Channel Resolvers. -/
theorem State.Follows.endFrame {t : State} {d : Drive} {cs : List Ch} (h : t.Follows d cs) (r : Response) :
    (t.endFrame r).Follows d cs := h

/-! ### Responses -/

theorem respond_ok (k : Kind) (h : Header) (flags : Byte) {items : List Byte} (hl : items.length ≤ 15) :
    respond k.code (headerByte h) ⟨.ok, flags, items⟩ = { okResponse k h items with flags := flags } := by
  simp [respond, okResponse, fillTo_short hl]

end Sys2Proof.Machine
end

section
/-!
PROOFS. The record requests RENEW, AMEND and RETIRE on a record that passes the checks of R13, and the two expiries.
-/

namespace Sys2Proof.Machine

/-! ### What each request's frame comes to -/

section
variable {s : State} {h : Header}

/-- A frame whose block refuses it leaves everything but the pending response. -/
theorem request_body_refuses {k : Kind} {body : State → State × Answer} {status : Status} (a : s.Accepts h)
    (hk : k.supervisorOnly = false) (hb : body s = (s, refuse status)) :
    request k h body s = s.endFrame (refusalResponse k h status) := by
  rw [request_taken a (.inl hk), hb, respond_refuse]

/-- A frame that its block takes with no adjustment flag. -/
theorem request_body_takes {k : Kind} {body : State → State × Answer} {t : State} {items : List Byte}
    (a : s.Accepts h) (hk : k.supervisorOnly = false) (hl : items.length ≤ 15) (hb : body s = (t, taken items)) :
    request k h body s = t.endFrame (okResponse k h items) := by
  rw [request_taken a (.inl hk), hb, respond_taken k h hl]

end

theorem exec_renew (h : Header) (handle : Byte) (s : State) :
    exec (.renew h handle) s = .next (request .renew h (renewBody (slotOf h) handle) s) := rfl

theorem exec_amend (h : Header) (handle : Byte) (level : LevelParam) (cls : Byte) (hold : Word16) (s : State) :
    exec (.amend h handle level cls hold) s =
      .next (request .amend h (amendBody (slotOf h) handle level cls hold) s) := rfl

theorem exec_retire (h : Header) (handle : Byte) (s : State) :
    exec (.retire h handle) s = .next (request .retire h (retireBody (slotOf h) handle) s) := rfl

theorem exec_holdExpiry (n : Handle) (s : State) : exec (.holdExpiry n) s = .next (event (holdExpiry n) s) := rfl

theorem exec_graceExpiry (n : Handle) (s : State) : exec (.graceExpiry n) s = .next (event (graceExpiry n) s) := rfl

/-! ### The blocks' answers, by the state of the record -/

section
variable {slot : SlotNo} {handle : Byte} {s : State} {n : Handle} {d : Demand}

theorem renewBody_live {time : Option Nat} (ha : actOn slot handle s = .ok (n, d)) (hr : s.records[n] = .live d time) :
    renewBody slot handle s = (s.putRecord n (.live d (startedHold d.hold)), taken [0x01#8]) := by
  simp only [renewBody, ha, hr]
  rfl

theorem renewBody_lapsed {grace : Nat} (ha : actOn slot handle s = .ok (n, d)) (hr : s.records[n] = .lapsed d grace) :
    renewBody slot handle s =
      if 6 ≤ requesterCount s.lists[d.channel] then (s, refuse .listFull)
      else ((s.makeLive n d (startedHold d.hold)).handOver [d.channel], taken [0x01#8]) := by
  simp only [renewBody, ha, hr]
  rfl

theorem amendBody_lapsed {level : LevelParam} {cls : Byte} {hold : Word16} {grace : Nat}
    (ha : actOn slot handle s = .ok (n, d)) (hr : s.records[n] = .lapsed d grace) :
    amendBody slot handle level cls hold s = (s, refuse .wrongState) := by
  simp [amendBody, ha, hr, Record.isLapsed]

theorem amendBody_bad {level : LevelParam} {cls : Byte} {hold : Word16} {time : Option Nat}
    (ha : actOn slot handle s = .ok (n, d)) (hr : s.records[n] = .live d time)
    (hb : BadDemand s.conf.channels[d.channel] (requesterOf s.conf d.owner).ceiling level cls hold) :
    amendBody slot handle level cls hold s = (s, refuse .badValue) := by
  simp only [amendBody, ha, hr, Record.isLapsed, (checkDemand_clampDemand _ _ _ _ _).1 hb]
  rfl

/-- The demand that a taken AMEND leaves in the record: its clamped level, class and hold (R10, R16). -/
def Demand.amended (d : Demand) (ceiling : Cls) (level : LevelParam) (cls : Byte) (hold : Word16) : Demand :=
  { d with level := levelAfterClamp level, cls := classAfterClamp ceiling cls, hold := min 3000 hold.toNat }

theorem amendBody_taken {level : LevelParam} {cls : Byte} {hold : Word16} {time : Option Nat}
    (ha : actOn slot handle s = .ok (n, d)) (hr : s.records[n] = .live d time)
    (hb : ¬ BadDemand s.conf.channels[d.channel] (requesterOf s.conf d.owner).ceiling level cls hold) :
    let d' := d.amended (requesterOf s.conf d.owner).ceiling level cls hold
    amendBody slot handle level cls hold s =
      (((s.removeFrom d.channel n).makeLive n d' (startedHold d'.hold)).handOver [d.channel],
        ⟨.ok, clampFlags (requesterOf s.conf d.owner).ceiling level cls hold, []⟩) := by
  obtain ⟨hc, hh, hf⟩ := (checkDemand_clampDemand _ _ _ _ _).2 hb
  simp only [amendBody, ha, hr, Record.isLapsed, hc, hh, hf]
  rfl

theorem retireBody_ok (ha : actOn slot handle s = .ok (n, d)) :
    retireBody slot handle s = ((s.freeRecord n).handOver s.records[n].liveChannel, taken []) := by
  simp only [retireBody, ha]

theorem holdExpiry_due {ms : Nat} (hms : ms ≤ 1) (hr : s.records[n] = .live d (some ms)) :
    holdExpiry n s =
      ({ (s.putRecord n (.lapsed d 5000)).removeFrom d.channel n with drive := s.drive.setKind .lapse }).handOver
        [d.channel] := by
  simp only [holdExpiry, hr, hms, if_true]
  rfl

theorem graceExpiry_due {ms : Nat} (hms : ms ≤ 1) (hr : s.records[n] = .lapsed d ms) :
    graceExpiry n s = (s.putRecord n .free).lowerHeld d.owner := by
  simp only [graceExpiry, hr, hms, if_true, State.freeRecord_lapsed hr]

end

/-! ### The statements -/

/-- Settles O17, by the state of the record; the place of a revived record is that of `makeLive`. -/
theorem renewRestartsOrRevives : Obligations.RenewRestartsOrRevives := by
  intro h handle s n d a hn h60 ho
  refine ⟨fun time hr => ?live, fun grace hr => ?lapsed⟩
  case live =>
    have ha := a.actOn_ok hn h60 (.inl ⟨time, hr⟩) ho
    rw [exec_renew, request_body_takes a rfl (by simp) (renewBody_live ha hr)]
    rfl
  case lapsed =>
    have hb := renewBody_lapsed (a.actOn_ok hn h60 (.inr ⟨grace, hr⟩) ho) hr
    refine ⟨fun hfull => ?_, fun hroom => ?_⟩
    · rw [if_pos hfull] at hb
      rw [exec_renew, request_body_refuses a rfl hb]
    · rw [if_neg (Nat.not_le.2 hroom)] at hb
      rw [exec_renew, request_body_takes a rfl (by simp) hb]
      exact ⟨_, rfl, rfl, s.makeLive_insertedInClass n d _, fun c hc => s.makeLive_lists_ne n _ hc,
        ((s.makeLive n d _).handOver_follows [d.channel]).endFrame _⟩

/-- Settles O18, by the state of the record and the value checks of R11; the reposition is a remove and `makeLive`. -/
theorem amendReplacesLevelClassHold : Obligations.AmendReplacesLevelClassHold := by
  intro h handle level cls hold s n d a hn h60 ho ceiling bad
  refine ⟨fun grace hr => ?lapsed, fun time hr hb => ?bad, fun time hr hb => ?taken⟩
  case lapsed =>
    have ha := a.actOn_ok hn h60 (.inr ⟨grace, hr⟩) ho
    rw [exec_amend, request_body_refuses a rfl (amendBody_lapsed ha hr)]
  case bad =>
    have ha := a.actOn_ok hn h60 (.inl ⟨time, hr⟩) ho
    rw [exec_amend, request_body_refuses a rfl (amendBody_bad ha hr hb)]
  case taken =>
    have ha := a.actOn_ok hn h60 (.inl ⟨time, hr⟩) ho
    rw [exec_amend, request_taken a (.inl rfl), amendBody_taken ha hr hb, respond_ok _ _ _ (by simp)]
    exact ⟨_, rfl, rfl, s.reposition_insertedInClass n (d.amended ceiling level cls hold) _,
      fun c hc => s.reposition_lists_ne n (d := d.amended ceiling level cls hold) _ hc,
      (State.handOver_follows _ [d.channel]).endFrame _⟩

/-- Settles O19, by the state of the record. -/
theorem retireFreesRecord : Obligations.RetireFreesRecord := by
  intro h handle s n d a hn h60 ho
  refine ⟨fun time hr => ?live, fun grace hr => ?lapsed⟩
  case live =>
    have hb := retireBody_ok (a.actOn_ok hn h60 (.inl ⟨time, hr⟩) ho)
    rw [hr, State.freeRecord_live hr] at hb
    rw [exec_retire, request_body_takes a rfl (by simp) hb]
    exact ⟨_, rfl, rfl, (State.handOver_follows _ [d.channel]).endFrame _⟩
  case lapsed =>
    have hb := retireBody_ok (a.actOn_ok hn h60 (.inr ⟨grace, hr⟩) ho)
    rw [hr, State.freeRecord_lapsed hr] at hb
    rw [exec_retire, request_body_takes a rfl (by simp) hb]
    rfl

/-- Settles O21. LAPSE is set before the pair is handed over, and the handing over clears no kind. -/
theorem holdAndGraceExpiry : Obligations.HoldAndGraceExpiry := by
  intro n s d ms hs hms
  refine ⟨fun hr => ?hold, fun hr => ?grace⟩
  case hold =>
    rw [exec_holdExpiry, event_running hs, holdExpiry_due hms hr]
    exact ⟨_, rfl, rfl, State.handOver_pends _ s.drive.setKind_lapse_pends, State.handOver_follows _ [d.channel]⟩
  case grace =>
    rw [exec_graceExpiry, event_running hs, graceExpiry_due hms hr]
    rfl

end Sys2Proof.Machine
end

section
/-!
SUPPORT. The permission set that a word names, and the items of READ LOAD and MAP LOAD: the use count as a number of
handles and the line set bit by bit.
-/

namespace Sys2Proof.Machine

/-! ### Operands and items -/

theorem slotSetOf_of_lt {w : Word16} (h : w.toNat < 2048) : slotSetOf w = some (BitVec.ofNat 11 w.toNat) := by
  rw [slotSetOf, if_pos h, BitVec.ofNat_toNat]

theorem slotSetOf_of_ge {w : Word16} (h : 2048 ≤ w.toNat) : slotSetOf w = none := by
  rw [slotSetOf, if_neg (Nat.not_lt.2 h)]

/-- A word goes out high byte first (R153). -/
theorem wordBytes_eq_twoBytes (w : Word16) : wordBytes w = twoBytes w.toNat := by
  have h := numWord_eq w.toNat
  rwa [numWord, BitVec.ofNat_toNat, BitVec.setWidth_eq] at h

/-- The packed set has no bit beyond its things. -/
theorem bitsOf_lt (l : List Bool) : bitsOf l < 2 ^ l.length := by
  induction l with
  | nil => simp [bitsOf]
  | cons b l ih => cases b <;> (simp [bitsOf, Nat.pow_succ]; omega)

/-! ### The use of a load (R33) -/

/-- The use count is the number of handles whose record names the load. -/
theorem State.useCount_eq_card (s : State) (l : LoadNo) :
    s.useCount l = (Finset.univ.filter (fun y : Handle => s.records[y].names l = true)).card := by
  rw [← List.toFinset_finRange, (List.nodup_finRange 64).card_eq_countP]
  simp [State.useCount, allHandles]

theorem State.lineNames_iff {s : State} {l : LoadNo} {n : LineNo} :
    s.lineNames l n = true ↔ s.conf.bindings[n].enabled = true ∧ s.conf.bindings[n].load = l := by
  simp [State.lineNames]

theorem mem_allLines (n : LineNo) : n ∈ allLines := by
  revert n
  decide

/-- The line set of READ LOAD as its byte (R34). -/
def State.lineSet (s : State) (l : LoadNo) : Byte := numByte (bitsOf (allLines.map (s.lineNames l)))

theorem State.lineSet_toNat (s : State) (l : LoadNo) :
    (s.lineSet l).toNat = bitsOf (allLines.map (s.lineNames l)) := by
  have h := bitsOf_lt (allLines.map (s.lineNames l))
  rw [List.length_map] at h
  exact Nat.mod_eq_of_lt (Nat.lt_trans h (by decide))

theorem State.lineSet_lt (s : State) (l : LoadNo) : (s.lineSet l).toNat < 16 := by
  rw [State.lineSet_toNat]
  exact (bitsOf_lt _).trans_eq (by simp [allLines])

theorem State.lineSet_getLsbD (s : State) (l : LoadNo) (n : LineNo) :
    (s.lineSet l).getLsbD n.val = s.lineNames l n := by
  rw [← BitVec.testBit_toNat, State.lineSet_toNat, bitsOf_testBit]
  fin_cases n <;> rfl

theorem State.lineSet_eq_zero {s : State} {l : LoadNo} (h : ∀ n, s.lineNames l n = false) : s.lineSet l = 0#8 := by
  have : allLines.map (s.lineNames l) = allLines.map (fun _ => false) := List.map_congr_left (fun n _ => h n)
  rw [State.lineSet, this]
  rfl

/-! ### The items -/

theorem loadItems_eq (s : State) (l : LoadNo) :
    loadItems s l = [yesShown s.conf.loads[l].enabled, BitVec.ofNat 8 s.conf.loads[l].channel.val] ++
      twoBytes s.conf.loads[l].permitted.toNat ++ [BitVec.ofNat 8 (s.useCount l), s.lineSet l] := by
  rw [loadItems, wordBytes_eq_twoBytes, BitVec.toNat_setWidth_of_le (by decide)]
  rfl

theorem loadItems_length (s : State) (l : LoadNo) : (loadItems s l).length = 6 := rfl

end Sys2Proof.Machine
end

section
/-!
PROOFS. READ LOAD and MAP LOAD: what each check of R32 comes to, the entry written, and the answers of both (R32, R34).
-/

namespace Sys2Proof.Machine

theorem exec_readLoad (h : Header) (load : Byte) (s : State) :
    exec (.readLoad h load) s = .next (reading .readLoad h (loadAnswer load) s) := rfl

theorem exec_mapLoad (h : Header) (load enabled channel : Byte) (permitted : Word16) (s : State) :
    exec (.mapLoad h load enabled channel permitted) s =
      .next (request .mapLoad h (unlessStoring (mapLoadBody load enabled channel permitted)) s) := rfl

/-! ### What a reading and a configuration request come to -/

section
variable {s : State} {h : Header} {k : Kind} {status : Status} {items : List Byte}

theorem reading_refuses {answer : State → Answer} (a : s.Accepts h) (hk : k.supervisorOnly = false)
    (ha : answer s = refuse status) : reading k h answer s = s.endFrame (refusalResponse k h status) :=
  request_body_refuses a hk (by rw [ha])

theorem reading_takes {answer : State → Answer} (a : s.Accepts h) (hk : k.supervisorOnly = false)
    (hl : items.length ≤ 15) (ha : answer s = taken items) :
    reading k h answer s = s.endFrame (okResponse k h items) :=
  request_body_takes a hk hl (by rw [ha])

/-- A configuration request that its block refuses with no store write in flight. -/
theorem State.Supervised.unlessStoring_refuses {body : State → State × Answer} (a : s.Supervised h)
    (hw : s.store.writing = none) (hb : body s = (s, refuse status)) :
    request k h (unlessStoring body) s = s.endFrame (refusalResponse k h status) := by
  rw [request_taken a.accepts (.inr a.slot), unlessStoring_free hw, hb, respond_refuse]

/-- A configuration request that its block takes with no store write in flight. -/
theorem State.Supervised.unlessStoring_takes {body : State → State × Answer} {t : State} (a : s.Supervised h)
    (hw : s.store.writing = none) (hl : items.length ≤ 15) (hb : body s = (t, taken items)) :
    request k h (unlessStoring body) s = t.endFrame (okResponse k h items) := by
  rw [request_taken a.accepts (.inr a.slot), unlessStoring_free hw, hb, respond_taken k h hl]

end

/-! ### The Load Map's answers -/

section
variable {load enabled channel : Byte} {permitted : Word16} {s : State} {l : LoadNo} {c : Ch}

theorem loadAnswer_of_ge (hl : 32 ≤ load.toNat) (s : State) : loadAnswer load s = refuse .badValue := by
  simp only [loadAnswer, loadOf, numOf_of_ge hl]

theorem loadAnswer_of_eq (hl : load.toNat = l.val) (s : State) : loadAnswer load s = taken (loadItems s l) := by
  simp only [loadAnswer, loadOf, numOf_of_lt l hl]

/-- Checks 2 and 3 of R32. -/
theorem mapLoadBody_badValue (h : 32 ≤ load.toNat ∨ 16 ≤ channel.toNat ∨ 2048 ≤ permitted.toNat) (enabled : Byte)
    (s : State) : mapLoadBody load enabled channel permitted s = (s, refuse .badValue) := by
  unfold mapLoadBody
  cases hload : loadOf load with
  | none => rfl
  | some l =>
    rcases h with h | h | h
    · exact absurd (hload.symm.trans (numOf_of_ge h)) (by simp)
    · simp only [chOf, numOf_of_ge h]
    · rw [slotSetOf_of_ge h]
      cases chOf channel <;> rfl

/-- The state with one entry of the Load Map written. -/
def State.withLoad (s : State) (l : LoadNo) (entry : LoadEntry) : State :=
  { s with conf := { s.conf with loads := s.conf.loads.set l entry } }

@[simp] theorem State.withLoad_useCount (entry : LoadEntry) (l' : LoadNo) :
    (s.withLoad l entry).useCount l' = s.useCount l' := rfl

@[simp] theorem State.withLoad_lineSet (entry : LoadEntry) (l' : LoadNo) :
    (s.withLoad l entry).lineSet l' = s.lineSet l' := rfl

@[simp] theorem State.withLoad_loads (entry : LoadEntry) : (s.withLoad l entry).conf.loads[l] = entry := by
  simp [State.withLoad]

/-- Past checks 2 and 3 of R32, checks 4 and 5 decide. -/
theorem mapLoadBody_inRange (hl : load.toNat = l.val) (hc : channel.toNat = c.val) (hp : permitted.toNat < 2048)
    (enabled : Byte) (s : State) :
    mapLoadBody load enabled channel permitted s =
      if s.useCount l ≠ 0 ∨ (∃ n : LineNo, s.lineNames l n = true) then (s, refuse .wrongState)
      else (s.withLoad l ⟨yes enabled, c, BitVec.ofNat 11 permitted.toNat⟩,
        taken (loadItems (s.withLoad l ⟨yes enabled, c, BitVec.ofNat 11 permitted.toNat⟩) l)) := by
  have hany : allLines.any (s.lineNames l) = true ↔ ∃ n, s.lineNames l n = true := by
    simp only [List.any_eq_true, mem_allLines, true_and]
  simp only [mapLoadBody, loadOf, numOf_of_lt l hl, chOf, numOf_of_lt c hc, slotSetOf_of_lt hp, hany, ite_or]
  rfl

/-- The items of a MAP LOAD that is taken: the entry as asked for, out of use (R32). -/
theorem loadItems_withLoad_unused (hc : channel.toNat = c.val) (hp : permitted.toNat < 2048)
    (huse : s.useCount l = 0) (hline : ∀ n, s.lineNames l n = false) :
    loadItems (s.withLoad l ⟨yes enabled, c, BitVec.ofNat 11 permitted.toNat⟩) l =
      [if enabled = 0#8 then 0x00#8 else 0x01#8, channel] ++ twoBytes permitted.toNat ++ [0x00#8, 0x00#8] := by
  have hyes : yesShown (yes enabled) = if enabled = 0#8 then 0x00#8 else 0x01#8 := by
    simp [yesShown, yes]
  have hch : BitVec.ofNat 8 c.val = channel := by rw [← hc, BitVec.ofNat_toNat, BitVec.setWidth_eq]
  have hset : (BitVec.ofNat 11 permitted.toNat).toNat = permitted.toNat := Nat.mod_eq_of_lt hp
  rw [loadItems_eq, State.withLoad_loads, State.withLoad_useCount, State.withLoad_lineSet, hyes, hch, hset, huse,
    State.lineSet_eq_zero hline]

end

/-- Settles O27: READ LOAD by its number in range or not, MAP LOAD by the checks of R32 in order. -/
theorem loadMapRequests : Obligations.LoadMapRequests := by
  intro h load enabled channel permitted s uses bound refused
  have huses (l : LoadNo) : uses l = s.useCount l := (s.useCount_eq_card l).symm
  have hbound (l : LoadNo) (n : LineNo) : bound l n ↔ s.lineNames l n = true := State.lineNames_iff.symm
  refine ⟨fun a => ⟨fun hl => ?readOutOfRange, fun l hl => ?read⟩,
    fun a hw => ⟨fun hbad => ?outOfRange, fun l c hl hc hp => ⟨fun hused => ?inUse, fun h0 hfree => ?written⟩⟩⟩
  case readOutOfRange =>
    rw [exec_readLoad, reading_refuses a rfl (loadAnswer_of_ge hl s)]
  case read =>
    refine ⟨s.lineSet l, fun n => by rw [s.lineSet_getLsbD, hbound], s.lineSet_lt l, ?_⟩
    rw [exec_readLoad, reading_takes a rfl (by simp [loadItems_length]) (loadAnswer_of_eq hl s), loadItems_eq, huses]
  case outOfRange =>
    exact congrArg Host.Outcome.next (a.unlessStoring_refuses hw (mapLoadBody_badValue hbad enabled s))
  case inUse =>
    simp only [huses, hbound] at hused
    have hb := mapLoadBody_inRange hl hc hp enabled s
    rw [if_pos hused] at hb
    exact congrArg Host.Outcome.next (a.unlessStoring_refuses hw hb)
  case written =>
    rw [huses] at h0
    simp only [hbound, Bool.not_eq_true] at hfree
    have hb := mapLoadBody_inRange hl hc hp enabled s
    rw [if_neg (by simp [h0, hfree]), loadItems_withLoad_unused hc hp h0 hfree] at hb
    rw [exec_mapLoad, a.unlessStoring_takes hw (by simp [twoBytes]) hb]
    rfl

end Sys2Proof.Machine
end

section
/-!
SUPPORT. The packed items of CHANNEL STATUS and FEED STATUS, read back field by field: levels, the flags byte, the
history byte, the pair that a channel is in, the nibbles of a queue and its upgrade set.
-/

namespace Sys2Proof.Machine

/-! ### Items -/

theorem levelItem_eq_levelShown (l : Level) : levelItem l = levelShown l := by
  cases l <;> rfl

theorem numWord_eq_twoBytes (n : Nat) : numWord n = twoBytes n := numWord_eq n

/-- A byte shown again as a result item. -/
theorem ofNat_of_toNat {n : Byte} {k : Nat} (h : n.toNat = k) : BitVec.ofNat 8 k = n := by
  rw [← h, BitVec.ofNat_toNat, BitVec.setWidth_eq]

theorem nibbles_toNat {hi lo : Nat} (hhi : hi < 16) (hlo : lo < 16) : (nibbles hi lo).toNat = hi * 16 + lo :=
  Nat.mod_eq_of_lt (by omega)

theorem loadTypeBits_lt (cfg : ChannelConfig) : loadTypeBits cfg < 4 := by
  unfold loadTypeBits
  split
  · split <;> decide
  · decide

theorem faultBits_le (fault : Option FaultKind) : faultBits fault ≤ 3 := by
  rcases fault with _ | fault
  · decide
  · cases fault <;> decide

theorem shedBits_le (cause : Option ShedCause) : shedBits cause ≤ 2 := by
  rcases cause with _ | cause
  · decide
  · cases cause <;> decide

/-! ### The bytes of CHANNEL STATUS (R157) -/

/-- Byte 15 of CHANNEL STATUS (R157). -/
def statusFlags (configured : Bool) (loadType : Nat) (upgrade cooling warn openFlag : Bool) : Byte :=
  numByte (128 * (flagByte configured).toNat + 32 * loadType + 16 * (flagByte upgrade).toNat
    + 8 * (flagByte cooling).toNat + 4 * (flagByte warn).toNat + 2 * (flagByte openFlag).toNat)

/-- Every flag of byte 15 stands at its bit, beside the two bits of the load type. -/
theorem statusFlags_fields (configured : Bool) {loadType : Nat} (hl : loadType < 4)
    (upgrade cooling warn openFlag : Bool) :
    let flags := statusFlags configured loadType upgrade cooling warn openFlag
    flags.getLsbD 7 = configured ∧ flags.getLsbD 4 = upgrade ∧ flags.getLsbD 3 = cooling ∧
      flags.getLsbD 2 = warn ∧ flags.getLsbD 1 = openFlag ∧ flags.getLsbD 0 = false ∧
      (flags.extractLsb' 5 2).toNat = loadType := by
  revert configured loadType upgrade cooling warn openFlag
  decide

/-- Byte 16 of CHANNEL STATUS (R157). -/
def Channel.history (x : Channel) : Byte :=
  numByte (32 * x.retries + 8 * faultBits x.lastFault + 2 * shedBits x.lastShed)

/-- With at most 7 retries the three fields of byte 16 do not run into each other. -/
theorem Channel.history_toNat {x : Channel} (hr : x.retries ≤ 7) :
    x.history.toNat = 32 * x.retries + 8 * faultBits x.lastFault + 2 * shedBits x.lastShed := by
  have hf := faultBits_le x.lastFault
  have hs := shedBits_le x.lastShed
  exact Nat.mod_eq_of_lt (by omega)

theorem statusItems_eq (s : State) (c : Ch) :
    let x := s.drive.chans[c]
    let cfg := s.conf.channels[c]
    let m := s.monitors[c]
    statusItems s c = [stateByte x.state] ++ levelShown x.wanted ++ levelShown x.applied ++
      [match x.cls with | none => 0xFF#8 | some k => BitVec.ofNat 8 k.val] ++ twoBytes x.reservation ++
      twoBytes m.lastI ++
      [BitVec.ofNat 8 (heatLevel cfg m.heat),
       statusFlags cfg.configured (loadTypeBits cfg) x.upgrade x.cooling m.warn x.openFlag, x.history, pairByte s c,
       BitVec.ofNat 8 c.val] := by
  simp only [statusItems, levelItem_eq_levelShown, numWord_eq_twoBytes]
  rfl

theorem levelShown_length (l : Level) : (levelShown l).length = 2 := by
  cases l <;> rfl

theorem twoBytes_length (n : Nat) : (twoBytes n).length = 2 := rfl

theorem statusItems_length (s : State) (c : Ch) : (statusItems s c).length = 15 := by
  simp [statusItems_eq, levelShown_length, twoBytes_length]

/-! ### The pair of a channel (R75) -/

section
variable {e : Env} {s : State} {c : Ch} {p q : PairNo}

theorem mem_allPairs (p : PairNo) : p ∈ allPairs := by
  revert p
  decide

theorem Env.pairOf_eq_none : e.pairOf c = none ↔
    ∀ p : PairNo, e.conf.pairs[p].enabled = true → e.conf.pairs[p].a ≠ c ∧ e.conf.pairs[p].b ≠ c := by
  simp [Env.pairOf, mem_allPairs]

theorem Env.pairOf_member (h : e.pairOf c = some p) :
    e.conf.pairs[p].enabled = true ∧ (e.conf.pairs[p].a = c ∨ e.conf.pairs[p].b = c) := by
  simpa using List.find?_some h

/-- No channel is a member of two enabled pairs. -/
theorem pair_unique {pairs : Vector PairConfig 8} (hw : PairsWellFormed pairs) (hp : pairs[p].enabled = true)
    (hq : pairs[q].enabled = true) (hpc : pairs[p].a = c ∨ pairs[p].b = c) (hqc : pairs[q].a = c ∨ pairs[q].b = c) :
    p = q := by
  by_contra hne
  obtain ⟨haa, hab, hba, hbb⟩ := hw.2 p q hp hq hne
  rcases hpc with rfl | rfl
  · exact hqc.elim (fun h => haa h.symm) (fun h => hab h.symm)
  · exact hqc.elim (fun h => hba h.symm) (fun h => hbb h.symm)

theorem Env.pairOf_eq_some (hw : PairsWellFormed e.conf.pairs) (hp : e.conf.pairs[p].enabled = true)
    (hc : e.conf.pairs[p].a = c ∨ e.conf.pairs[p].b = c) : e.pairOf c = some p := by
  cases hq : e.pairOf c with
  | none =>
    obtain ⟨ha, hb⟩ := Env.pairOf_eq_none.1 hq p hp
    exact absurd hc (not_or.2 ⟨ha, hb⟩)
  | some q =>
    obtain ⟨hqen, hqc⟩ := Env.pairOf_member hq
    rw [pair_unique hw hp hqen hc hqc]

/-- The holder bits of byte 17, read from one member's side: nobody 0, this channel 1, the other 2 (R157). -/
def holderBits (holder side : Holder) : Nat := if holder = .none then 0 else if holder = side then 1 else 2

theorem pairByte_unpaired (h : s.env.pairOf c = none) : pairByte s c = 0xF0#8 := by
  simp only [pairByte, h]

theorem pairByte_toNat (h : s.env.pairOf c = some p) :
    (pairByte s c).toNat = 16 * p.val + 4 * holderBits s.drive.pairs[p].holder (s.env.sideOf p c) := by
  have hb : holderBits s.drive.pairs[p].holder (s.env.sideOf p c) ≤ 2 := by
    unfold holderBits
    split
    · decide
    · split <;> decide
  have he : pairByte s c = nibbles p.val (holderBits s.drive.pairs[p].holder (s.env.sideOf p c) * 4) := by
    simp only [pairByte, h]
    rfl
  rw [he, nibbles_toNat (by omega) (by omega)]
  omega

theorem Env.sideOf_a (h : e.conf.pairs[p].a = c) : e.sideOf p c = .a := if_pos h

theorem Env.sideOf_b (h : e.conf.pairs[p].b = c) (hne : e.conf.pairs[p].a ≠ e.conf.pairs[p].b) :
    e.sideOf p c = .b := if_neg (fun ha => hne (ha.trans h.symm))

end

/-! ### The bytes of FEED STATUS (R158) -/

/-- Bytes 9 to 16 of FEED STATUS: two channels a byte (R158). -/
def queueEntries (q : List Entry) : List Byte :=
  [0, 1, 2, 3, 4, 5, 6, 7].map (fun j => nibbles (queueNibble q (2 * j)) (queueNibble q (2 * j + 1)))

theorem queueNibble_lt (q : List Entry) (i : Nat) : queueNibble q i < 16 := by
  unfold queueNibble
  split
  · decide
  · exact Fin.isLt _

theorem byteAt_queueEntries (q : List Entry) {j : Nat} (hj : j < 8) :
    byteAt (queueEntries q) j = nibbles (queueNibble q (2 * j)) (queueNibble q (2 * j + 1)) := by
  interval_cases j <;> rfl

/-- Place i of the queue is the high nibble of entry byte i / 2 for an even i, the low one for an odd i. -/
theorem nibbleAt_queueEntries (q : List Entry) {i : Nat} (hi : i < 16) :
    nibbleAt (byteAt (queueEntries q) (i / 2)) i = queueNibble q i := by
  have heven := queueNibble_lt q (2 * (i / 2))
  have hodd := queueNibble_lt q (2 * (i / 2) + 1)
  rw [byteAt_queueEntries q (by omega), nibbleAt, nibbles_toNat heven hodd]
  split
  case isTrue h =>
    have hplace : 2 * (i / 2) = i := by omega
    rw [hplace] at heven hodd ⊢
    omega
  case isFalse h =>
    have hplace : 2 * (i / 2) + 1 = i := by omega
    rw [hplace] at hodd ⊢
    omega

theorem upgradeSet_getLsbD (q : List Entry) (c : Ch) :
    (upgradeSet q).getLsbD c.val = q.contains ⟨c, .upgrade⟩ := by
  have hplace (f : Ch → Bool) : (allChans.map f).getD c.val false = f c := by fin_cases c <;> rfl
  rw [upgradeSet, BitVec.getLsbD_ofNat, bitsOf_testBit, hplace]
  simp

theorem feedItems_eq (s : State) (f : Fin 3) :
    let x := s.drive.feeds[f]
    feedItems s f = twoBytes s.conf.budgets[f] ++ twoBytes x.committed ++
      [BitVec.ofNat 8 ((if s.supply.low then 128 else 0) + x.queue.length)] ++ queueEntries x.queue ++
      twoBytes (upgradeSet x.queue).toNat := by
  have hlow : 128 * (flagByte s.supply.low).toNat = if s.supply.low then 128 else 0 := by
    cases s.supply.low <;> rfl
  simp only [feedItems, numWord_eq_twoBytes, wordBytes_eq_twoBytes, hlow]
  rfl

theorem feedItems_length (s : State) (f : Fin 3) : (feedItems s f).length = 15 := rfl

end Sys2Proof.Machine
end

section
/-!
PROOFS. CHANNEL STATUS and FEED STATUS: refused for a number out of range, and else the items of R157 and R158 (R80,
R114).
-/

namespace Sys2Proof.Machine

theorem exec_channelStatus (h : Header) (channel : Byte) (s : State) :
    exec (.channelStatus h channel) s = .next (reading .channelStatus h (statusAnswer channel) s) := rfl

theorem exec_feedStatus (h : Header) (feed : Byte) (s : State) :
    exec (.feedStatus h feed) s = .next (reading .feedStatus h (feedAnswer feed) s) := rfl

section
variable {n : Byte} {s : State} {h : Header} {c : Ch} {f : Fin 3}

/-! ### Which answer -/

theorem statusAnswer_of_ge (hn : 16 ≤ n.toNat) (s : State) : statusAnswer n s = refuse .badValue := by
  simp only [statusAnswer, chOf, numOf_of_ge hn]

theorem statusAnswer_of_eq (hn : n.toNat = c.val) (s : State) : statusAnswer n s = taken (statusItems s c) := by
  simp only [statusAnswer, chOf, numOf_of_lt c hn]

theorem feedOfByte_of_ge (hn : 3 ≤ n.toNat) : feedOfByte n = none := by
  have hne (k : Byte) (hk : k.toNat < 3) : n ≠ k := fun he => absurd (he ▸ hn) (Nat.not_le.2 hk)
  rw [feedOfByte, if_neg (hne _ (by decide)), if_neg (hne _ (by decide)), if_neg (hne _ (by decide))]

theorem feedOfByte_of_eq (hn : n.toNat = f.val) : ∃ fd : Feed, feedOfByte n = some fd ∧ fd.index = f := by
  obtain rfl := ofNat_of_toNat hn
  match f with
  | 0 => exact ⟨.a, rfl, rfl⟩
  | 1 => exact ⟨.b, rfl, rfl⟩
  | 2 => exact ⟨.c, rfl, rfl⟩

theorem feedAnswer_of_ge (hn : 3 ≤ n.toNat) (s : State) : feedAnswer n s = refuse .badValue := by
  simp only [feedAnswer, feedOfByte_of_ge hn]

theorem feedAnswer_of_eq (hn : n.toNat = f.val) (s : State) : feedAnswer n s = taken (feedItems s f) := by
  obtain ⟨fd, hfd, rfl⟩ := feedOfByte_of_eq hn
  simp only [feedAnswer, hfd]

/-! ### The two requests taken -/

theorem State.Accepts.channelStatus_taken (a : s.Accepts h) (hn : n.toNat = c.val) :
    exec (.channelStatus h n) s = .next (s.endFrame (okResponse .channelStatus h (statusItems s c))) := by
  rw [exec_channelStatus, reading_takes a rfl (statusItems_length s c).le (statusAnswer_of_eq hn s)]

theorem State.Accepts.feedStatus_taken (a : s.Accepts h) (hn : n.toNat = f.val) :
    exec (.feedStatus h n) s = .next (s.endFrame (okResponse .feedStatus h (feedItems s f))) := by
  rw [exec_feedStatus, reading_takes a rfl (feedItems_length s f).le (feedAnswer_of_eq hn s)]

/-! ### The pair byte, from either member's side -/

theorem pairByte_member_a (hw : PairsWellFormed s.conf.pairs) {p : PairNo} (hp : s.conf.pairs[p].enabled = true)
    (hc : s.conf.pairs[p].a = c) :
    (pairByte s c).toNat = 16 * p.val + 4 * holderBits s.drive.pairs[p].holder .a := by
  rw [pairByte_toNat (Env.pairOf_eq_some hw hp (.inl hc)), Env.sideOf_a hc]

theorem pairByte_member_b (hw : PairsWellFormed s.conf.pairs) {p : PairNo} (hp : s.conf.pairs[p].enabled = true)
    (hc : s.conf.pairs[p].b = c) :
    (pairByte s c).toNat = 16 * p.val + 4 * holderBits s.drive.pairs[p].holder .b := by
  rw [pairByte_toNat (Env.pairOf_eq_some hw hp (.inr hc)), Env.sideOf_b hc (hw.1 p hp)]

end

/-- Settles O33: each request by its number in range or not, its packed bytes by the lemmas that read them back. -/
theorem channelAndFeedStatus : Obligations.ChannelAndFeedStatus := by
  refine ⟨fun x => ?codes, fun h n s a => ⟨fun hn => ?noChannel, fun c hn hr => ?channel, fun hn => ?noFeed,
    fun f hn _ => ?feed⟩⟩
  case codes =>
    cases x with
    | waiting cause => cases cause <;> rfl
    | _ => rfl
  case noChannel =>
    rw [exec_channelStatus, reading_refuses a rfl (statusAnswer_of_ge hn s)]
  case channel =>
    obtain ⟨hconf, hupgrade, hcooling, hwarn, hopen, hzero, htype⟩ :=
      statusFlags_fields s.conf.channels[c].configured (loadTypeBits_lt s.conf.channels[c])
        s.drive.chans[c].upgrade s.drive.chans[c].cooling s.monitors[c].warn s.drive.chans[c].openFlag
    refine ⟨_, _, _, ?_, hconf, hupgrade, hcooling, hwarn, hopen, hzero, htype, Channel.history_toNat hr,
      fun hnone => pairByte_unpaired (Env.pairOf_eq_none.2 hnone), fun hw p hp => ⟨fun hc => ?_, fun hc => ?_⟩⟩
    · rw [a.channelStatus_taken hn, statusItems_eq, ofNat_of_toNat hn]
      rfl
    · rw [pairByte_member_a hw hp hc]
      cases s.drive.pairs[p].holder <;> rfl
    · rw [pairByte_member_b hw hp hc]
      cases s.drive.pairs[p].holder <;> rfl
  case noFeed =>
    rw [exec_feedStatus, reading_refuses a rfl (feedAnswer_of_ge hn s)]
  case feed =>
    refine ⟨queueEntries s.drive.feeds[f].queue, upgradeSet s.drive.feeds[f].queue, rfl, ?_,
      fun i hi => nibbleAt_queueEntries _ hi, fun c => ?_⟩
    · rw [a.feedStatus_taken hn, feedItems_eq]
    · rw [upgradeSet_getLsbD, List.contains_iff_mem]

end Sys2Proof.Machine
end

section
/-!
PROOFS. The Control Link's own answers: every request frame is handed to `request`, the link refuses with NOT_PERMITTED
exactly where a check of R151 fails, a byte 0 that names no kind is refused, and a frame that is not well formed is
discarded (R150, R151).
-/

namespace Sys2Proof.Machine

/-- Whatever the request, its command is the link's checks of its kind and header in front of some block. -/
theorem exec_of_requestParts {i : Instr} {k : Kind} {h : Header} {body : List Byte}
    (hi : requestParts i = some (k, h, body)) :
    ∃ block : State → State × Answer, ∀ s, exec i s = .next (request k h block s) := by
  cases i <;> cases hi <;> exact ⟨_, fun _ => rfl⟩

/-- Checks 2 to 4 of R151. -/
theorem linkRefusal_eq_notPermitted_iff {s : State} {k : Kind} {h : Header} :
    linkRefusal s k h = some .notPermitted ↔
      11 ≤ h.slot.toNat ∨ (requesterOf s.conf (slotOf h)).enabled = false ∨
        (k.supervisorOnly = true ∧ h.slot ≠ 0#4) := by
  unfold linkRefusal
  split
  case isTrue hslot => exact iff_of_true rfl (.inl hslot)
  case isFalse hslot =>
    split
    case isTrue hoff => exact iff_of_true rfl (.inr (.inl hoff))
    case isFalse hoff =>
      split
      case isTrue hsup => exact iff_of_true rfl (.inr (.inr hsup))
      case isFalse hsup => simp only [reduceCtorEq, hslot, hoff, hsup, or_self]

/-- A request that fails a check of R151 leaves everything but the pending response. -/
theorem exec_request_notPermitted {i : Instr} {k : Kind} {h : Header} {body : List Byte} {s : State}
    (hi : requestParts i = some (k, h, body)) (hs : s.takesFrames = true)
    (hr : linkRefusal s k h = some .notPermitted) :
    exec i s = .next (s.endFrame (refusalResponse k h .notPermitted)) := by
  obtain ⟨block, hblock⟩ := exec_of_requestParts hi
  rw [hblock, request_refused hs hr]

/-- Check 1 of R151: the refusal returns byte 0 as received. -/
theorem exec_unknownKindFrame {kind : Byte} (hkind : kindOfByte kind = none) (h : Header) {s : State}
    (hs : s.takesFrames = true) :
    exec (.unknownKindFrame kind h) s = .next (s.endFrame (respond kind (headerByte h) (refuse .unknownKind))) := by
  change execUnknownKindFrame kind h s = _
  simp [execUnknownKindFrame, hkind, hs]

theorem exec_frameDiscard (edges : Nat) {s : State} (hs : s.takesFrames = true) :
    exec (.frameDiscard edges) s =
      .next { s.endFrame (frameCheckResponse edges) with drive := s.drive.setKind .link } := by
  change execFrameDiscard edges s = _
  simp [execFrameDiscard, hs]

/-- Settles O6: each part is the link's own answer to such a frame. -/
theorem linkChecksAndDiscards : Obligations.LinkChecksAndDiscards := by
  refine ⟨fun kind h s hs hkind => ?unknownKind, fun i k h body s hi hs hfails => ?notPermitted,
    fun edges s hs => ?discarded⟩
  case unknownKind => exact exec_unknownKindFrame hkind h hs
  case notPermitted => exact exec_request_notPermitted hi hs (linkRefusal_eq_notPermitted_iff.2 hfails)
  case discarded => exact exec_frameDiscard edges hs

end Sys2Proof.Machine
end

section
/-!
PROOFS. SET NOTICE ENABLE and NOTICEN (R160, R163, R168).
-/

namespace Sys2Proof.Machine

theorem exec_setNoticeEnable (h : Header) (kinds : Byte) (s : State) :
    exec (.setNoticeEnable h kinds) s =
      .next (request .setNoticeEnable h (unlessStoring fun s =>
        ({ s with conf := { s.conf with enable := kinds } }, taken [s.drive.notice.kinds, kinds])) s) := rfl

/-- A configuration request is refused BUSY while a store write is in flight, whatever its block would answer (R168). -/
theorem State.Supervised.unlessStoring_busy {s : State} {h : Header} {k : Kind} (a : s.Supervised h)
    (hw : s.store.writing.isSome = true) (body : State → State × Answer) :
    request k h (unlessStoring body) s = s.endFrame (refusalResponse k h .busy) := by
  rw [request_taken a.accepts (.inr a.slot), Machine.unlessStoring_busy hw, respond_refuse]

/-- Two sets of bits have a member in common. -/
theorem and_ne_zero_iff_getLsbD {w : Nat} {x y : BitVec w} :
    x &&& y ≠ 0#w ↔ ∃ i : Fin w, x.getLsbD i.val = true ∧ y.getLsbD i.val = true := by
  rw [Ne, BitVec.zero_iff_eq_false, not_forall]
  constructor
  · rintro ⟨i, hi⟩
    obtain ⟨hx, hy⟩ : x.getLsbD i = true ∧ y.getLsbD i = true := by simpa using hi
    exact ⟨⟨i, BitVec.lt_of_getLsbD hx⟩, hx, hy⟩
  · rintro ⟨i, hx, hy⟩
    exact ⟨i.val, by simp [hx, hy]⟩

/-- Out of reset NOTICEN is low exactly while some kind is both pending and enabled (R160). -/
theorem State.noticenLow_iff {s : State} (hs : s.inReset = false) :
    s.noticenLow = true ↔
      ∃ i : Fin 8, s.drive.notice.kinds.getLsbD i.val = true ∧ s.conf.enable.getLsbD i.val = true := by
  rw [← and_ne_zero_iff_getLsbD]
  simp [State.noticenLow, hs]

/-- Settles O13: BUSY comes ahead of the block, and NOTICEN is read off the state that the block leaves. -/
theorem noticeEnableDrivesNoticen : Obligations.NoticeEnableDrivesNoticen := by
  intro h kinds s a
  rw [exec_setNoticeEnable]
  constructor
  · intro hw
    rw [a.unlessStoring_busy hw]
  · intro hw
    refine ⟨_, congrArg Host.Outcome.next (a.unlessStoring_takes hw (by simp) rfl), rfl, ?_⟩
    exact State.noticenLow_iff a.running

end Sys2Proof.Machine
end

section
/-!
SUPPORT. What the part does beside its Configuration Store. With the store put in another state every operation reads
what it read and leaves what it left, and the store stays as it was put (R168).
-/

namespace Sys2Proof.Machine

/-- The part with its Configuration Store put in a state. -/
def State.withStore (s : State) (x : Store) : State := { s with store := x }

/-- Where both outcomes of a test leave the store as it was put, so does the test. -/
theorem State.ite_withStore {p : Prop} [Decidable p] {a b a' b' : State} {x : Store} (ha : a' = a.withStore x)
    (hb : b' = b.withStore x) : (if p then a' else b') = (if p then a else b).withStore x := by
  rw [ha, hb]
  exact (apply_ite (State.withStore · x) p a b).symm

/-- The same of a block, which answers beside the state that it leaves. -/
theorem answer_ite_withStore {p : Prop} [Decidable p] {a b a' b' : State × Answer} {x : Store}
    (ha : a' = a.map (·.withStore x) id) (hb : b' = b.map (·.withStore x) id) :
    (if p then a' else b') = (if p then a else b).map (·.withStore x) id := by
  rw [ha, hb]
  exact (apply_ite (Prod.map (·.withStore x) id) p a b).symm

section
variable (s : State) (x : Store)

/-! ### What is read -/

@[simp] theorem State.withStore_conf : (s.withStore x).conf = s.conf := rfl
@[simp] theorem State.withStore_records : (s.withStore x).records = s.records := rfl
@[simp] theorem State.withStore_drive : (s.withStore x).drive = s.drive := rfl
@[simp] theorem State.withStore_store : (s.withStore x).store = x := rfl
@[simp] theorem State.withStore_lowestFree : (s.withStore x).lowestFree = s.lowestFree := rfl
@[simp] theorem actOn_withStore (slot : SlotNo) (handle : Byte) :
    actOn slot handle (s.withStore x) = actOn slot handle s := rfl
@[simp] theorem linkRefusal_withStore (k : Kind) (h : Header) :
    linkRefusal (s.withStore x) k h = linkRefusal s k h := rfl

/-! ### What the shared operations leave -/

theorem State.freeRecord_withStore (h : Handle) : (s.withStore x).freeRecord h = (s.freeRecord h).withStore x := by
  unfold State.freeRecord
  rw [State.withStore_records]
  cases s.records[h] <;> rfl

theorem State.setLow_withStore : (s.withStore x).setLow = s.setLow.withStore x := by
  unfold State.setLow State.withStore
  dsimp only [State.env]

theorem State.clearLow_withStore : (s.withStore x).clearLow = s.clearLow.withStore x := by
  unfold State.clearLow
  exact rfl

theorem State.freeAll_withStore (p : Handle → Bool) : (s.withStore x).freeAll p = (s.freeAll p).withStore x := by
  delta State.freeAll
  exact rfl

theorem State.handOver_withStore (cs : List Ch) : (s.withStore x).handOver cs = (s.handOver cs).withStore x := rfl

theorem State.refreshLine_withStore (n : LineNo) : (s.withStore x).refreshLine n = (s.refreshLine n).withStore x := by
  unfold State.refreshLine
  simp only [State.freeRecord_withStore]
  exact State.ite_withStore rfl rfl

theorem State.settleLine_withStore (n : LineNo) : (s.withStore x).settleLine n = (s.settleLine n).withStore x := by
  unfold State.settleLine
  simp only [State.refreshLine_withStore]
  exact rfl

/-! ### Blocks of requests -/

theorem placeBody_withStore (slot : SlotNo) (load : Byte) (level : LevelParam) (cls : Byte) (hold : Word16) :
    placeBody slot load level cls hold (s.withStore x) =
      (placeBody slot load level cls hold s).map (·.withStore x) id := by
  unfold placeBody
  cases loadOf load with
  | none => rfl
  | some l =>
    refine answer_ite_withStore rfl (answer_ite_withStore rfl ?_)
    simp only [State.withStore_conf]
    generalize checkDemand _ _ = demand
    rcases demand with _ | ⟨lvl, k⟩
    · rfl
    refine answer_ite_withStore rfl ?_
    rw [State.withStore_lowestFree]
    cases s.lowestFree with
    | none => rfl
    | some handle => exact answer_ite_withStore rfl rfl

theorem renewBody_withStore (slot : SlotNo) (handle : Byte) :
    renewBody slot handle (s.withStore x) = (renewBody slot handle s).map (·.withStore x) id := by
  unfold renewBody
  rw [actOn_withStore]
  rcases actOn slot handle s with status | ⟨h, d⟩
  · rfl
  dsimp only
  rw [State.withStore_records]
  cases s.records[h] with
  | lapsed => exact answer_ite_withStore rfl rfl
  | live | free => rfl

theorem amendBody_withStore (slot : SlotNo) (handle : Byte) (level : LevelParam) (cls : Byte) (hold : Word16) :
    amendBody slot handle level cls hold (s.withStore x) =
      (amendBody slot handle level cls hold s).map (·.withStore x) id := by
  unfold amendBody
  rw [actOn_withStore]
  rcases actOn slot handle s with status | ⟨h, d⟩
  · rfl
  refine answer_ite_withStore rfl ?_
  dsimp only
  rw [State.withStore_conf]
  generalize checkDemand _ _ = demand
  rcases demand with _ | ⟨lvl, k⟩ <;> rfl

theorem retireBody_withStore (slot : SlotNo) (handle : Byte) :
    retireBody slot handle (s.withStore x) = (retireBody slot handle s).map (·.withStore x) id := by
  unfold retireBody
  rw [actOn_withStore]
  rcases actOn slot handle s with status | ⟨h, d⟩
  · rfl
  dsimp only
  rw [State.freeRecord_withStore]
  rfl

theorem renewAllBody_withStore (slot : SlotNo) (target : Byte) :
    renewAllBody slot target (s.withStore x) = (renewAllBody slot target s).map (·.withStore x) id := by
  unfold renewAllBody
  cases targetOf slot target <;> rfl

theorem retireAllBody_withStore (slot : SlotNo) (target : Byte) :
    retireAllBody slot target (s.withStore x) = (retireAllBody slot target s).map (·.withStore x) id := by
  unfold retireAllBody
  cases targetOf slot target with
  | error status => rfl
  | ok t =>
    simp only [State.withStore_records, State.freeAll_withStore]
    generalize s.freeAll _ = freed
    exact Prod.ext (State.handOver_withStore { freed with held := s.held.set t 0 } x allChans) rfl

theorem lockBody_withStore (channel : Byte) :
    lockBody channel (s.withStore x) = (lockBody channel s).map (·.withStore x) id := by
  unfold lockBody
  cases chOf channel with
  | none => rfl
  | some c => exact answer_ite_withStore rfl rfl

theorem unlockBody_withStore (channel : Byte) :
    unlockBody channel (s.withStore x) = (unlockBody channel s).map (·.withStore x) id := by
  unfold unlockBody
  cases chOf channel with
  | none => rfl
  | some c => exact answer_ite_withStore rfl (answer_ite_withStore rfl rfl)

theorem clearFaultBody_withStore (channel : Byte) :
    clearFaultBody channel (s.withStore x) = (clearFaultBody channel s).map (·.withStore x) id := by
  unfold clearFaultBody
  cases chOf channel with
  | none => rfl
  | some c => exact answer_ite_withStore rfl rfl

theorem checkOutputsBody_withStore (selection : Word16) :
    checkOutputsBody selection (s.withStore x) = (checkOutputsBody selection s).map (·.withStore x) id :=
  answer_ite_withStore rfl (answer_ite_withStore rfl rfl)

/-! ### Events -/

theorem holdExpiry_withStore (h : Handle) : holdExpiry h (s.withStore x) = (holdExpiry h s).withStore x := by
  unfold holdExpiry
  rw [State.withStore_records]
  rcases s.records[h] with _ | ⟨d, _ | ms⟩ | _
  · rfl
  · rfl
  · exact State.ite_withStore rfl rfl
  · rfl

theorem graceExpiry_withStore (h : Handle) : graceExpiry h (s.withStore x) = (graceExpiry h s).withStore x := by
  unfold graceExpiry
  rw [State.withStore_records, State.freeRecord_withStore]
  cases s.records[h] with
  | lapsed => exact State.ite_withStore rfl rfl
  | live | free => rfl

theorem deadTimeExpiry_withStore (p : PairNo) :
    deadTimeExpiry p (s.withStore x) = (deadTimeExpiry p s).withStore x :=
  State.ite_withStore rfl rfl

theorem inrushTimerExpiry_withStore (c : Ch) :
    inrushTimerExpiry c (s.withStore x) = (inrushTimerExpiry c s).withStore x :=
  State.ite_withStore rfl rfl

theorem retryTimerExpiry_withStore (c : Ch) :
    retryTimerExpiry c (s.withStore x) = (retryTimerExpiry c s).withStore x :=
  State.ite_withStore rfl rfl

theorem overloadRetry_withStore (c : Ch) : overloadRetry c (s.withStore x) = (overloadRetry c s).withStore x :=
  State.ite_withStore rfl rfl

theorem coolingFlagClear_withStore (c : Ch) :
    coolingFlagClear c (s.withStore x) = (coolingFlagClear c s).withStore x :=
  State.ite_withStore rfl rfl

theorem cleanRunExpiry_withStore (c : Ch) : cleanRunExpiry c (s.withStore x) = (cleanRunExpiry c s).withStore x :=
  State.ite_withStore rfl rfl

theorem sampleCompletion_withStore (c : Ch) (sense : Nat) :
    sampleCompletion c sense (s.withStore x) = (sampleCompletion c sense s).withStore x := by
  unfold sampleCompletion
  exact rfl

theorem stallTimerExpiry_withStore (c : Ch) :
    stallTimerExpiry c (s.withStore x) = (stallTimerExpiry c s).withStore x :=
  State.ite_withStore rfl rfl

theorem openFlagSet_withStore (c : Ch) : openFlagSet c (s.withStore x) = (openFlagSet c s).withStore x :=
  State.ite_withStore rfl rfl

theorem openFlagClear_withStore (c : Ch) : openFlagClear c (s.withStore x) = (openFlagClear c s).withStore x :=
  State.ite_withStore rfl rfl

theorem supplyReading_withStore (sense : Nat) :
    supplyReading sense (s.withStore x) = (supplyReading sense s).withStore x := by
  have hclear := State.clearLow_withStore { s with supply := { s.supply with vsense := min maxVoltage sense } } x
  have hset := State.setLow_withStore { s with supply := { s.supply with vsense := min maxVoltage sense } } x
  exact State.ite_withStore (State.ite_withStore rfl (State.ite_withStore rfl hclear)) (State.ite_withStore hset rfl)

theorem supplyRecovery_withStore (sense : Nat) :
    supplyRecovery sense (s.withStore x) = (supplyRecovery sense s).withStore x :=
  State.ite_withStore (supplyReading_withStore s x sense) rfl

theorem onPhaseStart_withStore : onPhaseStart (s.withStore x) = (onPhaseStart s).withStore x := by
  unfold onPhaseStart
  rw [State.withStore_drive]
  cases s.drive.flash with
  | none => rfl
  | some cy => exact State.ite_withStore rfl rfl

theorem onPhaseExpiry_withStore : onPhaseExpiry (s.withStore x) = (onPhaseExpiry s).withStore x := by
  unfold onPhaseExpiry
  rw [State.withStore_drive]
  cases s.drive.flash with
  | none => rfl
  | some cy => exact State.ite_withStore rfl rfl

theorem lineReading_withStore (n : LineNo) (high : Bool) :
    lineReading n high (s.withStore x) = (lineReading n high s).withStore x := by
  have hsettle := State.settleLine_withStore
    { s with lines := s.lines.set n { debounced := high, counter := debounceReload } } x n
  exact State.ite_withStore rfl (State.ite_withStore rfl (State.ite_withStore hsettle rfl))

theorem debounceChange_withStore (n : LineNo) :
    debounceChange n (s.withStore x) = (debounceChange n s).withStore x :=
  State.ite_withStore (lineReading_withStore s x n _) rfl

theorem unbiasedStepEnd_withStore (sense : Nat) :
    unbiasedStepEnd sense (s.withStore x) = (unbiasedStepEnd sense s).withStore x := by
  unfold unbiasedStepEnd
  rw [State.withStore_drive]
  cases s.drive.check.run with
  | none => rfl
  | some r => exact State.ite_withStore (State.ite_withStore rfl rfl) rfl

theorem biasedStepEnd_withStore (sense : Nat) :
    biasedStepEnd sense (s.withStore x) = (biasedStepEnd sense s).withStore x := by
  unfold biasedStepEnd
  rw [State.withStore_drive]
  cases s.drive.check.run with
  | none => rfl
  | some r => exact State.ite_withStore rfl rfl

end

/-! ### Request frames and events -/

section
variable {s : State} {x : Store} {k : Kind} {h : Header}

theorem request_withStore {body : State → State × Answer}
    (hb : body (s.withStore x) = (body s).map (·.withStore x) id) :
    request k h body (s.withStore x) = (request k h body s).withStore x := by
  refine State.ite_withStore ?_ rfl
  rw [linkRefusal_withStore, hb]
  cases linkRefusal s k h <;> rfl

theorem reading_withStore {answer : State → Answer} (ha : answer (s.withStore x) = answer s) :
    reading k h answer (s.withStore x) = (reading k h answer s).withStore x :=
  request_withStore (congrArg (s.withStore x, ·) ha)

theorem event_withStore {f : State → State} (hf : f (s.withStore x) = (f s).withStore x) :
    event f (s.withStore x) = (event f s).withStore x :=
  State.ite_withStore rfl hf

end

end Sys2Proof.Machine
end

section
/-!
PROOFS. A store write in flight: the requests of R168 are refused BUSY, and whatever else the part takes goes on beside
the write. READ NOTICES, CLEAR NOTICES and DESCRIBE show image valid and the last store result and not the write
itself; no other command looks at the store.
-/

namespace Sys2Proof.Machine

/-- A listed request asks for BUSY ahead of its block. -/
theorem exec_of_storeBlocked {i : Instr} {k : Kind} {h : Header} {body : List Byte}
    (hi : requestParts i = some (k, h, body)) (hk : k.storeBlocked = true) :
    ∃ block : State → State × Answer, ∀ s, exec i s = .next (request k h (unlessStoring block) s) := by
  cases i with
  | setNoticeEnable | mapLoad | setRequester | addQuota | setChannelLimits | setChannelProfile | setInterlock
  | setBudget | setSupplyLimits | setFlashPeriod | bindLine | storeConfiguration | restart =>
    cases hi
    exact ⟨_, fun _ => rfl⟩
  | _ => cases hi <;> cases hk

/-- With any write in flight, or none, it does the same, and the store keeps that write and all else that it holds. -/
def BesideWrite (f : State → State) : Prop :=
  ∀ (s : State) (w : Option Configuration),
    f (s.withStore { s.store with writing := w }) = (f s).withStore { s.store with writing := w }

/-- The write put in can be the one that is there. -/
theorem BesideWrite.store_eq {f : State → State} (hf : BesideWrite f) (s : State) : (f s).store = s.store := by
  have hkeep : f s = (f s).withStore s.store := hf s s.store.writing
  rw [hkeep, State.withStore_store]

/-- What is not listed in R168 and does not end the write goes on beside it. -/
theorem exec_besideWrite {i : Instr}
    (hlisted : ∀ k h body, requestParts i = some (k, h, body) → k.storeBlocked = false)
    (hend : ∀ x, i ≠ .storeWriteCompletion x) (hon : i ≠ .powerOn) (hreset : i ≠ .resetAssert) :
    ∃ f : State → State, (∀ s, exec i s = .next (f s)) ∧ BesideWrite f := by
  cases i with
  | setNoticeEnable | mapLoad | setRequester | addQuota | setChannelLimits | setChannelProfile | setInterlock
  | setBudget | setSupplyLimits | setFlashPeriod | bindLine | storeConfiguration | restart =>
    exact absurd (hlisted _ _ _ rfl) (by decide)
  | storeWriteCompletion x => exact absurd rfl (hend x)
  | powerOn => exact absurd rfl hon
  | resetAssert => exact absurd rfl hreset
  | poll | readNotices | describe | lookup | readLapsed | readLoad | list | readRequester | channelStatus
  | readInterlock | feedStatus | readLine | checkResults =>
    exact ⟨_, fun _ => rfl, fun _ _ => reading_withStore rfl⟩
  | clearNotices => exact ⟨_, fun _ => rfl, fun _ _ => request_withStore rfl⟩
  | place => exact ⟨_, fun _ => rfl, fun s _ => request_withStore (placeBody_withStore s _ _ _ _ _ _)⟩
  | renew => exact ⟨_, fun _ => rfl, fun s _ => request_withStore (renewBody_withStore s _ _ _)⟩
  | amend => exact ⟨_, fun _ => rfl, fun s _ => request_withStore (amendBody_withStore s _ _ _ _ _ _)⟩
  | retire => exact ⟨_, fun _ => rfl, fun s _ => request_withStore (retireBody_withStore s _ _ _)⟩
  | renewAll => exact ⟨_, fun _ => rfl, fun s _ => request_withStore (renewAllBody_withStore s _ _ _)⟩
  | retireAll => exact ⟨_, fun _ => rfl, fun s _ => request_withStore (retireAllBody_withStore s _ _ _)⟩
  | lock => exact ⟨_, fun _ => rfl, fun s _ => request_withStore (lockBody_withStore s _ _)⟩
  | unlock => exact ⟨_, fun _ => rfl, fun s _ => request_withStore (unlockBody_withStore s _ _)⟩
  | clearFault => exact ⟨_, fun _ => rfl, fun s _ => request_withStore (clearFaultBody_withStore s _ _)⟩
  | checkOutputs => exact ⟨_, fun _ => rfl, fun s _ => request_withStore (checkOutputsBody_withStore s _ _)⟩
  | unknownKindFrame => exact ⟨_, fun _ => rfl, fun _ _ => State.ite_withStore rfl (State.ite_withStore rfl rfl)⟩
  | frameDiscard => exact ⟨_, fun _ => rfl, fun _ _ => State.ite_withStore rfl rfl⟩
  | csnFall => exact ⟨_, fun _ => rfl, fun _ _ => rfl⟩
  | holdExpiry => exact ⟨_, fun _ => rfl, fun s _ => event_withStore (holdExpiry_withStore s _ _)⟩
  | graceExpiry => exact ⟨_, fun _ => rfl, fun s _ => event_withStore (graceExpiry_withStore s _ _)⟩
  | deadTimeExpiry => exact ⟨_, fun _ => rfl, fun s _ => event_withStore (deadTimeExpiry_withStore s _ _)⟩
  | inrushTimerExpiry => exact ⟨_, fun _ => rfl, fun s _ => event_withStore (inrushTimerExpiry_withStore s _ _)⟩
  | retryTimerExpiry => exact ⟨_, fun _ => rfl, fun s _ => event_withStore (retryTimerExpiry_withStore s _ _)⟩
  | overloadRetry => exact ⟨_, fun _ => rfl, fun s _ => event_withStore (overloadRetry_withStore s _ _)⟩
  | coolingFlagClear => exact ⟨_, fun _ => rfl, fun s _ => event_withStore (coolingFlagClear_withStore s _ _)⟩
  | cleanRunExpiry => exact ⟨_, fun _ => rfl, fun s _ => event_withStore (cleanRunExpiry_withStore s _ _)⟩
  | sampleCompletion => exact ⟨_, fun _ => rfl, fun s _ => event_withStore (sampleCompletion_withStore s _ _ _)⟩
  | stallTimerExpiry => exact ⟨_, fun _ => rfl, fun s _ => event_withStore (stallTimerExpiry_withStore s _ _)⟩
  | openFlagSet => exact ⟨_, fun _ => rfl, fun s _ => event_withStore (openFlagSet_withStore s _ _)⟩
  | openFlagClear => exact ⟨_, fun _ => rfl, fun s _ => event_withStore (openFlagClear_withStore s _ _)⟩
  | pwmPeriodStart => exact ⟨_, fun _ => rfl, fun _ _ => event_withStore rfl⟩
  | supplyReading => exact ⟨_, fun _ => rfl, fun s _ => event_withStore (supplyReading_withStore s _ _)⟩
  | supplyRecovery => exact ⟨_, fun _ => rfl, fun s _ => event_withStore (supplyRecovery_withStore s _ _)⟩
  | onPhaseStart => exact ⟨_, fun _ => rfl, fun s _ => event_withStore (onPhaseStart_withStore s _)⟩
  | onPhaseExpiry => exact ⟨_, fun _ => rfl, fun s _ => event_withStore (onPhaseExpiry_withStore s _)⟩
  | lineReading => exact ⟨_, fun _ => rfl, fun s _ => event_withStore (lineReading_withStore s _ _ _)⟩
  | debounceChange => exact ⟨_, fun _ => rfl, fun s _ => event_withStore (debounceChange_withStore s _ _)⟩
  | unbiasedStepEnd => exact ⟨_, fun _ => rfl, fun s _ => event_withStore (unbiasedStepEnd_withStore s _ _)⟩
  | biasedStepEnd => exact ⟨_, fun _ => rfl, fun s _ => event_withStore (biasedStepEnd_withStore s _ _)⟩

/-- Settles O8: a listed request meets BUSY ahead of its block, and everything else goes on beside the write. -/
theorem storeInFlightBlocksOnlyTheListed : Obligations.StoreInFlightBlocksOnlyTheListed := by
  refine ⟨fun i k h body s hi hk a hw => ?listed, fun i s t w hlisted hend hon hreset ht => ?others⟩
  case listed =>
    obtain ⟨block, hblock⟩ := exec_of_storeBlocked hi hk
    rw [hblock, a.unlessStoring_busy hw]
  case others =>
    obtain ⟨f, hf, hbeside⟩ := exec_besideWrite hlisted hend hon hreset
    obtain rfl : f s = t := Host.Outcome.next.inj ((hf s).symm.trans ht)
    refine ⟨hbeside.store_eq s, ?_⟩
    exact (hf _).trans (congrArg Host.Outcome.next (hbeside s w))

end Sys2Proof.Machine
end


section
/-!
SUPPORT. What a command can do to the drive side, said once: the moves of which every command's effect is a chain
(`Drive.Move`), and the chains that the Sequencer's operations make. A law of the drive side that every move keeps,
every command keeps.
-/

namespace Sys2Proof.Machine

/-! ### The moves -/

/-- LOCK's own change, before the pass on what it releases (R72). -/
def Drive.lockOff (d : Drive) (e : Env) (c : Ch) : Drive :=
  ((d.modChan c (fun x => { x with cooling := x.coolingOnLeave (e.hot c), retries := 0, retryTimer := none })).undrive
    e c .disabled).releasePair e c

theorem Drive.lock_eq (d : Drive) (e : Env) (c : Ch) :
    d.lock e c = Drive.passIf e c (d.lockOff e c, decide (d.chans[c].reservation ≠ 0)) := rfl

/-- A trip's own change, before the pass on what it releases (R66). -/
def Drive.tripOff (d : Drive) (e : Env) (c : Ch) (kind : FaultKind) : Drive :=
  let retry := decide (d.chans[c].retries < (e.cfg c).retryLimit)
  let d := d.undrive e c (if retry then .tripped else .latched)
  let d := d.modChan c (fun x =>
    { x with lastFault := some kind,
             retries := if retry then x.retries + 1 else x.retries,
             retryTimer := if retry && decide (kind ≠ .overload) then some retryTime else none })
  let d := if retry then d else d.releasePair e c
  d.noteChanged c

theorem Drive.trip_eq (d : Drive) (e : Env) (c : Ch) (kind : FaultKind) :
    d.trip e c kind = (d.tripOff e c kind).pass e (e.feedOf c) := rfl

/-- The holder that SET INTERLOCK gives the pair. -/
def Drive.newHolder (d : Drive) (e : Env) (p : PairNo) : Holder :=
  if e.conf.pairs[p].enabled then d.holderFor e.conf.pairs[p].a e.conf.pairs[p].b else .none

/-- SET INTERLOCK's own change of the pair, and of a member that waits for budget without being the holder. -/
def Drive.pairHandled (d : Drive) (e : Env) (p : PairNo) : Drive :=
  let new := e.conf.pairs[p]
  let holder := if new.enabled then d.holderFor new.a new.b else .none
  let d := d.modPair p (fun _ => ⟨holder, none⟩)
  let d := if new.enabled ∧ holder = .b then d.displace e new.a else d
  if new.enabled ∧ holder = .a then d.displace e new.b else d

/-- SET INTERLOCK's change, the arbiter's grant and the former members that go on, before the passes (R78). -/
def Drive.pairSet (d : Drive) (e : Env) (p : PairNo) (old : PairConfig) : Drive × List (Fin 3) :=
  let new := e.conf.pairs[p]
  let r1 : Drive × List (Fin 3) :=
    if new.enabled ∧ d.newHolder e p = .none then (d.pairHandled e p).arbitrate e p else (d.pairHandled e p, [])
  let isMember (c : Ch) : Bool := new.enabled && (decide (c = new.a) || decide (c = new.b))
  let r2 : Drive × List (Fin 3) :=
    if old.enabled && !isMember old.a then r1.1.leavePair e old.a else (r1.1, [])
  let r3 : Drive × List (Fin 3) :=
    if old.enabled && !isMember old.b then r2.1.leavePair e old.b else (r2.1, [])
  (r3.1, r1.2 ++ r2.2 ++ r3.2)

theorem Drive.setPair_eq (d : Drive) (e : Env) (p : PairNo) (old : PairConfig) :
    d.setPair e p old = (d.pairSet e p old).1.passes e (d.pairSet e p old).2 := rfl

/-- Two records of a channel that agree in what decides and drives; the retry count is kept or cleared. -/
structure Channel.SideOf (x y : Channel) : Prop where
  wanted      : y.wanted = x.wanted
  cls         : y.cls = x.cls
  state       : y.state = x.state
  applied     : y.applied = x.applied
  reservation : y.reservation = x.reservation
  upgrade     : y.upgrade = x.upgrade
  openCount   : y.openCount = x.openCount
  openFlag    : y.openFlag = x.openFlag
  retries     : y.retries = x.retries ∨ y.retries = 0

theorem Channel.SideOf.refl (x : Channel) : Channel.SideOf x x :=
  ⟨rfl, rfl, rfl, rfl, rfl, rfl, rfl, rfl, .inl rfl⟩

/-- The channel may enter the switch-on path from its first test: it is in OFF and wanted, leaves a fault, or cools
(R60, R67, R71, R73). -/
def Channel.mayStart (x : Channel) : Prop :=
  (x.state = .off ∧ x.wanted ≠ .off) ∨ x.state.faulted = true ∨ x.state = .waiting .cooling

/-- Which moves beyond the inner ones a command makes: those of an interlock pair that changes hands or settings, or
those of a pair of values handed on by a Channel Resolver. -/
inductive Drive.Scope where
  | inner | pairs | handed

/-- One move of the drive side. -/
inductive Drive.Move (e : Env) : Drive.Scope → Drive → Drive → Prop where
  /-- Timers, flags and counts that no law of driving looks at. -/
  | side {k : Scope} {d : Drive} (chans : Vector Channel 16) (h : ∀ c : Ch, Channel.SideOf d.chans[c] chans[c]) :
      Move e k d { d with chans := chans }
  /-- The Notice Unit. -/
  | notice {k : Scope} {d : Drive} (n : Notice) : Move e k d { d with notice := n }
  /-- A running cycle goes on. -/
  | turn {k : Scope} {d : Drive} (cy : Cycle) (h : d.flash.isSome = true) : Move e k d { d with flash := some cy }
  /-- Dead times run. -/
  | dead {k : Scope} {d : Drive} (pairs : Vector PairState 8)
      (h : ∀ p : PairNo, pairs[p].holder = d.pairs[p].holder ∧ pairs[p].dead.isSome = d.pairs[p].dead.isSome) :
      Move e k d { d with pairs := pairs }
  /-- A test goes on with its channel. -/
  | testing {k : Scope} {d : Drive} {r : Run} (t : Test) (h : d.check.run = some r) (hc : t.ch = r.test.ch) :
      Move e k d { d with check := { d.check with run := some { r with test := t } } }
  /-- A check run is aborted. -/
  | abort {k : Scope} {d : Drive} : Move e k d { d with check := { d.check with run := none } }
  /-- A check run starts. -/
  | start {k : Scope} {d : Drive} (selection : ChSet) :
      Move e k d (({ d with check := { run := none, results := Vector.replicate 16 .notTested,
                                       untested := setSize selection } } : Drive).visitFrom selection 0)
  /-- A test ends with a result. -/
  | tested {k : Scope} {d : Drive} {r : Run} (result : CheckResult) (h : d.check.run = some r)
      (hr : result ≠ .notTested) : Move e k d (d.endTest r result)
  /-- The open load of a watched channel is counted. -/
  | opens {k : Scope} {d : Drive} {c : Ch} (flag : Bool) (n : Nat) (hs : d.chans[c].state = .on)
      (hl : (e.cfg c).openLoadLevel ≠ 0) (hn : n ≤ 99) :
      Move e k d (d.modChan c (fun x => { x with openFlag := flag, openCount := n }))
  /-- A driven channel is shed. -/
  | shed {k : Scope} {d : Drive} (c : Ch) (cause : ShedCause)
      (h : d.chans[c].state.driven = true ∨ ∃ f : Fin 3, c ∈ d.feeds[f].admitted) : Move e k d (d.shed e c cause)
  /-- A queued entry that passes the supply test and fits is admitted. -/
  | letIn {k : Scope} {d : Drive} {f : Fin 3} {x : Entry} (hx : x ∈ d.feeds[f].queue)
      (hl : e.low = true → 2 ≤ d.chans[x.ch].rank) (hn : d.needed e x ≤ d.free e f) : Move e k d (d.letIn e x)
  /-- The inrush of a channel ends. -/
  | enterOn {k : Scope} {d : Drive} {c : Ch} (hs : d.chans[c].state = .inrush) : Move e k d (d.enterOn e c)
  /-- LOCK. -/
  | lockOff {k : Scope} {d : Drive} {c : Ch} : Move e k d (d.lockOff e c)
  /-- UNLOCK, up to the switch-on path. -/
  | unlock {k : Scope} {d : Drive} {c : Ch} (hs : d.chans[c].state = .disabled) :
      Move e k d (d.modChan c (fun x => { x with state := .off, retries := 0, lastFault := none }))
  /-- A trip of a driven channel. -/
  | tripOff {k : Scope} {d : Drive} {c : Ch} (kind : FaultKind) (hs : d.chans[c].state.driven = true) :
      Move e k d (d.tripOff e c kind)
  /-- The switch-on path from its first test. -/
  | switchOn {k : Scope} {d : Drive} {c : Ch} (hs : d.chans[c].mayStart) : Move e k d (d.switchOn e c).1
  /-- The switch-on path from its interlock test, the cooling flag being cleared. -/
  | goOn {k : Scope} {d : Drive} {c : Ch} (hs : d.chans[c].state = .waiting .cooling) : Move e k d (d.interlockTest e c).1
  /-- A Channel Sequencer takes the pair of values handed to it. -/
  | takePair {d : Drive} (c : Ch) (wanted : Level) (cls : Option Cls) :
      Move e .handed d (d.takePair e c wanted cls).1
  /-- A pair's holder or dead time is set. -/
  | pairs {d : Drive} (pairs : Vector PairState 8) : Move e .pairs d { d with pairs := pairs }
  /-- A member that waited for its pair asks its feed. -/
  | joinFresh {d : Drive} {c : Ch} (hs : d.chans[c].state.waitsForPair = true) : Move e .pairs d (d.joinFresh e c)
  /-- A member that waited for budget waits for its pair. -/
  | displace {d : Drive} (c : Ch) : Move e .pairs d (d.displace e c)

/-- A chain of moves. -/
abbrev Drive.Moves (e : Env) (k : Drive.Scope) : Drive → Drive → Prop := Relation.ReflTransGen (Drive.Move e k)

/-! ### The chains of the Sequencer's operations -/

section
variable {e : Env} {k : Drive.Scope} {d d' : Drive} {c : Ch}

theorem Drive.Moves.pass (h : Drive.Moves e k d d') (f : Fin 3) : Drive.Moves e k d (d'.pass e f) :=
  Drive.pass_induct (fun _ v _ hd hv _ _ => hd.tail (.shed v .budget (.inr ⟨f, hv⟩)))
    (fun _ _ hd hx hl hn => hd.tail (.letIn hx hl hn)) d' h

theorem Drive.Moves.passIf {r : Drive × Bool} (h : Drive.Moves e k d r.1) (c : Ch) :
    Drive.Moves e k d (Drive.passIf e c r) :=
  Drive.passIf_induct (fun _ f hd => hd.pass f) c r h

theorem Drive.Moves.passes (h : Drive.Moves e k d d') (due : List (Fin 3)) : Drive.Moves e k d (d'.passes e due) :=
  Drive.passes_induct (fun _ f hd => hd.pass f) due d' h

/-- A change of one channel's record that no law of driving looks at. -/
theorem Drive.Moves.modSide (h : Drive.Moves e k d d') (c : Ch) {g : Channel → Channel}
    (hg : Channel.SideOf d'.chans[c] (g d'.chans[c])) : Drive.Moves e k d (d'.modChan c g) := by
  refine h.tail (.side _ fun c' => ?_)
  have key := d'.modChan_at c c' g
  rw [Drive.modChan_chans] at key
  rw [key]
  by_cases hc : c' = c
  · rw [if_pos hc, hc]; exact hg
  · rw [if_neg hc]; exact .refl _

theorem Drive.Moves.lock (h : Drive.Moves e k d d') (c : Ch) : Drive.Moves e k d (d'.lock e c) :=
  Drive.Moves.passIf (r := (d'.lockOff e c, _)) (h.tail .lockOff) c

theorem Drive.Moves.trip (h : Drive.Moves e k d d') (kind : FaultKind) (hs : d'.chans[c].state.driven = true) :
    Drive.Moves e k d (d'.trip e c kind) :=
  Drive.Moves.pass (h.tail (.tripOff kind hs)) _

theorem Drive.modChan_self (d : Drive) (c : Ch) (g : Channel → Channel) : (d.modChan c g).chans[c] = g d.chans[c] := by
  rw [Drive.modChan_at, if_pos rfl]

theorem Drive.modChan_ne (d : Drive) {c c' : Ch} (g : Channel → Channel) (h : c' ≠ c) :
    (d.modChan c g).chans[c'] = d.chans[c'] := by
  rw [Drive.modChan_at, if_neg h]

theorem Drive.Moves.unlock (h : Drive.Moves e k d d') (hs : d'.chans[c].state = .disabled) :
    Drive.Moves e k d (d'.unlock e c) := by
  unfold Drive.unlock
  dsimp only
  split
  · exact h.tail (.unlock hs)
  · rename_i hw
    exact Drive.Moves.passIf ((h.tail (.unlock hs)).tail (.switchOn (.inl ⟨by rw [Drive.modChan_self], hw⟩))) c

theorem Drive.Moves.clearFault (h : Drive.Moves e k d d') (hs : d'.chans[c].state.faulted = true) :
    Drive.Moves e k d (d'.clearFault e c) :=
  Drive.Moves.passIf ((h.modSide c ⟨rfl, rfl, rfl, rfl, rfl, rfl, rfl, rfl, .inr rfl⟩).tail
    (.switchOn (.inr (.inl (by rw [Drive.modChan_self]; exact hs))))) c

theorem Drive.Moves.retry (h : Drive.Moves e k d d') (hs : d'.chans[c].state = .tripped) :
    Drive.Moves e k d (d'.retry e c) :=
  Drive.Moves.passIf ((h.modSide c ⟨rfl, rfl, rfl, rfl, rfl, rfl, rfl, rfl, .inl rfl⟩).tail
    (.switchOn (.inr (.inl (by rw [Drive.modChan_self]; simp only [hs]; rfl))))) c

theorem Drive.Moves.clearCooling (h : Drive.Moves e k d d') (c : Ch) : Drive.Moves e k d (d'.clearCooling e c) := by
  have hside : Drive.Moves e k d (d'.modChan c (fun x => { x with cooling := false })) :=
    h.modSide c ⟨rfl, rfl, rfl, rfl, rfl, rfl, rfl, rfl, .inl rfl⟩
  unfold Drive.clearCooling
  dsimp only
  split
  · rename_i hs
    exact Drive.Moves.passIf (hside.tail (.goOn hs)) c
  · exact hside

theorem Drive.Moves.coolReport (h : Drive.Moves e k d d') (c : Ch) : Drive.Moves e k d (d'.coolReport e c) := by
  have hcool : Drive.Moves e k d (if d'.chans[c].cooling then d'.clearCooling e c else d') := by
    split
    · exact h.clearCooling c
    · exact h
  unfold Drive.coolReport
  split
  · exact h
  · dsimp only
    generalize (if d'.chans[c].cooling then d'.clearCooling e c else d') = d2 at *
    split
    · rename_i hs
      exact hcool.retry hs.1
    · exact hcool

theorem Drive.Moves.endInrush (h : Drive.Moves e k d d') (hs : d'.chans[c].state = .inrush) :
    Drive.Moves e k d (d'.endInrush e c) :=
  Drive.Moves.passIf (r := (d'.enterOn e c, _)) (h.tail (.enterOn hs)) c

theorem Drive.Moves.takePairs (h : Drive.Moves e .handed d d') (news : List (Ch × Level × Option Cls)) :
    Drive.Moves e .handed d (d'.takePairs e news) :=
  Drive.takePairs_induct (fun _ c w x hd => hd.tail (.takePair c w x)) (fun _ f hd => hd.pass f) news d' h

theorem ChanState.waitsForPair_of_waitStart {x : ChanState} (h : x.waitStart ≠ none) : x.waitsForPair = true := by
  unfold ChanState.waitStart at h
  split at h
  · rfl
  · exact absurd rfl h

/-- The arbiter grants a member that waits. -/
theorem Drive.arbiterChoice_waits {a b c : Ch} (h : d.arbiterChoice a b = some c) :
    (c = a ∨ c = b) ∧ d.chans[c].state.waitStart ≠ none := by
  unfold Drive.arbiterChoice at h
  split at h
  · cases h
  · rename_i ha _
    cases h
    exact ⟨.inl rfl, by rw [ha]; exact Option.some_ne_none _⟩
  · rename_i _ hb
    cases h
    exact ⟨.inr rfl, by rw [hb]; exact Option.some_ne_none _⟩
  · rename_i ha hb
    have hab : c = a ∨ c = b := by split_ifs at h <;> grind
    rcases hab with rfl | rfl
    · exact ⟨.inl rfl, by rw [ha]; exact Option.some_ne_none _⟩
    · exact ⟨.inr rfl, by rw [hb]; exact Option.some_ne_none _⟩

theorem Drive.Moves.modPair (h : Drive.Moves e .pairs d d') (p : PairNo) (g : PairState → PairState) :
    Drive.Moves e .pairs d (d'.modPair p g) := h.tail (.pairs _)

theorem Drive.Moves.arbitrate (h : Drive.Moves e .pairs d d') (p : PairNo) :
    Drive.Moves e .pairs d (d'.arbitrate e p).1 := by
  unfold Drive.arbitrate
  split
  · exact h
  · rename_i c hc
    refine (h.modPair p _).tail (.joinFresh ?_)
    rw [Drive.modPair_chans]
    exact ChanState.waitsForPair_of_waitStart (Drive.arbiterChoice_waits hc).2

theorem Drive.Moves.leavePair (h : Drive.Moves e .pairs d d') (c : Ch) :
    Drive.Moves e .pairs d (d'.leavePair e c).1 := by
  unfold Drive.leavePair
  split
  · rename_i hs
    exact h.tail (.joinFresh hs)
  · exact h

/-- What both outcomes of a test are reached by, the test is. -/
theorem Drive.Moves.ite {p : Prop} [Decidable p] {d1 d2 : Drive} (h1 : p → Drive.Moves e k d d1)
    (h2 : ¬ p → Drive.Moves e k d d2) : Drive.Moves e k d (if p then d1 else d2) := by
  split
  · exact h1 ‹_›
  · exact h2 ‹_›

theorem Drive.Moves.ite_fst {α : Type} {p : Prop} [Decidable p] {r1 r2 : Drive × α} (h1 : Drive.Moves e k d r1.1)
    (h2 : Drive.Moves e k d r2.1) : Drive.Moves e k d (if p then r1 else r2).1 := by
  split
  · exact h1
  · exact h2

theorem Drive.Moves.pairSet (h : Drive.Moves e .pairs d d') (p : PairNo) (old : PairConfig) :
    Drive.Moves e .pairs d (d'.pairSet e p old).1 := by
  unfold Drive.pairSet Drive.pairHandled
  dsimp only
  have step1 := h.modPair p (fun _ => ⟨if e.conf.pairs[p].enabled then d'.holderFor e.conf.pairs[p].a e.conf.pairs[p].b else .none, none⟩)
  have step2 := Drive.Moves.ite (p := e.conf.pairs[p].enabled = true ∧
    (if e.conf.pairs[p].enabled then d'.holderFor e.conf.pairs[p].a e.conf.pairs[p].b else .none) = .b)
    (fun _ => step1.tail (.displace e.conf.pairs[p].a)) (fun _ => step1)
  have step3 := Drive.Moves.ite (p := e.conf.pairs[p].enabled = true ∧
    (if e.conf.pairs[p].enabled then d'.holderFor e.conf.pairs[p].a e.conf.pairs[p].b else .none) = .a)
    (fun _ => step2.tail (.displace e.conf.pairs[p].b)) (fun _ => step2)
  refine Drive.Moves.ite_fst (Drive.Moves.leavePair ?_ _) ?_
  all_goals refine Drive.Moves.ite_fst (Drive.Moves.leavePair ?_ _) ?_
  all_goals exact Drive.Moves.ite_fst (step3.arbitrate p) step3

theorem Drive.Moves.setPair (h : Drive.Moves e .pairs d d') (p : PairNo) (old : PairConfig) :
    Drive.Moves e .pairs d (d'.setPair e p old) := by
  rw [Drive.setPair_eq]
  exact Drive.Moves.passes (h.pairSet p old) _

end

end Sys2Proof.Machine
end


section
/-!
SUPPORT. What every command does to the drive side and to what the drive side reads: a chain of moves
(`exec_driveChange`), but for the settings of a DISABLED channel, a lowered budget, the setting of supply-low and
power-on, which are named.
-/

namespace Sys2Proof.Machine

/-! ### Records change nothing that the drive side reads -/

theorem State.freeRecord_eq (s : State) (h : Handle) :
    ∃ r n l, s.freeRecord h = { s with records := r, held := n, lists := l } := by
  unfold State.freeRecord
  split <;> exact ⟨_, _, _, rfl⟩

theorem State.refreshLine_eq (s : State) (n : LineNo) :
    ∃ r m l, s.refreshLine n = { s with records := r, held := m, lists := l } := by
  obtain ⟨r, m, l, h⟩ := s.freeRecord_eq (lineHandle n)
  unfold State.refreshLine
  simp only [h]
  split <;> exact ⟨_, _, _, rfl⟩

/-! ### Chains of moves between states -/

/-- The command's effect on the drive side is a chain of moves; the channel settings stay, the budgets do not fall, the
pairs keep their settings but in SET INTERLOCK, and supply-low is not set. -/
structure State.Moves (k : Drive.Scope) (s t : State) : Prop where
  channels : t.conf.channels = s.conf.channels
  budgets  : ∀ f : Fin 3, s.conf.budgets[f] ≤ t.conf.budgets[f]
  pairs    : k ≠ .pairs → t.conf.pairs = s.conf.pairs
  low      : t.supply.low = true → s.supply.low = true
  moves    : Drive.Moves t.env k s.drive t.drive

section
variable {k : Drive.Scope} {s t : State}

/-- Nothing of the drive side changes, nor what it reads of the settings of channels, budgets and pairs. -/
theorem State.Moves.of_eq (hc : t.conf.channels = s.conf.channels) (hb : t.conf.budgets = s.conf.budgets)
    (hp : t.conf.pairs = s.conf.pairs) (hl : t.supply.low = s.supply.low) (hd : t.drive = s.drive) :
    State.Moves k s t :=
  ⟨hc, fun _ => by rw [hb], fun _ => hp, fun h => hl ▸ h, by rw [hd]⟩

theorem State.Moves.refl (s : State) : State.Moves k s s := .of_eq rfl rfl rfl rfl rfl

/-- The drive side alone changes, by a chain of moves. -/
theorem State.Moves.drive {d : Drive} (h : Drive.Moves s.env k s.drive d) : State.Moves k s { s with drive := d } :=
  ⟨rfl, fun _ => Nat.le_refl _, fun _ => rfl, id, h⟩

theorem State.Moves.link (h : State.Moves k s t) (l : Link) : State.Moves k s { t with link := l } :=
  ⟨h.channels, h.budgets, h.pairs, h.low, h.moves⟩

theorem State.Moves.handOver (h : State.Moves .handed s t) (cs : List Ch) : State.Moves .handed s (t.handOver cs) :=
  ⟨h.channels, h.budgets, h.pairs, h.low, h.moves.takePairs _⟩

theorem State.Moves.freeRecord (h : State.Moves k s t) (n : Handle) : State.Moves k s (t.freeRecord n) := by
  obtain ⟨_, _, _, he⟩ := t.freeRecord_eq n
  rw [he]
  exact ⟨h.channels, h.budgets, h.pairs, h.low, h.moves⟩

theorem State.Moves.settleLine (h : State.Moves .handed s t) (n : LineNo) : State.Moves .handed s (t.settleLine n) := by
  refine State.Moves.handOver ?_ _
  obtain ⟨_, _, _, he⟩ := t.refreshLine_eq n
  rw [he]
  exact ⟨h.channels, h.budgets, h.pairs, h.low, h.moves⟩

end

/-- The sheds of R117 step 1, feed by feed, with the feeds that shed a channel. -/
def Drive.shedAllLow (d : Drive) (e : Env) : Drive × List (Fin 3) :=
  allFeeds.foldl (fun acc f => ((acc.1.shedLow e f).1, if (acc.1.shedLow e f).2 then f :: acc.2 else acc.2)) (d, [])

theorem State.setLow_drive (s : State) : s.setLow.drive =
    ((s.drive.shedAllLow { s.env with low := true }).1.passes { s.env with low := true }
      (s.drive.shedAllLow { s.env with low := true }).2).setKind .supply := by
  unfold State.setLow Drive.shedAllLow
  dsimp only
  rfl

/-- What a command does to the drive side and to what the drive side reads. -/
inductive State.DriveChange (k : Drive.Scope) (s t : State) : Prop where
  /-- A chain of moves. -/
  | moves (h : State.Moves k s t)
  /-- The settings of a DISABLED channel are written (R50, R51). -/
  | configured (c : Ch) (cfg : ChannelConfig) (hs : s.drive.chans[c].state = .disabled)
      (hconf : t.conf = { s.conf with channels := s.conf.channels.set c cfg }) (hd : t.drive = s.drive)
      (hl : t.supply = s.supply)
  /-- A budget is lowered (R112). -/
  | lowered (f : Fin 3) (budget : Nat) (hb : budget < s.conf.budgets[f])
      (hconf : t.conf = { s.conf with budgets := s.conf.budgets.set f budget })
      (hd : t.drive = Drive.shedDown t.env f s.drive.feeds[f].admitted.length s.drive) (hl : t.supply = s.supply)
  /-- Supply-low is set (R117). -/
  | supplyLow (hconf : t.conf = s.conf) (hl : t.supply.low = true)
      (hd : t.drive =
        ((s.drive.shedAllLow t.env).1.passes t.env (s.drive.shedAllLow t.env).2).setKind .supply)
  /-- Power-on (R171). -/
  | powerOn (valid : Bool) (hd : t.drive = startDrive t.conf valid) (hl : ∀ c : Ch, t.lists[c] = [])

/-- Which moves beyond the inner ones a command makes. -/
def scopeOf : Instr → Drive.Scope
  | .setInterlock _ _ _ _ _ | .deadTimeExpiry _ => .pairs
  | .place _ _ _ _ _ | .renew _ _ | .amend _ _ _ _ _ | .retire _ _ | .retireAll _ _ | .bindLine _ _ _ _ _ _ _
  | .restart _ | .holdExpiry _ | .lineReading _ _ | .debounceChange _ => .handed
  | _ => .inner

/-! ### Requests -/

/-- What does not look at the link, and holds of the state and of what the block leaves, holds after the frame. -/
theorem request_induct {P : State → Prop} {k : Kind} {h : Header} {body : State → State × Answer} {s : State}
    (hl : ∀ u l, P u → P { u with link := l }) (hs : P s) (hb : P (body s).1) : P (request k h body s) := by
  rcases request_cases k h body s with e | ⟨_, _, e⟩ | ⟨_, e⟩ <;> rw [e]
  · exact hl s _ hs
  · exact hl s _ hs
  · exact hl _ _ hb

theorem unlessStoring_induct {P : State → Prop} {body : State → State × Answer} {s : State} (hs : P s)
    (hb : s.store.writing = none → P (body s).1) : P (unlessStoring body s).1 := by
  unfold unlessStoring
  split
  · exact hs
  · rename_i h
    exact hb (by simpa using h)

theorem event_induct {P : State → Prop} {f : State → State} {s : State} (hs : P s)
    (hf : s.inReset = false → P (f s)) : P (event f s) := by
  unfold event
  split
  · exact hs
  · rename_i h
    exact hf (by simpa using h)

section
variable {k : Drive.Scope} {s : State}

theorem placeBody_moves (slot : SlotNo) (load : Byte) (level : LevelParam) (cls : Byte) (hold : Word16) (s : State) :
    State.Moves .handed s (placeBody slot load level cls hold s).1 := by
  unfold placeBody
  split
  · exact .refl s
  · dsimp only
    split
    · exact .refl s
    split
    · exact .refl s
    split
    · exact .refl s
    split
    · exact .refl s
    split
    · exact .refl s
    split
    · exact .refl s
    · refine State.Moves.handOver ?_ _; exact .of_eq rfl rfl rfl rfl rfl

theorem renewBody_moves (slot : SlotNo) (handle : Byte) (s : State) :
    State.Moves .handed s (renewBody slot handle s).1 := by
  unfold renewBody
  split
  · exact .refl s
  · split
    · split
      · exact .refl s
      · refine State.Moves.handOver ?_ _; exact .of_eq rfl rfl rfl rfl rfl
    all_goals exact .of_eq rfl rfl rfl rfl rfl

theorem amendBody_moves (slot : SlotNo) (handle : Byte) (level : LevelParam) (cls : Byte) (hold : Word16) (s : State) :
    State.Moves .handed s (amendBody slot handle level cls hold s).1 := by
  unfold amendBody
  split
  · exact .refl s
  · split
    · exact .refl s
    · dsimp only
      split
      · exact .refl s
      · refine State.Moves.handOver ?_ _; exact .of_eq rfl rfl rfl rfl rfl

theorem retireBody_moves (slot : SlotNo) (handle : Byte) (s : State) :
    State.Moves .handed s (retireBody slot handle s).1 := by
  unfold retireBody
  split
  · exact .refl s
  · exact ((State.Moves.refl s).freeRecord _).handOver _

theorem retireAllBody_moves (slot : SlotNo) (target : Byte) (s : State) :
    State.Moves .handed s (retireAllBody slot target s).1 := by
  unfold retireAllBody
  split
  · exact .refl s
  · dsimp only
    refine State.Moves.handOver ?_ allChans
    refine .of_eq ?_ ?_ ?_ ?_ ?_ <;> simp only [State.freeAll_conf, State.freeAll_drive, State.freeAll_supply]

theorem renewAllBody_moves (slot : SlotNo) (target : Byte) (s : State) :
    State.Moves k s (renewAllBody slot target s).1 := by
  unfold renewAllBody
  split
  · exact .refl s
  · exact .of_eq rfl rfl rfl rfl rfl

theorem restartBody_moves (s : State) : State.Moves .handed s (restartBody s).1 := by
  refine State.Moves.handOver (t := { s.freeAll requesterHandle with held := heldAfterRestart s.held
                                                                     drive := s.drive.restartUnits }) ?_ _
  exact ⟨rfl, fun _ => Nat.le_refl _, fun _ => rfl, id,
    (Relation.ReflTransGen.refl.tail .abort).tail (.notice ⟨0#8, 0#16, 0#16, 0#16⟩)⟩

theorem bindLineBody_moves (line enabled polarity load : Byte) (level : LevelParam) (cls : Byte) (s : State) :
    State.Moves .handed s (bindLineBody line enabled polarity load level cls s).1 := by
  unfold bindLineBody
  split
  · split
    · exact .refl s
    · refine State.Moves.settleLine ?_ _; exact .of_eq rfl rfl rfl rfl rfl
  · exact .refl s

theorem mapLoadBody_moves (load enabled channel : Byte) (permitted : Word16) (s : State) :
    State.Moves k s (mapLoadBody load enabled channel permitted s).1 := by
  unfold mapLoadBody
  split
  · exact .refl s
  · split
    · split
      · exact .refl s
      split
      · exact .refl s
      · exact .of_eq rfl rfl rfl rfl rfl
    · exact .refl s

/-- The settings of a requester slot are no setting that the drive side reads. -/
theorem withRequester_drive (x : Configuration) (n : SlotNo) (r : Requester) :
    (withRequester x n r).channels = x.channels ∧ (withRequester x n r).budgets = x.budgets ∧
    (withRequester x n r).pairs = x.pairs := by
  unfold withRequester
  split
  · exact ⟨rfl, rfl, rfl⟩
  · split <;> exact ⟨rfl, rfl, rfl⟩

theorem State.Moves.withRequester (s : State) (n : SlotNo) (r : Requester) :
    State.Moves k s { s with conf := withRequester s.conf n r } :=
  .of_eq (withRequester_drive _ n r).1 (withRequester_drive _ n r).2.1 (withRequester_drive _ n r).2.2 rfl rfl

theorem setRequesterBody_moves (target enabled quota ceiling : Byte) (s : State) :
    State.Moves k s (setRequesterBody target enabled quota ceiling s).1 := by
  unfold setRequesterBody
  split
  · exact .refl s
  · split
    · exact .refl s
    split
    · exact .withRequester s _ _
    split
    · exact .refl s
    split
    · exact .refl s
    · exact .withRequester s _ _

theorem addQuotaBody_moves (target n : Byte) (s : State) : State.Moves k s (addQuotaBody target n s).1 := by
  unfold addQuotaBody
  split
  · exact .refl s
  · split
    · exact .refl s
    · exact .withRequester s _ _

theorem configureBody_drive (channel : Byte) (fields : ChannelConfig → Option ChannelConfig) (s : State) :
    State.DriveChange k s (configureBody channel fields s).1 := by
  unfold configureBody
  split
  · exact .moves (.refl s)
  · split
    · exact .moves (.refl s)
    · rename_i hs
      split
      · exact .moves (.refl s)
      · exact .configured _ _ (by simpa using hs) rfl rfl rfl

theorem lockBody_moves (channel : Byte) (s : State) : State.Moves k s (lockBody channel s).1 := by
  unfold lockBody
  split
  · exact .refl s
  · split
    · exact .refl s
    · exact .drive (Drive.Moves.lock .refl _)

theorem unlockBody_moves (channel : Byte) (s : State) : State.Moves k s (unlockBody channel s).1 := by
  unfold unlockBody
  split
  · exact .refl s
  · split
    · exact .refl s
    split
    · exact .refl s
    · rename_i hs
      exact .drive (Drive.Moves.unlock .refl (by simpa using hs))

theorem clearFaultBody_moves (channel : Byte) (s : State) : State.Moves k s (clearFaultBody channel s).1 := by
  unfold clearFaultBody
  split
  · exact .refl s
  · split
    · exact .refl s
    · rename_i hs
      exact .drive (Drive.Moves.clearFault .refl (by simpa using hs))

theorem setInterlockBody_moves (pair enabled a b : Byte) (s : State) :
    State.Moves .pairs s (setInterlockBody pair enabled a b s).1 := by
  unfold setInterlockBody
  split
  · split
    · exact .refl s
    split
    · exact .refl s
    split
    · exact .refl s
    · exact ⟨rfl, fun _ => Nat.le_refl _, fun h => absurd rfl h, id, Drive.Moves.setPair .refl _ _⟩
  · exact .refl s

theorem setBudgetBody_drive (feed : Byte) (budget : Word16) (s : State) :
    State.DriveChange k s (setBudgetBody feed budget s).1 := by
  unfold setBudgetBody
  split
  · exact .moves (.refl s)
  · rename_i fd _
    split
    · exact .moves (.refl s)
    · dsimp only
      have hraise : s.conf.budgets[fd.index] ≤ budget.toNat →
          ∀ f : Fin 3, s.conf.budgets[f] ≤ (s.conf.budgets.set fd.index budget.toNat)[f] := fun h f => by
        rw [Fin.getElem_fin, Fin.getElem_fin, Vector.getElem_set]
        split
        · rename_i he
          obtain rfl : fd.index = f := Fin.ext he
          exact h
        · exact Nat.le_refl _
      split
      · rename_i h
        exact .moves ⟨rfl, hraise (Nat.le_of_lt h), fun _ => rfl, id, Drive.Moves.pass .refl _⟩
      · split
        · rename_i h
          exact .lowered fd.index budget.toNat h rfl rfl rfl
        · rename_i h _
          exact .moves ⟨rfl, hraise (Nat.le_of_not_lt ‹_›), fun _ => rfl, id, .refl⟩

theorem setSupplyLimitsBody_moves (uv recovery : Word16) (s : State) :
    State.Moves k s (setSupplyLimitsBody uv recovery s).1 := by
  unfold setSupplyLimitsBody
  split
  · exact .refl s
  split
  · exact .refl s
  · exact .of_eq rfl rfl rfl rfl rfl

theorem setFlashPeriodBody_moves (period : Byte) (s : State) : State.Moves k s (setFlashPeriodBody period s).1 := by
  unfold setFlashPeriodBody
  split
  · exact .refl s
  · exact .of_eq rfl rfl rfl rfl rfl

theorem checkOutputsBody_moves (selection : Word16) (s : State) :
    State.Moves k s (checkOutputsBody selection s).1 := by
  unfold checkOutputsBody
  split
  · exact .refl s
  split
  · exact .refl s
  · exact .drive (Relation.ReflTransGen.refl.tail (.start selection))

/-! ### Events -/

theorem holdExpiry_moves (h : Handle) (s : State) : State.Moves .handed s (holdExpiry h s) := by
  unfold holdExpiry
  split
  · split
    · refine State.Moves.handOver ?_ _
      exact ⟨rfl, fun _ => Nat.le_refl _, fun _ => rfl, id, Relation.ReflTransGen.refl.tail (.notice _)⟩
    · exact .refl s
  all_goals exact .refl s

theorem graceExpiry_moves (h : Handle) (s : State) : State.Moves k s (graceExpiry h s) := by
  unfold graceExpiry
  split
  · split
    · exact (State.Moves.refl s).freeRecord h
    · exact .refl s
  all_goals exact .refl s

theorem deadTimeExpiry_moves (p : PairNo) (s : State) : State.Moves .pairs s (deadTimeExpiry p s) := by
  unfold deadTimeExpiry
  split
  · exact .drive (Drive.Moves.passes (Drive.Moves.arbitrate (Drive.Moves.modPair .refl p _) p) _)
  · exact .refl s

theorem inrushTimerExpiry_moves (c : Ch) (s : State) : State.Moves k s (inrushTimerExpiry c s) := by
  unfold inrushTimerExpiry
  split
  · exact .drive (Drive.Moves.endInrush .refl (‹_ ∧ _›).1)
  · exact .refl s

theorem retryTimerExpiry_moves (c : Ch) (s : State) : State.Moves k s (retryTimerExpiry c s) := by
  unfold retryTimerExpiry
  split
  · exact .drive (Drive.Moves.retry .refl (‹_ ∧ _›).1)
  · exact .refl s

theorem overloadRetry_moves (c : Ch) (s : State) : State.Moves k s (overloadRetry c s) := by
  unfold overloadRetry
  split
  · exact .drive (Drive.Moves.retry .refl (‹_ ∧ _›).1)
  · exact .refl s

theorem coolingFlagClear_moves (c : Ch) (s : State) : State.Moves k s (coolingFlagClear c s) := by
  unfold coolingFlagClear
  split
  · exact .drive (Drive.Moves.clearCooling .refl c)
  · exact .refl s

theorem cleanRunExpiry_moves (c : Ch) (s : State) : State.Moves k s (cleanRunExpiry c s) := by
  unfold cleanRunExpiry
  split
  · exact .drive (Drive.Moves.modSide .refl c ⟨rfl, rfl, rfl, rfl, rfl, rfl, rfl, rfl, .inr rfl⟩)
  · exact .refl s

theorem Channel.settlePwm_side (x : Channel) : Channel.SideOf x x.settlePwm := by
  unfold Channel.settlePwm
  split
  · split
    · exact ⟨rfl, rfl, rfl, rfl, rfl, rfl, rfl, rfl, .inl rfl⟩
    · exact .refl x
  all_goals exact .refl x

theorem pwmPeriodStart_moves (s : State) : State.Moves k s (pwmPeriodStart s) :=
  ⟨rfl, fun _ => Nat.le_refl _, fun _ => rfl, id, Relation.ReflTransGen.refl.tail (.side _ fun c => by
    rw [Fin.getElem_fin, Fin.getElem_fin, Vector.getElem_ofFn]
    exact Channel.settlePwm_side _)⟩

theorem onPhaseStart_moves (s : State) : State.Moves k s (onPhaseStart s) := by
  unfold onPhaseStart
  split
  · exact .refl s
  · rename_i h
    split
    · exact .drive (Relation.ReflTransGen.refl.tail (.turn _ (by rw [h]; rfl)))
    · exact .refl s

theorem onPhaseExpiry_moves (s : State) : State.Moves k s (onPhaseExpiry s) := by
  unfold onPhaseExpiry
  split
  · exact .refl s
  · rename_i h
    split
    · exact .drive (Relation.ReflTransGen.refl.tail (.turn _ (by rw [h]; rfl)))
    · exact .refl s

theorem lineReading_moves (n : LineNo) (high : Bool) (s : State) : State.Moves .handed s (lineReading n high s) := by
  unfold lineReading
  dsimp only
  split
  · exact .of_eq rfl rfl rfl rfl rfl
  split
  · exact .of_eq rfl rfl rfl rfl rfl
  split
  · refine State.Moves.settleLine ?_ _; exact .of_eq rfl rfl rfl rfl rfl
  · exact .of_eq rfl rfl rfl rfl rfl

theorem debounceChange_moves (n : LineNo) (s : State) : State.Moves .handed s (debounceChange n s) := by
  unfold debounceChange
  split
  · exact lineReading_moves n _ s
  · exact .refl s

theorem unbiasedStepEnd_moves (sense : Nat) (s : State) : State.Moves k s (unbiasedStepEnd sense s) := by
  unfold unbiasedStepEnd
  split
  · exact .refl s
  · rename_i r h
    split
    · split
      · exact .drive (Relation.ReflTransGen.refl.tail (.tested _ h (by decide)))
      · exact .drive (Relation.ReflTransGen.refl.tail (.testing ⟨r.test.ch, .biased, 3⟩ h rfl))
    · exact .refl s

theorem biasedStepEnd_moves (sense : Nat) (s : State) : State.Moves k s (biasedStepEnd sense s) := by
  unfold biasedStepEnd
  split
  · exact .refl s
  · rename_i r h
    split
    · exact .drive (Relation.ReflTransGen.refl.tail (.tested _ h (by split <;> decide)))
    · exact .refl s

theorem storeWriteCompletion_moves (x : Configuration) (s : State) : State.Moves k s (storeWriteCompletion x s) := by
  unfold storeWriteCompletion
  split
  · exact .refl s
  · exact ⟨rfl, fun _ => Nat.le_refl _, fun _ => rfl, id, Relation.ReflTransGen.refl.tail (.notice _)⟩

theorem State.cutStore_eq (s : State) :
    s.cutStore = { s with store := s.cutStore.store, freeCount := s.cutStore.freeCount } := by
  unfold State.cutStore
  split <;> rfl

theorem resetAssert_moves (s : State) : State.Moves k s (resetAssert s) := by
  unfold resetAssert
  rw [s.cutStore_eq]
  exact .of_eq rfl rfl rfl rfl rfl

/-! ### A sample completion -/

/-- Stage 7 is a move where the open load is counted (R96). -/
theorem Drive.Moves.openStage {e : Env} {d d' : Drive} {c : Ch} (h : Drive.Moves e k d d')
    (hs : d'.countsOpen (e.cfg c) c = true) (below : Bool) : Drive.Moves e k d (d'.openStage c below) := by
  have hw : d'.chans[c].state = .on ∧ (e.cfg c).openLoadLevel ≠ 0 := by
    have := (Bool.and_eq_true _ _ ▸ hs).1
    simpa [Drive.watchesOpen] using this
  have opens (flag : Bool) (n : Nat) (hn : n ≤ 99) :=
    h.tail (Drive.Move.opens (k := k) (c := c) flag n hw.1 hw.2 hn)
  unfold Drive.openStage
  dsimp only
  split
  · exact opens d'.chans[c].openFlag 0 (by omega)
  split
  · rename_i hlt
    exact opens d'.chans[c].openFlag (d'.chans[c].openCount + 1) (by unfold openRun at hlt; omega)
  split
  · exact (opens true 0 (by omega)).tail (.notice _)
  · exact opens false 0 (by omega)

theorem Drive.onTick_undriven {d : Drive} {c : Ch} (h : d.chans[c].state.driven = false) : d.onTick c = false := by
  unfold Drive.onTick
  rw [h, Bool.false_and]

theorem stallStep_undriven {state : ChanState} (h : state.driven = false) (cfg : ChannelConfig) (timer : Nat)
    (onTick : Bool) (i : Nat) (found : Bool) : (stallStep cfg state timer onTick i found).2 = false := by
  unfold stallStep
  split
  · rfl
  split
  · rfl
  split
  case h_1 => cases h
  all_goals rfl

/-- A trip is found on a driven channel alone (R89, R93, R95). -/
theorem takeSample_trip_driven {c : Ch} {sense : Nat} {s : State} {kind : FaultKind}
    (h : (takeSample s c sense).trip = some kind) : s.drive.chans[c].state.driven = true := by
  by_contra hd
  rw [Bool.not_eq_true] at hd
  simp only [takeSample, Drive.onTick_undriven hd, hd, Bool.false_and, stallStep_undriven hd] at h
  exact absurd h (by simp)

theorem sampleCompletion_moves (c : Ch) (sense : Nat) (s : State) : State.Moves k s (sampleCompletion c sense s) := by
  unfold sampleCompletion
  dsimp only
  refine ⟨rfl, fun _ => Nat.le_refl _, fun _ => rfl, id, Drive.Moves.coolReport ?_ c⟩
  have hside : Drive.Moves ({ s with monitors := s.monitors.set c (takeSample s c sense).monitor } : State).env k
      s.drive (s.drive.modChan c (fun x => { x with stallTimer := (takeSample s c sense).stallTimer })) :=
    Drive.Moves.modSide .refl c ⟨rfl, rfl, rfl, rfl, rfl, rfl, rfl, rfl, .inl rfl⟩
  have hnote := Drive.Moves.ite
    (p := ((takeSample s c sense).monitor.warn && !s.monitors[c].warn) = true)
    (fun _ => hside.tail (.notice ((s.drive.modChan c
      (fun x => { x with stallTimer := (takeSample s c sense).stallTimer })).noteWarn c).notice)) (fun _ => hside)
  have hdriven : ∀ kind, (takeSample s c sense).trip = some kind →
      (if ((takeSample s c sense).monitor.warn && !s.monitors[c].warn) = true then
        (s.drive.modChan c (fun x => { x with stallTimer := (takeSample s c sense).stallTimer })).noteWarn c
      else s.drive.modChan c (fun x => { x with stallTimer := (takeSample s c sense).stallTimer })).chans[c].state.driven
        = true := fun kind hkind => by
    rw [apply_ite Drive.chans, Drive.noteWarn_chans, ite_self, Drive.modChan_self]
    exact takeSample_trip_driven hkind
  split
  · rename_i kind hkind
    exact Drive.Moves.trip hnote kind (hdriven kind hkind)
  · exact Drive.Moves.ite (fun hc => Drive.Moves.openStage hnote hc _) (fun _ => hnote)

theorem stallTimerExpiry_moves (c : Ch) (s : State) : State.Moves k s (stallTimerExpiry c s) := by
  unfold stallTimerExpiry
  split
  · rename_i h
    refine .drive (Drive.Moves.trip (Drive.Moves.modSide .refl c
      ⟨rfl, rfl, rfl, rfl, rfl, rfl, rfl, rfl, .inl rfl⟩) _ ?_)
    rw [Drive.modChan_self]
    simp only [h.2.1]
    rfl
  · exact .refl s

theorem openFlagSet_moves (c : Ch) (s : State) : State.Moves k s (openFlagSet c s) := by
  unfold openFlagSet
  split
  · rename_i h
    have hw : s.drive.chans[c].state = .on ∧ s.conf.channels[c].openLoadLevel ≠ 0 := by
      simpa [Drive.watchesOpen] using h.1
    exact .drive ((Relation.ReflTransGen.refl.tail (.opens (c := c) true 0 hw.1 hw.2 (by omega))).tail (.notice _))
  · exact .refl s

theorem openFlagClear_moves (c : Ch) (s : State) : State.Moves k s (openFlagClear c s) := by
  unfold openFlagClear
  split
  · rename_i h
    have hw : s.drive.chans[c].state = .on ∧ s.conf.channels[c].openLoadLevel ≠ 0 := by
      simpa [Drive.watchesOpen] using h.1
    exact .drive (Relation.ReflTransGen.refl.tail (.opens (c := c) false 0 hw.1 hw.2 (by omega)))
  · exact .refl s

/-! ### The supply -/

theorem State.clearLow_moves (s : State) (hl : s.supply.low = true) : State.Moves k s s.clearLow :=
  ⟨rfl, fun _ => Nat.le_refl _, fun _ => rfl, fun _ => hl, by
    rw [State.clearLow_drive]
    exact (Drive.Moves.passes .refl allFeeds).tail (.notice _)⟩

theorem supplyReading_drive (sense : Nat) (s : State) : State.DriveChange k s (supplyReading sense s) := by
  unfold supplyReading
  dsimp only
  split
  · rename_i hl
    split
    · exact .moves (.of_eq rfl rfl rfl rfl rfl)
    split
    · exact .moves (.of_eq rfl rfl rfl rfl rfl)
    · obtain ⟨h1, h2, h3, h4, h5⟩ := State.clearLow_moves (k := k)
        { s with supply := { s.supply with vsense := min maxVoltage sense } } hl
      exact .moves ⟨h1, h2, h3, h4, h5⟩
  · rename_i hl
    split
    · exact .supplyLow (State.setLow_conf _) (congrArg Supply.low (State.setLow_supply _)) (State.setLow_drive _)
    · exact .moves (.of_eq rfl rfl rfl rfl rfl)

theorem supplyRecovery_drive (sense : Nat) (s : State) : State.DriveChange k s (supplyRecovery sense s) := by
  unfold supplyRecovery
  split
  · exact supplyReading_drive sense s
  · exact .moves (.refl s)

end

/-! ### Every command -/

section
variable {k : Drive.Scope} {s t : State}

theorem State.DriveChange.link (h : State.DriveChange k s t) (l : Link) :
    State.DriveChange k s { t with link := l } := by
  cases h with
  | moves h => exact .moves (h.link l)
  | configured c cfg hs hconf hd hl => exact .configured c cfg hs hconf hd hl
  | lowered f budget hb hconf hd hl => exact .lowered f budget hb hconf hd hl
  | supplyLow hconf hl hd => exact .supplyLow hconf hl hd
  | powerOn valid hd hl => exact .powerOn valid hd hl

/-- A request makes what its block makes. -/
theorem request_drive {kind : Kind} {h : Header} {body : State → State × Answer}
    (hb : State.DriveChange k s (body s).1) : State.DriveChange k s (request kind h body s) :=
  request_induct (P := State.DriveChange k s) (fun _ l h => h.link l) (.moves (.refl s)) hb

theorem request_moves {kind : Kind} {h : Header} {body : State → State × Answer}
    (hb : State.Moves k s (body s).1) : State.DriveChange k s (request kind h body s) :=
  request_drive (.moves hb)

theorem request_unlessStoring_drive {kind : Kind} {h : Header} {body : State → State × Answer}
    (hb : State.DriveChange k s (body s).1) : State.DriveChange k s (request kind h (unlessStoring body) s) :=
  request_drive (unlessStoring_induct (P := State.DriveChange k s) (.moves (.refl s)) fun _ => hb)

theorem event_drive {f : State → State} (hf : State.DriveChange k s (f s)) : State.DriveChange k s (event f s) :=
  event_induct (P := State.DriveChange k s) (.moves (.refl s)) fun _ => hf

/-- What a command does to the drive side, and to what the drive side reads. -/
theorem exec_driveChange {i : Instr} (h : exec i s = .next t) : State.DriveChange (scopeOf i) s t := by
  cases i with
  | poll | readNotices | describe | lookup | readLapsed | readLoad | list | readRequester | channelStatus
  | readInterlock | feedStatus | readLine | checkResults =>
    cases h
    exact request_moves (.refl s)
  | clearNotices =>
    cases h
    exact request_moves (.drive (Relation.ReflTransGen.refl.tail (.notice _)))
  | setNoticeEnable =>
    cases h
    exact request_unlessStoring_drive (.moves (.of_eq rfl rfl rfl rfl rfl))
  | storeConfiguration =>
    cases h
    exact request_unlessStoring_drive (.moves (.of_eq rfl rfl rfl rfl rfl))
  | place => cases h; exact request_moves (placeBody_moves _ _ _ _ _ s)
  | renew => cases h; exact request_moves (renewBody_moves _ _ s)
  | amend => cases h; exact request_moves (amendBody_moves _ _ _ _ _ s)
  | retire => cases h; exact request_moves (retireBody_moves _ _ s)
  | renewAll => cases h; exact request_moves (renewAllBody_moves _ _ s)
  | retireAll => cases h; exact request_moves (retireAllBody_moves _ _ s)
  | mapLoad => cases h; exact request_unlessStoring_drive (.moves (mapLoadBody_moves _ _ _ _ s))
  | setRequester => cases h; exact request_unlessStoring_drive (.moves (setRequesterBody_moves _ _ _ _ s))
  | addQuota => cases h; exact request_unlessStoring_drive (.moves (addQuotaBody_moves _ _ s))
  | setChannelLimits => cases h; exact request_unlessStoring_drive (configureBody_drive _ _ s)
  | setChannelProfile => cases h; exact request_unlessStoring_drive (configureBody_drive _ _ s)
  | lock => cases h; exact request_moves (lockBody_moves _ s)
  | unlock => cases h; exact request_moves (unlockBody_moves _ s)
  | clearFault => cases h; exact request_moves (clearFaultBody_moves _ s)
  | setInterlock => cases h; exact request_unlessStoring_drive (.moves (setInterlockBody_moves _ _ _ _ s))
  | setBudget => cases h; exact request_unlessStoring_drive (setBudgetBody_drive _ _ s)
  | setSupplyLimits => cases h; exact request_unlessStoring_drive (.moves (setSupplyLimitsBody_moves _ _ s))
  | setFlashPeriod => cases h; exact request_unlessStoring_drive (.moves (setFlashPeriodBody_moves _ s))
  | bindLine => cases h; exact request_unlessStoring_drive (.moves (bindLineBody_moves _ _ _ _ _ _ s))
  | checkOutputs => cases h; exact request_moves (checkOutputsBody_moves _ s)
  | restart => cases h; exact request_unlessStoring_drive (.moves (restartBody_moves s))
  | unknownKindFrame =>
    cases h
    split
    · exact .moves (.refl s)
    split
    · exact .moves (.of_eq rfl rfl rfl rfl rfl)
    · exact .moves (.of_eq rfl rfl rfl rfl rfl)
  | frameDiscard =>
    cases h
    split
    · exact .moves ⟨rfl, fun _ => Nat.le_refl _, fun _ => rfl, id, Relation.ReflTransGen.refl.tail (.notice _)⟩
    · exact .moves (.of_eq rfl rfl rfl rfl rfl)
  | holdExpiry => cases h; exact event_drive (.moves (holdExpiry_moves _ s))
  | graceExpiry => cases h; exact event_drive (.moves (graceExpiry_moves _ s))
  | deadTimeExpiry => cases h; exact event_drive (.moves (deadTimeExpiry_moves _ s))
  | inrushTimerExpiry => cases h; exact event_drive (.moves (inrushTimerExpiry_moves _ s))
  | retryTimerExpiry => cases h; exact event_drive (.moves (retryTimerExpiry_moves _ s))
  | overloadRetry => cases h; exact event_drive (.moves (overloadRetry_moves _ s))
  | coolingFlagClear => cases h; exact event_drive (.moves (coolingFlagClear_moves _ s))
  | cleanRunExpiry => cases h; exact event_drive (.moves (cleanRunExpiry_moves _ s))
  | sampleCompletion => cases h; exact event_drive (.moves (sampleCompletion_moves _ _ s))
  | stallTimerExpiry => cases h; exact event_drive (.moves (stallTimerExpiry_moves _ s))
  | openFlagSet => cases h; exact event_drive (.moves (openFlagSet_moves _ s))
  | openFlagClear => cases h; exact event_drive (.moves (openFlagClear_moves _ s))
  | pwmPeriodStart => cases h; exact event_drive (.moves (pwmPeriodStart_moves s))
  | supplyReading => cases h; exact event_drive (supplyReading_drive _ s)
  | supplyRecovery => cases h; exact event_drive (supplyRecovery_drive _ s)
  | onPhaseStart => cases h; exact event_drive (.moves (onPhaseStart_moves s))
  | onPhaseExpiry => cases h; exact event_drive (.moves (onPhaseExpiry_moves s))
  | lineReading => cases h; exact event_drive (.moves (lineReading_moves _ _ s))
  | debounceChange => cases h; exact event_drive (.moves (debounceChange_moves _ s))
  | unbiasedStepEnd => cases h; exact event_drive (.moves (unbiasedStepEnd_moves _ s))
  | biasedStepEnd => cases h; exact event_drive (.moves (biasedStepEnd_moves _ s))
  | storeWriteCompletion => cases h; exact event_drive (.moves (storeWriteCompletion_moves _ s))
  | powerOn => cases h; exact .powerOn _ rfl fun _ => Vector.getElem_replicate ..
  | resetAssert => cases h; exact .moves (resetAssert_moves s)
  | csnFall => cases h; exact .moves (.of_eq rfl rfl rfl rfl rfl)

/-! ### The step -/

theorem Channel.tick_side (x : Channel) : Channel.SideOf x x.tick :=
  ⟨rfl, rfl, rfl, rfl, rfl, rfl, rfl, rfl, .inl rfl⟩

theorem Drive.Moves.mapFlash {e : Env} {d d' : Drive} (h : Drive.Moves e k d d') (g : Cycle → Cycle) :
    Drive.Moves e k d { d' with flash := d'.flash.map g } := by
  cases hf : d'.flash with
  | none =>
    rw [Option.map_none, ← hf]
    exact h
  | some cy => exact h.tail (.turn _ (by rw [hf]; rfl))

theorem Drive.Moves.tickRun {e : Env} {d d' : Drive} (h : Drive.Moves e k d d') :
    Drive.Moves e k d { d' with check := { d'.check with run := d'.check.run.map Run.tick } } := by
  cases hr : d'.check.run with
  | none =>
    rw [Option.map_none, ← hr]
    exact h
  | some r => exact h.tail (.testing { r.test with timer := r.test.timer - 1 } hr rfl)

/-- One millisecond is a chain of moves. -/
theorem Drive.Moves.tick (e : Env) (d : Drive) : Drive.Moves e k d d.tick := by
  have h1 : Drive.Moves e k d { d with chans := Vector.ofFn (fun c : Ch => d.chans[c].tick) } :=
    Relation.ReflTransGen.refl.tail (.side _ fun c => by
      rw [Fin.getElem_fin, Fin.getElem_fin, Vector.getElem_ofFn]
      exact Channel.tick_side _)
  have h2 := h1.tail (.dead (Vector.ofFn (fun p : PairNo => { d.pairs[p] with dead := d.pairs[p].dead.map countDown }))
    fun p => by
      rw [Fin.getElem_fin, Fin.getElem_fin, Vector.getElem_ofFn]
      exact ⟨rfl, Option.isSome_map⟩)
  exact Drive.Moves.tickRun (Drive.Moves.mapFlash h2 _)

theorem State.tick_moves (s : State) : State.Moves k s s.tick := by
  unfold State.tick
  split
  · exact .refl s
  · exact ⟨rfl, fun _ => Nat.le_refl _, fun _ => rfl, id, Drive.Moves.tick _ _⟩

/-- What a step takes: one millisecond with no command waiting, else the command at the front of the queue. -/
theorem step_cases (h : step s = .next t) :
    (s.pending = [] ∧ t = s.tick) ∨
    ∃ i rest, s.pending = i :: rest ∧ exec i { s with pending := rest } = .next t := by
  unfold step at h
  split at h
  · exact .inl ⟨‹_›, (Host.Outcome.next.inj h).symm⟩
  · exact .inr ⟨_, _, ‹_›, h⟩

/-- The same of a step: one millisecond makes inner moves alone. -/
theorem step_driveChange (h : step s = .next t) : ∃ k, State.DriveChange k s t := by
  rcases step_cases h with ⟨_, rfl⟩ | ⟨i, rest, _, h⟩
  · exact ⟨.inner, .moves s.tick_moves⟩
  · refine ⟨scopeOf i, ?_⟩
    cases exec_driveChange h with
    | moves h => exact .moves ⟨h.channels, h.budgets, h.pairs, h.low, h.moves⟩
    | configured c cfg hs hconf hd hl => exact .configured c cfg hs hconf hd hl
    | lowered f budget hb hconf hd hl => exact .lowered f budget hb hconf hd hl
    | supplyLow hconf hl hd => exact .supplyLow hconf hl hd
    | powerOn valid hd hl => exact .powerOn valid hd hl

end

end Sys2Proof.Machine
end


section
/-!
SUPPORT. The laws of the channels and the feeds under a change of one channel: what is to be shown of the channel, of
its feed's queue, of its admitted list and of its committed sum, so that all laws hold again (`FeedsSound.change`).
-/

namespace Sys2Proof.Machine

/-! ### A queue in class order -/

theorem queueJoin_perm (rank : Ch → Nat) (x : Entry) (q : List Entry) : (queueJoin rank x q).Perm (x :: q) := by
  have h := List.takeWhile_append_dropWhile (p := fun y : Entry => decide (rank x.ch ≤ rank y.ch)) (l := q)
  calc queueJoin rank x q
      _ |>.Perm (x :: (q.takeWhile (fun y => decide (rank x.ch ≤ rank y.ch)) ++
          q.dropWhile (fun y => decide (rank x.ch ≤ rank y.ch)))) := List.perm_middle
      _ |>.Perm (x :: q) := by rw [h]

/-- A join keeps the class order (R104). -/
theorem queueJoin_ordered {rank : Ch → Nat} {q : List Entry} (x : Entry)
    (h : q.Pairwise (fun a b => rank b.ch ≤ rank a.ch)) :
    (queueJoin rank x q).Pairwise (fun a b => rank b.ch ≤ rank a.ch) := by
  obtain ⟨ahead, behind, hq, hj, ha, hb⟩ := joinedInClass rank x q
  rw [hj]
  rw [hq, List.pairwise_append] at h
  obtain ⟨h1, h2, h3⟩ := h
  have hlow : ∀ y ∈ behind, rank y.ch < rank x.ch := by
    cases behind with
    | nil => simp
    | cons z behind =>
      intro y hy
      have hz := hb z rfl
      rcases List.mem_cons.1 hy with rfl | hy
      · exact hz
      · exact Nat.lt_of_le_of_lt (List.rel_of_pairwise_cons h2 hy) hz
  refine List.pairwise_append.2 ⟨h1, List.pairwise_cons.2 ⟨fun y hy => Nat.le_of_lt (hlow y hy), h2⟩, ?_⟩
  intro a haa b hbb
  rcases List.mem_cons.1 hbb with rfl | hbb
  · exact ha a haa
  · exact h3 a haa b hbb

/-! ### The laws of one channel -/

/-- The laws of FeedsSound that speak of one channel alone (R53, R60, R61). -/
structure Channel.Lawful (cfg : ChannelConfig) (x : Channel) : Prop where
  wantedOff : x.wanted = .off → x.state = .disabled ∨ x.state = .off
  undriven  : x.state.driven = false → x.applied = .off ∧ x.reservation = 0
  inrush    : x.state = .inrush → x.reservation = inrushReservation cfg
  on        : x.state = .on → x.reservation = steadyReservation cfg x.applied
  upgrade   : x.upgrade = true → x.state = .on ∧
                x.reservation < steadyReservation cfg (levelToApply cfg x.wanted)

theorem Drive.FeedsSound.lawful {d : Drive} {x : Configuration} (h : d.FeedsSound x) (c : Ch) :
    d.chans[c].Lawful x.channels[c] :=
  ⟨h.wantedOff c, h.undriven c, h.inrush c, h.on c, h.upgrade c⟩

/-- A channel that has no entry called for has none in its feed's queue. -/
theorem Drive.FeedsSound.not_mem_queue {d : Drive} {x : Configuration} (h : d.FeedsSound x) {c : Ch}
    (hk : d.chans[c].entryKind = none) (f : Fin 3) : ∀ q ∈ d.feeds[f].queue, q.ch ≠ c := by
  rintro q hq rfl
  have := ((h.queue f q).1 hq).2
  rw [hk] at this
  cases this

theorem Drive.FeedsSound.queue_filter {d : Drive} {x : Configuration} (h : d.FeedsSound x) {c : Ch}
    (hk : d.chans[c].entryKind = none) (f : Fin 3) :
    d.feeds[f].queue.filter (fun q => q.ch ≠ c) = d.feeds[f].queue :=
  List.filter_eq_self.2 fun q hq => by simpa using h.not_mem_queue hk f q hq

theorem Channel.entryKind_of_undriven {x : Channel} (hd : x.state.driven = false) (hb : x.state ≠ .waiting .budget) :
    x.entryKind = none := by
  unfold Channel.entryKind
  split
  · exact absurd ‹_› hb
  · rename_i hs
    rw [hs] at hd
    cases hd
  all_goals rfl

/-! ### The committed sum -/

theorem allChans_eq : allChans = List.finRange 16 := by decide

theorem mem_allChans (c : Ch) : c ∈ allChans := by
  rw [allChans_eq]; exact List.mem_finRange c

/-- A reservation as it counts in the committed sum of a feed (R102). -/
def Drive.share (d : Drive) (x : Configuration) (f : Fin 3) (c : Ch) : Nat :=
  if x.channels[c].feed.index = f then d.chans[c].reservation else 0

theorem Drive.reserved_eq_sum (d : Drive) (x : Configuration) (f : Fin 3) :
    d.reserved x f = ∑ c : Ch, d.share x f c := by
  rw [Fin.sum_univ_def, ← allChans_eq]
  rfl

/-- With one channel changed, the sum changes by that channel's share. -/
theorem Drive.reserved_change {d d' : Drive} {c : Ch} (hch : ∀ c' : Ch, c' ≠ c → d'.chans[c'] = d.chans[c'])
    (x : Configuration) (f : Fin 3) :
    d'.reserved x f + d.share x f c = d.reserved x f + d'.share x f c := by
  have hrest : ∑ c' ∈ Finset.univ.erase c, d'.share x f c' = ∑ c' ∈ Finset.univ.erase c, d.share x f c' :=
    Finset.sum_congr rfl fun c' hc' => by
      unfold Drive.share
      rw [hch c' (Finset.ne_of_mem_erase hc')]
  rw [Drive.reserved_eq_sum, Drive.reserved_eq_sum, ← Finset.add_sum_erase _ _ (Finset.mem_univ c),
    ← Finset.add_sum_erase _ (d.share x f) (Finset.mem_univ c), hrest]
  omega

theorem Drive.FeedsSound.reservation_le {d : Drive} {x : Configuration} (h : d.FeedsSound x) (c : Ch) :
    d.chans[c].reservation ≤ d.feeds[x.channels[c].feed.index].committed := by
  rw [(h.committed _).1, Drive.reserved_eq_sum]
  have := Finset.single_le_sum (f := d.share x x.channels[c].feed.index) (fun _ _ => Nat.zero_le _) (Finset.mem_univ c)
  simpa [Drive.share] using this

/-! ### A change of one channel -/

/-- The queue of a changed channel's feed: the channel's entry is gone, joined anew, or left where it stands. -/
def QueueFollows (rank : Ch → Nat) (c : Ch) (x y : Channel) (old new : List Entry) : Prop :=
  (y.entryKind = none ∧ new = old.filter (fun q => q.ch ≠ c)) ∨
  (∃ k, y.entryKind = some k ∧ new = queueJoin rank ⟨c, k⟩ (old.filter (fun q => q.ch ≠ c))) ∨
  (y.entryKind = x.entryKind ∧ y.rank = x.rank ∧ new = old)

/-- Its admitted list: the channel is off it, stays as it was, or stands last. -/
def AdmittedFollows (c : Ch) (x y : Channel) (old new : List Ch) : Prop :=
  (y.state.driven = false ∧ new = old.filter (fun z => z ≠ c)) ∨
  (y.state.driven = x.state.driven ∧ new = old) ∨
  (x.state.driven = false ∧ y.state.driven = true ∧ new = old ++ [c])

/-- One channel and its feed have changed, and follow each other. -/
structure Drive.ChangedAt (d d' : Drive) (x : Configuration) (c : Ch) : Prop where
  chans     : ∀ c' : Ch, c' ≠ c → d'.chans[c'] = d.chans[c']
  feeds     : ∀ f : Fin 3, f ≠ x.channels[c].feed.index → d'.feeds[f] = d.feeds[f]
  lawful    : d'.chans[c].Lawful x.channels[c]
  queue     : QueueFollows (fun z => d'.chans[z].rank) c d.chans[c] d'.chans[c]
                d.feeds[x.channels[c].feed.index].queue d'.feeds[x.channels[c].feed.index].queue
  admitted  : AdmittedFollows c d.chans[c] d'.chans[c]
                d.feeds[x.channels[c].feed.index].admitted d'.feeds[x.channels[c].feed.index].admitted
  committed : d'.feeds[x.channels[c].feed.index].committed + d.chans[c].reservation =
                d.feeds[x.channels[c].feed.index].committed + d'.chans[c].reservation
  budget    : d'.feeds[x.channels[c].feed.index].committed ≤ x.budgets[x.channels[c].feed.index]

section
variable {d d' : Drive} {x : Configuration} {c : Ch}

/-- The entries of a queue that follows a change: the other channels' as before, this one's as it is called for. -/
theorem QueueFollows.mem {rank : Ch → Nat} {y z : Channel} {old new : List Entry}
    (h : QueueFollows rank c y z old new) (hold : ∀ k, (⟨c, k⟩ ∈ old ↔ y.entryKind = some k))
    (q : Entry) : q ∈ new ↔ if q.ch = c then z.entryKind = some q.kind else q ∈ old := by
  rcases h with ⟨hk, rfl⟩ | ⟨k, hk, rfl⟩ | ⟨hk, _, rfl⟩
  · by_cases hc : q.ch = c <;> simp [hc, hk]
  · by_cases hc : q.ch = c
    · rw [if_pos hc, mem_queueJoin]
      obtain ⟨ch, kind⟩ := q
      subst hc
      simp [hk, eq_comm]
    · rw [if_neg hc, mem_queueJoin]
      have : q ≠ ⟨c, k⟩ := fun e => hc (by rw [e])
      simp [hc, this]
  · obtain ⟨ch, k⟩ := q
    by_cases hc : ch = c
    · rw [if_pos hc, hc, hold, hk]
    · rw [if_neg hc]

/-- Each channel once: a filter keeps it, and a join after the filter too. -/
theorem QueueFollows.once {rank : Ch → Nat} {y z : Channel} {old new : List Entry}
    (h : QueueFollows rank c y z old new) (hold : (old.map Entry.ch).Nodup) : (new.map Entry.ch).Nodup := by
  have hfil : ((old.filter (fun q => q.ch ≠ c)).map Entry.ch).Nodup :=
    List.Nodup.sublist (List.filter_sublist.map Entry.ch) hold
  rcases h with ⟨_, rfl⟩ | ⟨k, _, rfl⟩ | ⟨_, _, rfl⟩
  · exact hfil
  · refine (((queueJoin_perm rank ⟨c, k⟩ _).map Entry.ch).nodup_iff).2 (List.nodup_cons.2 ⟨?_, hfil⟩)
    intro hm
    obtain ⟨q, hq, hqc⟩ := List.mem_map.1 hm
    simpa [hqc] using (List.mem_filter.1 hq).2
  · exact hold

/-- Class order, the classes of the other channels being as before. -/
theorem QueueFollows.ordered {rank rank' : Ch → Nat} {y z : Channel} {old new : List Entry}
    (h : QueueFollows rank' c y z old new) (hrank : ∀ c' : Ch, c' ≠ c → rank' c' = rank c')
    (hy : rank c = y.rank) (hz : rank' c = z.rank)
    (hold : old.Pairwise (fun a b => rank b.ch ≤ rank a.ch)) :
    new.Pairwise (fun a b => rank' b.ch ≤ rank' a.ch) := by
  have hfil : (old.filter (fun q => q.ch ≠ c)).Pairwise (fun a b => rank' b.ch ≤ rank' a.ch) :=
    (List.Pairwise.sublist List.filter_sublist hold).imp_of_mem fun ha hb hab => by
      rw [hrank _ (by simpa using (List.mem_filter.1 hb).2), hrank _ (by simpa using (List.mem_filter.1 ha).2)]
      exact hab
  rcases h with ⟨_, rfl⟩ | ⟨k, _, rfl⟩ | ⟨_, hr, rfl⟩
  · exact hfil
  · exact queueJoin_ordered _ hfil
  · have : rank' = rank := funext fun c' => by
      by_cases hc : c' = c
      · rw [hc, hy, hz, hr]
      · exact hrank c' hc
    rwa [this]

theorem AdmittedFollows.nodup_mem {y z : Channel} {old new : List Ch} (h : AdmittedFollows c y z old new)
    (hn : old.Nodup) (hold : c ∈ old ↔ y.state.driven = true) :
    new.Nodup ∧ ∀ c' : Ch, c' ∈ new ↔ if c' = c then z.state.driven = true else c' ∈ old := by
  rcases h with ⟨hz, rfl⟩ | ⟨hz, rfl⟩ | ⟨hy, hz, rfl⟩
  · refine ⟨hn.filter _, fun c' => ?_⟩
    by_cases hc : c' = c <;> simp [hc, hz]
  · refine ⟨hn, fun c' => ?_⟩
    by_cases hc : c' = c
    · rw [if_pos hc, hc, hold, hz]
    · rw [if_neg hc]
  · have hmem : c ∉ old := fun hm => by
      rw [hold, hy] at hm
      cases hm
    refine ⟨List.nodup_append.2 ⟨hn, List.nodup_singleton c, fun a ha b hb => ?_⟩, fun c' => ?_⟩
    · rw [List.mem_singleton.1 hb]
      rintro rfl
      exact hmem ha
    · by_cases hc : c' = c <;> simp [hc, hz]

/-- All laws hold again after a change of one channel and its feed that follow each other. -/
theorem Drive.FeedsSound.change (h : d.FeedsSound x) (hc : d.ChangedAt d' x c) : d'.FeedsSound x := by
  obtain ⟨hch, hfd, hlaw, hq, ha, hcom, hbud⟩ := hc
  have law (c' : Ch) : d'.chans[c'].Lawful x.channels[c'] := by
    by_cases hc : c' = c
    · rw [hc]; exact hlaw
    · rw [hch c' hc]; exact h.lawful c'
  have hrank : ∀ c' : Ch, c' ≠ c → d'.chans[c'].rank = d.chans[c'].rank := fun c' hc => by rw [hch c' hc]
  refine ⟨fun c' => (law c').wantedOff, fun c' => (law c').undriven, fun c' => (law c').inrush,
    fun c' => (law c').on, fun c' => (law c').upgrade, fun f q => ?queue, fun f => ?once, fun f => ?ordered,
    fun f => ?admitted, fun f => ?committed⟩
  case queue =>
    obtain ⟨ch, k⟩ := q
    by_cases hf : f = x.channels[c].feed.index
    · subst hf
      rw [hq.mem fun k => by rw [h.queue]; exact and_iff_right rfl]
      by_cases hqc : ch = c
      · rw [if_pos hqc, hqc]; exact (and_iff_right rfl).symm
      · rw [if_neg hqc, hch _ hqc]; exact h.queue _ ⟨ch, k⟩
    · rw [hfd f hf, h.queue f]
      by_cases hqc : ch = c
      · rw [hqc]; exact iff_of_false (fun e => hf e.1.symm) (fun e => hf e.1.symm)
      · rw [hch _ hqc]
  case once =>
    by_cases hf : f = x.channels[c].feed.index
    · subst hf; exact hq.once (h.once _)
    · rw [hfd f hf]; exact h.once f
  case ordered =>
    by_cases hf : f = x.channels[c].feed.index
    · subst hf
      exact hq.ordered (rank := fun z => d.chans[z].rank) hrank rfl rfl (h.ordered _)
    · rw [hfd f hf]
      refine (h.ordered f).imp_of_mem fun {a b} hma hmb hab => ?_
      have ne (q : Entry) (hm : q ∈ d.feeds[f].queue) : q.ch ≠ c := fun e =>
        hf (by rw [← e]; exact ((h.queue f q).1 hm).1.symm)
      rw [hrank _ (ne a hma), hrank _ (ne b hmb)]
      exact hab
  case admitted =>
    by_cases hf : f = x.channels[c].feed.index
    · subst hf
      obtain ⟨hn, hm⟩ := h.admitted x.channels[c].feed.index
      obtain ⟨hn', hm'⟩ := ha.nodup_mem hn (by rw [hm]; simp)
      refine ⟨hn', fun c' => ?_⟩
      rw [hm' c']
      by_cases hc : c' = c
      · rw [if_pos hc, hc]; simp
      · rw [if_neg hc, hch _ hc]; exact hm c'
    · rw [hfd f hf]
      refine ⟨(h.admitted f).1, fun c' => ?_⟩
      rw [(h.admitted f).2 c']
      by_cases hc : c' = c
      · rw [hc]; exact iff_of_false (fun e => hf e.1.symm) (fun e => hf e.1.symm)
      · rw [hch _ hc]
  case committed =>
    have hsum := Drive.reserved_change hch x f
    obtain ⟨h1, h2⟩ := h.committed f
    unfold Drive.share at hsum
    by_cases hf : f = x.channels[c].feed.index
    · rw [if_pos hf.symm, if_pos hf.symm] at hsum
      rw [hf] at hsum h1 ⊢
      exact ⟨by omega, hbud⟩
    · rw [if_neg (Ne.symm hf), if_neg (Ne.symm hf)] at hsum
      rw [hfd f hf]
      exact ⟨by omega, h2⟩

/-- A change that the laws of the feeds do not look at. -/
theorem Drive.FeedsSound.side (h : d.FeedsSound x) (hch : ∀ c : Ch, Channel.SideOf d.chans[c] d'.chans[c])
    (hfd : d'.feeds = d.feeds) : d'.FeedsSound x := by
  have hkind (c : Ch) : d'.chans[c].entryKind = d.chans[c].entryKind := by
    unfold Channel.entryKind
    rw [(hch c).state, (hch c).upgrade]
  have hrank (c : Ch) : d'.chans[c].rank = d.chans[c].rank := by
    unfold Channel.rank
    rw [(hch c).cls]
  have hres (f : Fin 3) : d'.reserved x f = d.reserved x f := by
    simp only [Drive.reserved, (hch _).reservation]
  refine ⟨fun c => ?_, fun c => ?_, fun c => ?_, fun c => ?_, fun c => ?_, fun f q => ?_, fun f => ?_, fun f => ?_,
    fun f => ?_, fun f => ?_⟩
  · rw [(hch c).wanted, (hch c).state]; exact h.wantedOff c
  · rw [(hch c).applied, (hch c).state, (hch c).reservation]; exact h.undriven c
  · rw [(hch c).state, (hch c).reservation]; exact h.inrush c
  · rw [(hch c).applied, (hch c).state, (hch c).reservation]; exact h.on c
  · rw [(hch c).wanted, (hch c).state, (hch c).reservation, (hch c).upgrade]; exact h.upgrade c
  · rw [hfd, hkind]; exact h.queue f q
  · rw [hfd]; exact h.once f
  · simp only [hfd, hrank]; exact h.ordered f
  · simp only [hfd, (hch _).state]; exact h.admitted f
  · rw [hfd, hres]; exact h.committed f

/-- The laws do not look at pairs, generator, check unit and notices. -/
theorem Drive.FeedsSound.congr (h : d.FeedsSound x) (hch : d'.chans = d.chans) (hfd : d'.feeds = d.feeds) :
    d'.FeedsSound x :=
  h.side (fun c => by rw [hch]; exact .refl _) hfd

end

/-! ### Reservations -/

/-- A steady reservation is at most the nominal current (R54). -/
theorem steadyReservation_le (cfg : ChannelConfig) (l : Level) : steadyReservation cfg l ≤ cfg.iNom := by
  cases l with
  | off => exact Nat.zero_le _
  | steady => exact Nat.le_refl _
  | flash => exact Nat.le_refl _
  | dim d =>
    have hd : d.val ≤ 63 := Nat.le_of_lt_succ d.isLt
    have : cfg.iNom * d.val ≤ cfg.iNom * 63 := Nat.mul_le_mul_left _ hd
    simp only [steadyReservation]
    omega

/-- The inrush reservation is no smaller than any steady one (R49, R54). -/
theorem steadyReservation_le_inrush {cfg : ChannelConfig} (hw : cfg.WellFormed) (l : Level) :
    steadyReservation cfg l ≤ inrushReservation cfg := by
  obtain ⟨⟨_, hn⟩, _, _, _, ⟨hf, _⟩, _⟩ := hw
  have : cfg.iNom * 1 ≤ cfg.iNom * cfg.inrushFactor := Nat.mul_le_mul_left _ hf
  have := steadyReservation_le cfg l
  unfold inrushReservation
  omega

theorem levelToApply_ne_off {cfg : ChannelConfig} {l : Level} (h : l ≠ .off) : levelToApply cfg l ≠ .off := by
  unfold levelToApply
  split
  · exact Level.noConfusion
  · exact h

end Sys2Proof.Machine
end


section
/-!
SUPPORT. The Sequencer's operations, case by case: the ways in which a pair of values is taken (R42, R60 to R64), the
outcomes of the switch-on path (R56), and what each of them makes of the channel and of its feed.
-/

namespace Sys2Proof.Machine

/-! ### The channel's own entry -/

/-- The other entries of a queue are not touched by the channel's join. -/
theorem filter_queueJoin (rank : Ch → Nat) (x : Entry) (q : List Entry) :
    (queueJoin rank x q).filter (fun y => y.ch ≠ x.ch) = q.filter (fun y => y.ch ≠ x.ch) := by
  have h := List.takeWhile_append_dropWhile (p := fun y : Entry => decide (rank x.ch ≤ rank y.ch)) (l := q)
  calc (queueJoin rank x q).filter (fun y => y.ch ≠ x.ch)
      = (q.takeWhile (fun y => decide (rank x.ch ≤ rank y.ch))).filter (fun y => y.ch ≠ x.ch) ++
          (q.dropWhile (fun y => decide (rank x.ch ≤ rank y.ch))).filter (fun y => y.ch ≠ x.ch) := by
        simp [queueJoin, List.filter_append]
    _ = q.filter (fun y => y.ch ≠ x.ch) := by rw [← List.filter_append, h]

theorem Drive.joinFresh_chan_at (d : Drive) (e : Env) (c c' : Ch) :
    (d.joinFresh e c).chans[c'] = if c' = c then { d.chans[c] with state := .waiting .budget } else d.chans[c'] :=
  Drive.modChan_at d c c' (fun x => { x with state := .waiting .budget })

theorem Drive.joinFresh_feed_at (d : Drive) (e : Env) (c : Ch) (f : Fin 3) :
    (d.joinFresh e c).feeds[f] =
      if f = e.feedOf c then
        { d.feeds[f] with queue := queueJoin (fun y => d.chans[y].rank) ⟨c, .fresh⟩ d.feeds[f].queue }
      else d.feeds[f] := by
  have hr : (fun y : Ch => (d.modChan c (fun x => { x with state := .waiting .budget })).chans[y].rank) =
      fun y => d.chans[y].rank := by
    funext y
    rw [Drive.modChan_at]
    by_cases h : y = c <;> simp [h, Channel.rank]
  rw [Drive.joinFresh, Drive.joinQueue_feed_at, hr]
  rfl

/-- The channel's own entry, taken out and joined anew, is the only one of the queue that moves. -/
theorem Drive.requeue_cases (d : Drive) (e : Env) (c : Ch) :
    ((∀ q ∈ d.feeds[e.feedOf c].queue, q.ch ≠ c) ∧ d.requeue e c = d) ∨
    ∃ k, ⟨c, k⟩ ∈ d.feeds[e.feedOf c].queue ∧ d.requeue e c = (d.leaveQueue e c).joinQueue e ⟨c, k⟩ := by
  unfold Drive.requeue
  split
  · rename_i h
    exact .inl ⟨fun q hq => by simpa using List.find?_eq_none.1 h q hq, rfl⟩
  · rename_i q h
    obtain ⟨ch, k⟩ := q
    obtain rfl : ch = c := by simpa using List.find?_some h
    exact .inr ⟨k, List.mem_of_find?_eq_some h, rfl⟩

@[simp] theorem Drive.requeue_chans (d : Drive) (e : Env) (c : Ch) : (d.requeue e c).chans = d.chans := by
  rcases d.requeue_cases e c with ⟨_, h⟩ | ⟨k, _, h⟩
  · rw [h]
  · rw [h]; rfl

@[simp] theorem Drive.requeue_pairs (d : Drive) (e : Env) (c : Ch) : (d.requeue e c).pairs = d.pairs := by
  rcases d.requeue_cases e c with ⟨_, h⟩ | ⟨k, _, h⟩
  · rw [h]
  · rw [h]; rfl

@[simp] theorem Drive.requeue_flash (d : Drive) (e : Env) (c : Ch) : (d.requeue e c).flash = d.flash := by
  rcases d.requeue_cases e c with ⟨_, h⟩ | ⟨k, _, h⟩
  · rw [h]
  · rw [h]; rfl

@[simp] theorem Drive.requeue_check (d : Drive) (e : Env) (c : Ch) : (d.requeue e c).check = d.check := by
  rcases d.requeue_cases e c with ⟨_, h⟩ | ⟨k, _, h⟩
  · rw [h]
  · rw [h]; rfl

theorem Drive.modFeed_modFeed (d : Drive) (f : Fin 3) (g h : FeedState → FeedState) :
    (d.modFeed f g).modFeed f h = d.modFeed f (fun x => h (g x)) := by
  simp only [Drive.modFeed, Fin.getElem_fin, Vector.getElem_set_self, Vector.set_set]

theorem Drive.modChan_modChan (d : Drive) (c : Ch) (g h : Channel → Channel) :
    (d.modChan c g).modChan c h = d.modChan c (fun x => h (g x)) := by
  simp only [Drive.modChan, Fin.getElem_fin, Vector.getElem_set_self, Vector.set_set]

theorem Drive.leaveQueue_requeue (d : Drive) (e : Env) (c : Ch) : (d.requeue e c).leaveQueue e c = d.leaveQueue e c := by
  rcases d.requeue_cases e c with ⟨_, h⟩ | ⟨k, _, h⟩ <;> rw [h]
  rw [Drive.leaveQueue, Drive.leaveQueue, Drive.joinQueue, Drive.modFeed_modFeed, Drive.modFeed_modFeed]
  simp only [filter_queueJoin _ (⟨c, k⟩ : Entry), List.filter_filter, Bool.and_self]

/-- Where a new level follows in ON, a move to the end of the class group before it leaves no trace. -/
theorem Drive.levelInOn_requeue (d : Drive) (e : Env) (c : Ch) : (d.requeue e c).levelInOn e c = d.levelInOn e c := by
  simp only [Drive.levelInOn, Drive.leaveQueue_requeue, Drive.requeue_chans]

/-! ### The switch-on path (R56) -/

/-- What tests 2 and 3 come to: the channel waits for its pair, or it asks its feed with its pair, if any, held. -/
inductive Drive.Asks (e : Env) (d : Drive) (c : Ch) : Drive → Prop where
  | unpaired (hp : e.pairOf c = none) : Asks e d c (d.joinFresh e c)
  | holding (p : PairNo) (hp : e.pairOf c = some p)
      (hh : d.pairs[p].holder = e.sideOf p c ∨ (d.pairs[p].holder = .none ∧ d.pairs[p].dead = none)) :
      Asks e d c ((d.modPair p (fun x => { x with holder := e.sideOf p c })).joinFresh e c)
  | waits : Asks e d c (d.modChan c (fun x => { x with state := .waiting (.interlock e.now) }))

theorem Drive.interlockTest_asks (d : Drive) (e : Env) (c : Ch) : Drive.Asks e d c (d.interlockTest e c).1 := by
  unfold Drive.interlockTest
  split
  · exact .unpaired ‹_›
  · dsimp only
    split
    · exact .holding _ ‹_› ‹_›
    · exact .waits

/-- The channel waits for its heat, or tests 2 and 3 decide. -/
theorem Drive.switchOn_cases (d : Drive) (e : Env) (c : Ch) :
    (d.chans[c].cooling = true ∧ (d.switchOn e c).1 = d.modChan c (fun x => { x with state := .waiting .cooling })) ∨
    Drive.Asks e d c (d.switchOn e c).1 := by
  unfold Drive.switchOn
  split
  · exact .inl ⟨(‹_ ∧ _›).1, rfl⟩
  · exact .inr (d.interlockTest_asks e c)

/-! ### A pair of values is taken (R42, R60 to R64) -/

/-- The pair of values recorded, before anything follows from it. -/
def Drive.record (d : Drive) (c : Ch) (wanted : Level) (cls : Option Cls) : Drive :=
  d.modChan c (fun x => { x with wanted := wanted, cls := cls })

theorem Drive.record_chan_at (d : Drive) (c c' : Ch) (wanted : Level) (cls : Option Cls) :
    (d.record c wanted cls).chans[c'] =
      if c' = c then { d.chans[c] with wanted := wanted, cls := cls } else d.chans[c'] :=
  Drive.modChan_at d c c' (fun x => { x with wanted := wanted, cls := cls })

@[simp] theorem Drive.record_feeds (d : Drive) (c : Ch) (wanted : Level) (cls : Option Cls) :
    (d.record c wanted cls).feeds = d.feeds := rfl
@[simp] theorem Drive.record_pairs (d : Drive) (c : Ch) (wanted : Level) (cls : Option Cls) :
    (d.record c wanted cls).pairs = d.pairs := rfl
@[simp] theorem Drive.record_flash (d : Drive) (c : Ch) (wanted : Level) (cls : Option Cls) :
    (d.record c wanted cls).flash = d.flash := rfl
@[simp] theorem Drive.record_check (d : Drive) (c : Ch) (wanted : Level) (cls : Option Cls) :
    (d.record c wanted cls).check = d.check := rfl

/-- Driven under supply-low, a channel keeps its class or has class 2 or 3, or else it is shed (R64). -/
def Drive.ClassStands (e : Env) (d : Drive) (c : Ch) (wanted : Level) (cls : Option Cls) : Prop :=
  d.chans[c].state.driven = true → e.low = true → cls = d.chans[c].cls ∨ 2 ≤ (d.record c wanted cls).chans[c].rank

/-- The ways in which a Channel Sequencer takes a pair of values. -/
inductive Drive.Takes (e : Env) (d : Drive) (c : Ch) (wanted : Level) (cls : Option Cls) : Drive → Prop where
  /-- It is recorded and nothing follows. -/
  | recorded
      (hoff : wanted = .off → d.chans[c].wanted = .off ∨ d.chans[c].state = .disabled ∨ d.chans[c].state = .off)
      (hcls : cls = d.chans[c].cls ∨ (d.chans[c].state ≠ .waiting .budget ∧ d.chans[c].state ≠ .on))
      (hon : wanted = d.chans[c].wanted ∨ d.chans[c].state ≠ .on)
      (hlow : Drive.ClassStands e d c wanted cls) : Takes e d c wanted cls (d.record c wanted cls)
  /-- The level became OFF (R63). -/
  | goesOff (hw : wanted = .off) (hs : d.chans[c].state ≠ .disabled) (hs' : d.chans[c].state ≠ .off) :
      Takes e d c wanted cls ((d.record c wanted cls).goOff e c).1
  /-- The class fell to 0 or 1 under supply-low (R64). -/
  | shed (hw : wanted = .off → d.chans[c].wanted = .off) (hs : d.chans[c].state.driven = true) :
      Takes e d c wanted cls ((d.record c wanted cls).shed e c .undervolt)
  /-- A queued entry moves to the end of its new class group (R105). -/
  | requeued (hw : wanted = .off → d.chans[c].wanted = .off)
      (hs : d.chans[c].state = .waiting .budget ∨ d.chans[c].state = .on)
      (hon : wanted = d.chans[c].wanted ∨ d.chans[c].state ≠ .on)
      (hlow : Drive.ClassStands e d c wanted cls) : Takes e d c wanted cls ((d.record c wanted cls).requeue e c)
  /-- A channel in OFF enters the switch-on path (R60). -/
  | switchesOn (hw : wanted ≠ .off) (hs : d.chans[c].state = .off) :
      Takes e d c wanted cls ((d.record c wanted cls).switchOn e c).1
  /-- A channel in ON takes its new level at once or as an upgrade (R61). -/
  | levels (hw : wanted ≠ .off) (hs : d.chans[c].state = .on) (hlow : Drive.ClassStands e d c wanted cls) :
      Takes e d c wanted cls ((d.record c wanted cls).levelInOn e c).1

/-- A change of class moves a queued entry and nothing else (R105). -/
theorem Drive.classInFeed_fst (d : Drive) (e : Env) (c : Ch) :
    (d.classInFeed e c).1 =
      if d.chans[c].state = .waiting .budget ∨ d.chans[c].state = .on then d.requeue e c else d := by
  unfold Drive.classInFeed
  split <;> (rename_i hs; simp only [hs]; rfl)

theorem Drive.takePair_takes (d : Drive) (e : Env) (c : Ch) (wanted : Level) (cls : Option Cls) :
    Drive.Takes e d c wanted cls (d.takePair e c wanted cls).1 := by
  have undriven {x : ChanState} (hs : d.chans[c].state = x) (hx : x.driven = false) :
      Drive.ClassStands e d c wanted cls := fun hd => by rw [hs, hx] at hd; cases hd
  unfold Drive.takePair
  simp only [decide_eq_true_eq]
  split
  case isTrue htoOff =>
    obtain ⟨hnew, rfl⟩ := htoOff
    split
    case h_1 hs =>
      exact .recorded (fun _ => .inr (.inl hs)) (.inr (by rw [hs]; decide)) (.inr (by rw [hs]; decide))
        (undriven hs rfl)
    case h_2 hs =>
      exact .recorded (fun _ => .inr (.inr hs)) (.inr (by rw [hs]; decide)) (.inr (by rw [hs]; decide))
        (undriven hs rfl)
    all_goals
      rename_i hs
      exact .goesOff rfl (by rw [hs]; exact ChanState.noConfusion) (by rw [hs]; exact ChanState.noConfusion)
  case isFalse htoOff =>
    have hw : wanted = .off → d.chans[c].wanted = .off := fun h => by
      by_contra hne
      exact htoOff ⟨by rw [h]; exact Ne.symm hne, h⟩
    split
    case isTrue hshed => exact .shed hw hshed.2.1
    case isFalse hshed =>
      have hlow : Drive.ClassStands e d c wanted cls := fun hd hl => by
        by_contra hn
        push Not at hn
        exact hshed ⟨hn.1, hd, hl, Nat.le_of_lt_succ hn.2⟩
      have hst : (d.record c wanted cls).chans[c].state = d.chans[c].state := by
        rw [Drive.record_chan_at, if_pos rfl]
      have hr : (if cls ≠ d.chans[c].cls then (d.record c wanted cls).classInFeed e c
          else (d.record c wanted cls, false)).1 =
          if cls ≠ d.chans[c].cls ∧ (d.chans[c].state = .waiting .budget ∨ d.chans[c].state = .on) then
            (d.record c wanted cls).requeue e c else d.record c wanted cls := by
        by_cases hc : cls ≠ d.chans[c].cls
        · rw [if_pos hc, Drive.classInFeed_fst, hst]
          simp only [hc, ne_eq, not_false_eq_true, true_and]
        · rw [if_neg hc, if_neg (fun h => hc h.1)]
      have same (hon : wanted = d.chans[c].wanted ∨ d.chans[c].state ≠ .on) : Drive.Takes e d c wanted cls
          (if cls ≠ d.chans[c].cls then (d.record c wanted cls).classInFeed e c
            else (d.record c wanted cls, false)).1 := by
        rw [hr]
        split
        · exact .requeued hw (‹_ ∧ _›).2 hon hlow
        · rename_i hn
          refine .recorded (fun h => .inl (hw h)) ?_ hon hlow
          by_cases hc : cls = d.chans[c].cls
          · exact .inl hc
          · exact .inr (not_or.1 fun h => hn ⟨hc, h⟩)
      split
      case isFalse hnew => exact same (.inl (not_not.1 hnew))
      case isTrue hnew =>
        have hne : wanted ≠ .off := fun h => htoOff ⟨hnew, h⟩
        split
        case h_1 hs =>
          have : (if cls ≠ d.chans[c].cls then (d.record c wanted cls).classInFeed e c
            else (d.record c wanted cls, false)).1 = d.record c wanted cls := by
            rw [hr, if_neg]
            rintro ⟨_, h⟩
            rw [hs] at h
            rcases h with h | h <;> cases h
          refine Eq.mp ?_ (Drive.Takes.switchesOn (e := e) (d := d) (c := c) (wanted := wanted) (cls := cls) hne hs)
          rw [← this]
          rfl
        case h_2 hs =>
          refine Eq.mp ?_ (Drive.Takes.levels (e := e) (d := d) (c := c) (wanted := wanted) (cls := cls) hne hs hlow)
          refine congrArg (Drive.Takes e d c wanted cls) ?_
          have key : ((if cls ≠ d.chans[c].cls then (d.record c wanted cls).classInFeed e c
            else (d.record c wanted cls, false)).1).levelInOn e c = (d.record c wanted cls).levelInOn e c := by
            rw [hr]
            split
            · exact Drive.levelInOn_requeue _ e c
            · rfl
          have fst := congrArg Prod.fst key.symm
          exact fst
        all_goals
          rename_i hs
          exact same (.inr (by rw [hs]; exact ChanState.noConfusion))

end Sys2Proof.Machine
end


section
/-!
SUPPORT. The laws of the feeds under each move of the drive side (`FeedsSound.move`): sheds and releases, admissions, the
end of an inrush, the switch-on path, and a pair of values handed on.
-/

namespace Sys2Proof.Machine

theorem Channel.entryKind_eq_fresh {x : Channel} (h : x.entryKind = some .fresh) : x.state = .waiting .budget := by
  unfold Channel.entryKind at h
  split at h
  · assumption
  · split at h <;> cases h
  all_goals cases h

theorem Channel.entryKind_eq_upgrade {x : Channel} (h : x.entryKind = some .upgrade) :
    x.state = .on ∧ x.upgrade = true := by
  unfold Channel.entryKind at h
  split at h
  · cases h
  · rename_i hs
    split at h
    · exact ⟨hs, ‹_›⟩
    · cases h
  all_goals cases h

theorem Channel.entryKind_of_budget {x : Channel} (h : x.state = .waiting .budget) : x.entryKind = some .fresh := by
  unfold Channel.entryKind; rw [h]

theorem Channel.entryKind_of_on {x : Channel} (h : x.state = .on) :
    x.entryKind = if x.upgrade then some .upgrade else none := by
  unfold Channel.entryKind; rw [h]

theorem Channel.entryKind_of_inrush {x : Channel} (h : x.state = .inrush) : x.entryKind = none := by
  unfold Channel.entryKind; rw [h]

/-- A pair of values recorded anew as it stands is no change. -/
theorem Drive.record_self (d : Drive) (c : Ch) : d.record c d.chans[c].wanted d.chans[c].cls = d := by
  have h : d.record c d.chans[c].wanted d.chans[c].cls = { d with chans := d.chans.set c d.chans[c] } := rfl
  rw [h, Fin.getElem_fin, Vector.set_getElem_self]

theorem Drive.leaveQueue_chan_at (d : Drive) (e : Env) (c c' : Ch) : (d.leaveQueue e c).chans[c'] = d.chans[c'] := rfl

theorem Drive.joinQueue_chan_at (d : Drive) (e : Env) (x : Entry) (c' : Ch) : (d.joinQueue e x).chans[c'] = d.chans[c'] := rfl

section
variable {e : Env} {d d' : Drive} {c : Ch}

/-- The laws after a change of one channel whose result is given as an update of the drive side at that channel and its
feed. -/
theorem Drive.FeedsSound.changeAt (h : d.FeedsSound e.conf) (c : Ch) {y : Channel} {fd : FeedState}
    (hch : ∀ c' : Ch, d'.chans[c'] = if c' = c then y else d.chans[c'])
    (hfd : ∀ f : Fin 3, d'.feeds[f] = if f = e.feedOf c then fd else d.feeds[f])
    (lawful : y.Lawful (e.cfg c))
    (queue : ∀ rank : Ch → Nat, rank = (fun z => if z = c then y.rank else d.chans[z].rank) →
      QueueFollows rank c d.chans[c] y d.feeds[e.feedOf c].queue fd.queue)
    (admitted : AdmittedFollows c d.chans[c] y d.feeds[e.feedOf c].admitted fd.admitted)
    (committed : fd.committed + d.chans[c].reservation = d.feeds[e.feedOf c].committed + y.reservation)
    (budget : fd.committed ≤ e.conf.budgets[e.feedOf c]) : d'.FeedsSound e.conf := by
  have hy : d'.chans[c] = y := by rw [hch, if_pos rfl]
  have hf : d'.feeds[e.conf.channels[c].feed.index] = fd := (hfd _).trans (if_pos rfl)
  refine h.change (c := c) ⟨fun c' hc => by rw [hch, if_neg hc], fun f hf => by rw [hfd f]; exact if_neg hf, ?_, ?_, ?_,
    ?_, ?_⟩
  · rw [hy]; exact lawful
  · rw [hy, hf]
    refine queue _ (funext fun z => ?_)
    rw [hch]
    split <;> rfl
  · rw [hy, hf]; exact admitted
  · rw [hy, hf]; exact committed
  · rw [hf]; exact budget

/-- A channel that stops being driven, or stays undriven, with its reservation, its entry and its place on the admitted
list given up; in WAITING(BUDGET) it joins the queue anew. -/
theorem Drive.FeedsSound.halt (h : d.FeedsSound e.conf) (c : Ch) {y : Channel} {fd : FeedState}
    (hch : ∀ c' : Ch, d'.chans[c'] = if c' = c then y else d.chans[c'])
    (hfd : ∀ f : Fin 3, d'.feeds[f] = if f = e.feedOf c then fd else d.feeds[f])
    (hs : y.state.driven = false) (ha : y.applied = .off) (hr : y.reservation = 0) (hu : y.upgrade = false)
    (hw : y.wanted = .off → y.state = .disabled ∨ y.state = .off)
    (hq : ∀ rank : Ch → Nat, rank = (fun z => if z = c then y.rank else d.chans[z].rank) →
      let rest := d.feeds[e.feedOf c].queue.filter (fun q => q.ch ≠ c)
      fd.queue = if y.state = .waiting .budget then queueJoin rank ⟨c, .fresh⟩ rest else rest)
    (hl : fd.admitted = d.feeds[e.feedOf c].admitted.filter (fun z => z ≠ c))
    (hc : fd.committed = d.feeds[e.feedOf c].committed - d.chans[c].reservation) : d'.FeedsSound e.conf := by
  have hle : d.chans[c].reservation ≤ d.feeds[e.feedOf c].committed := h.reservation_le c
  have hbud : d.feeds[e.feedOf c].committed ≤ e.conf.budgets[e.feedOf c] := (h.committed _).2
  refine h.changeAt c hch hfd ⟨hw, fun _ => ⟨ha, hr⟩, fun hi => ?_, fun hi => ?_, fun hi => ?_⟩ (fun rank hrank => ?_)
    (.inl ⟨hs, hl⟩) (by omega) (by omega)
  · rw [hi] at hs; cases hs
  · rw [hi] at hs; cases hs
  · rw [hu] at hi; cases hi
  · have hq := hq rank hrank
    dsimp only at hq
    split at hq
    · exact .inr (.inl ⟨.fresh, Channel.entryKind_of_budget ‹_›, hq⟩)
    · exact .inl ⟨Channel.entryKind_of_undriven hs ‹_›, hq⟩

/-- The wanted level of a channel that is driven, waits or stands in a fault is not OFF (R53, R60). -/
theorem Drive.FeedsSound.wanted_ne (h : d.FeedsSound e.conf) (h1 : d.chans[c].state ≠ .disabled)
    (h2 : d.chans[c].state ≠ .off) : d.chans[c].wanted ≠ .off := fun hw =>
  (h.wantedOff c hw).elim h1 h2

theorem Drive.FeedsSound.wanted_ne_of_driven (h : d.FeedsSound e.conf) (hs : d.chans[c].state.driven = true) :
    d.chans[c].wanted ≠ .off :=
  h.wanted_ne (fun h1 => by rw [h1] at hs; cases hs) (fun h2 => by rw [h2] at hs; cases hs)

/-- A channel with a pair of values recorded goes to a state that is not driven and takes no place in a queue. -/
theorem Drive.FeedsSound.record_undrive (h : d.FeedsSound e.conf) (wanted : Level) (cls : Option Cls) {t : ChanState}
    (ht : t.driven = false) (hb : t ≠ .waiting .budget) (hw : wanted = .off → t = .disabled ∨ t = .off) :
    ((d.record c wanted cls).undrive e c t).FeedsSound e.conf := by
  refine h.halt c (y := { d.chans[c] with wanted := wanted, cls := cls }.stopped t)
    (fd := { committed := d.feeds[e.feedOf c].committed - d.chans[c].reservation
             queue := d.feeds[e.feedOf c].queue.filter (fun q => q.ch ≠ c)
             admitted := d.feeds[e.feedOf c].admitted.filter (fun z => z ≠ c) })
    (fun c' => ?_) (fun f => ?_) ht rfl rfl rfl hw (fun rank hrank => (if_neg hb).symm) rfl rfl
  · rw [Drive.undrive_chan_at, Drive.record_chan_at, Drive.record_chan_at, if_pos rfl]
    split <;> rfl
  · rw [Drive.undrive_feed_at, Drive.record_chan_at, if_pos rfl, Drive.record_feeds]
    split
    · subst f; rfl
    · rfl

theorem Drive.FeedsSound.undrive (h : d.FeedsSound e.conf) {t : ChanState}
    (ht : t.driven = false) (hb : t ≠ .waiting .budget) (hw : d.chans[c].wanted = .off → t = .disabled ∨ t = .off) :
    (d.undrive e c t).FeedsSound e.conf := by
  have := h.record_undrive (c := c) d.chans[c].wanted d.chans[c].cls ht hb hw
  rwa [Drive.record_self] at this

theorem Drive.FeedsSound.record_shed (h : d.FeedsSound e.conf) {wanted : Level} (cls : Option Cls) (cause : ShedCause)
    (hw : wanted ≠ .off) : ((d.record c wanted cls).shed e c cause).FeedsSound e.conf := by
  refine h.halt c
    (y := { { d.chans[c] with wanted := wanted, cls := cls }.stopped (.waiting .budget) with lastShed := some cause })
    (fd := { committed := d.feeds[e.feedOf c].committed - d.chans[c].reservation
             queue := queueJoin (fun z => (d.record c wanted cls).chans[z].rank) ⟨c, .fresh⟩
               (d.feeds[e.feedOf c].queue.filter (fun q => q.ch ≠ c))
             admitted := d.feeds[e.feedOf c].admitted.filter (fun z => z ≠ c) })
    (fun c' => ?_) (fun f => ?_) rfl rfl rfl rfl (fun h => absurd h hw) (fun rank hrank => ?_) rfl rfl
  · rw [Drive.shed_chan_at, Drive.record_chan_at, Drive.record_chan_at, if_pos rfl]
    split <;> rfl
  · rw [Drive.shed_feed_at, Drive.record_chan_at, if_pos rfl, Drive.record_feeds]
    split
    · subst f; rfl
    · rfl
  · dsimp only
    rw [hrank]
    refine (congrArg (fun r => queueJoin r _ _) (funext fun z => ?_)).trans (if_pos rfl).symm
    rw [Drive.record_chan_at]
    split <;> rfl

theorem Drive.FeedsSound.shed (h : d.FeedsSound e.conf) (cause : ShedCause)
    (hs : d.chans[c].state.driven = true) : (d.shed e c cause).FeedsSound e.conf := by
  have := h.record_shed (c := c) d.chans[c].cls cause (h.wanted_ne_of_driven hs)
  rwa [Drive.record_self] at this

/-- A change of one channel's own record that the laws do not look at. -/
theorem Drive.FeedsSound.modSide (h : d.FeedsSound e.conf) (c : Ch) {g : Channel → Channel}
    (hg : Channel.SideOf d.chans[c] (g d.chans[c])) : (d.modChan c g).FeedsSound e.conf :=
  h.side (fun c' => by
    rw [Drive.modChan_at]
    split
    · subst c'; exact hg
    · exact .refl _) rfl

theorem Drive.FeedsSound.releasePair (h : d.FeedsSound e.conf) (c : Ch) : (d.releasePair e c).FeedsSound e.conf :=
  h.congr (d.releasePair_chans e c) (d.releasePair_feeds e c)

theorem Drive.FeedsSound.goOff (h : d.FeedsSound e.conf) (wanted : Level) (cls : Option Cls) :
    ((d.record c wanted cls).goOff e c).1.FeedsSound e.conf := by
  have hside : (d.modChan c (fun x =>
      { x with cooling := x.coolingOnLeave (e.hot c), retries := 0, lastFault := none,
               retryTimer := none })).FeedsSound e.conf := h.modSide c ⟨rfl, rfl, rfl, rfl, rfl, rfl, rfl, rfl, .inr rfl⟩
  have := (hside.record_undrive (c := c) (t := .off) wanted cls rfl ChanState.noConfusion (fun _ => .inr rfl)).releasePair c
  rw [Drive.record, Drive.modChan_modChan] at this
  unfold Drive.goOff Drive.record
  rw [Drive.modChan_modChan]
  exact this

theorem Drive.FeedsSound.lockOff (h : d.FeedsSound e.conf) : (d.lockOff e c).FeedsSound e.conf :=
  ((h.modSide c ⟨rfl, rfl, rfl, rfl, rfl, rfl, rfl, rfl, .inr rfl⟩).undrive rfl ChanState.noConfusion
    (fun _ => .inl rfl)).releasePair c

/-- A change of one channel's own record that keeps what the laws of the feeds look at. -/
theorem Drive.FeedsSound.modQuiet (h : d.FeedsSound e.conf) (c : Ch) {g : Channel → Channel}
    (hg : ∀ x : Channel, (g x).wanted = x.wanted ∧ (g x).cls = x.cls ∧ (g x).state = x.state ∧
      (g x).applied = x.applied ∧ (g x).reservation = x.reservation ∧ (g x).upgrade = x.upgrade) :
    (d.modChan c g).FeedsSound e.conf := by
  obtain ⟨h1, h2, h3, h4, h5, h6⟩ := hg d.chans[c]
  refine h.changeAt c (y := g d.chans[c]) (fd := d.feeds[e.feedOf c]) (fun c' => Drive.modChan_at ..) (fun f => ?_) ?_
    (fun rank hr => .inr (.inr ⟨?_, ?_, rfl⟩)) (.inr (.inl ⟨by rw [h3], rfl⟩)) (by rw [h5]) (h.committed _).2
  · split
    · subst f; rfl
    · rfl
  · have l := h.lawful c
    exact ⟨by rw [h1, h3]; exact l.1, by rw [h3, h4, h5]; exact l.2, by rw [h3, h5]; exact l.3,
      by rw [h3, h4, h5]; exact l.4, by rw [h1, h3, h5, h6]; exact l.5⟩
  · unfold Channel.entryKind; rw [h3, h6]
  · unfold Channel.rank; rw [h2]

theorem Drive.FeedsSound.noteChanged (h : d.FeedsSound e.conf) (c : Ch) : (d.noteChanged c).FeedsSound e.conf :=
  h.congr rfl rfl

theorem Drive.FeedsSound.tripOff (h : d.FeedsSound e.conf) (kind : FaultKind) (hs : d.chans[c].state.driven = true) :
    (d.tripOff e c kind).FeedsSound e.conf := by
  have hw := h.wanted_ne_of_driven hs
  unfold Drive.tripOff
  dsimp only
  split
  · refine Drive.FeedsSound.noteChanged (Drive.FeedsSound.modQuiet ?_ c ?_) c
    · exact h.undrive rfl ChanState.noConfusion (fun h => absurd h hw)
    · exact fun x => ⟨rfl, rfl, rfl, rfl, rfl, rfl⟩
  · refine Drive.FeedsSound.noteChanged (Drive.FeedsSound.releasePair (Drive.FeedsSound.modQuiet ?_ c ?_) c) c
    · exact h.undrive rfl ChanState.noConfusion (fun h => absurd h hw)
    · exact fun x => ⟨rfl, rfl, rfl, rfl, rfl, rfl⟩

/-! ### Admissions and the end of an inrush -/

theorem Drive.FeedsSound.upgrade_off (h : d.FeedsSound e.conf) (hs : d.chans[c].state ≠ .on) :
    d.chans[c].upgrade = false := by
  by_contra hu
  exact hs (h.upgrade c (by simpa using hu)).1

theorem Drive.FeedsSound.enterOn (h : d.FeedsSound e.conf) (hcfg : (e.cfg c).WellFormed)
    (hs : d.chans[c].state = .inrush) : (d.enterOn e c).FeedsSound e.conf := by
  have hle : d.chans[c].reservation ≤ d.feeds[e.feedOf c].committed := h.reservation_le c
  have hbud : d.feeds[e.feedOf c].committed ≤ e.conf.budgets[e.feedOf c] := (h.committed _).2
  have hres : d.chans[c].reservation = inrushReservation (e.cfg c) := h.inrush c hs
  have hst := steadyReservation_le_inrush hcfg (levelToApply (e.cfg c) d.chans[c].wanted)
  have hu : d.chans[c].upgrade = false := h.upgrade_off (by rw [hs]; exact ChanState.noConfusion)
  have hw : d.chans[c].wanted ≠ .off := h.wanted_ne_of_driven (by rw [hs]; rfl)
  refine h.changeAt c (fun c' => d.enterOn_chan_at e c c') (fd := { d.feeds[e.feedOf c] with
      committed := d.feeds[e.feedOf c].committed +
        steadyReservation (e.cfg c) (levelToApply (e.cfg c) d.chans[c].wanted) - d.chans[c].reservation })
    (fun f => ?_) ⟨fun hw' => absurd hw' hw, fun hd => ?_, fun hi => ?_, fun _ => rfl, fun hi => ?_⟩
    (fun rank hr => .inr (.inr ⟨?_, rfl, rfl⟩)) (.inr (.inl ⟨?_, rfl⟩)) ?_ ?_
  · rw [Drive.enterOn_feed_at]
    split
    · subst f; rfl
    · rfl
  · cases hd
  · cases hi
  · exact absurd (hu.symm.trans hi) Bool.false_ne_true
  · rw [Channel.entryKind_of_inrush hs, Channel.entryKind_of_on rfl]
    exact if_neg (fun hi => absurd (hu.symm.trans hi) Bool.false_ne_true)
  · rw [hs]; rfl
  · dsimp only; omega
  · dsimp only; omega

theorem Drive.FeedsSound.admitFresh (h : d.FeedsSound e.conf) (hcfg : (e.cfg c).WellFormed)
    (hs : d.chans[c].state = .waiting .budget) (hfit : inrushReservation (e.cfg c) ≤ d.free e (e.feedOf c)) :
    (d.admitFresh e c).FeedsSound e.conf := by
  have hbud : d.feeds[e.feedOf c].committed ≤ e.conf.budgets[e.feedOf c] := (h.committed _).2
  obtain ⟨_, hres⟩ := h.undriven c (by rw [hs]; rfl)
  have hst := steadyReservation_le_inrush hcfg (levelToApply (e.cfg c) d.chans[c].wanted)
  have hu : d.chans[c].upgrade = false := h.upgrade_off (by rw [hs]; exact ChanState.noConfusion)
  have hw : d.chans[c].wanted ≠ .off :=
    h.wanted_ne (by rw [hs]; exact ChanState.noConfusion) (by rw [hs]; exact ChanState.noConfusion)
  have huF {p : Prop} (hi : d.chans[c].upgrade = true) : p := absurd (hu.symm.trans hi) Bool.false_ne_true
  unfold Drive.free at hfit
  by_cases hwin : (e.cfg c).inrushWindow = 0
  · refine h.changeAt c (y := d.chans[c].admittedOn (e.cfg c)) (fun c' => ?_) (fd :=
        { committed := d.feeds[e.feedOf c].committed + inrushReservation (e.cfg c) - d.chans[c].reservation +
            steadyReservation (e.cfg c) (levelToApply (e.cfg c) d.chans[c].wanted) - inrushReservation (e.cfg c)
          queue := d.feeds[e.feedOf c].queue.filter (fun x => x.ch ≠ c)
          admitted := d.feeds[e.feedOf c].admitted ++ [c] })
      (fun f => ?_) ⟨fun hw' => absurd hw' hw, fun hd => ?_, fun hi => ?_, fun _ => rfl, fun hi => huF hi⟩
      (fun rank hr => .inl ⟨?_, rfl⟩) (.inr (.inr ⟨by rw [hs]; rfl, rfl, rfl⟩)) ?_ ?_
    · rw [Drive.admitFresh_chan_at, if_pos hwin]
    · rw [Drive.admitFresh_feed_at, if_pos hwin]
      split
      · subst f; rfl
      · rfl
    · cases hd
    · cases hi
    · rw [Channel.entryKind_of_on rfl]
      exact if_neg (fun hi => huF hi)
    · dsimp only [Channel.admittedOn]; omega
    · dsimp only; omega
  · refine h.changeAt c (y := d.chans[c].admitted (e.cfg c)) (fun c' => ?_) (fd :=
        { committed := d.feeds[e.feedOf c].committed + inrushReservation (e.cfg c) - d.chans[c].reservation
          queue := d.feeds[e.feedOf c].queue.filter (fun x => x.ch ≠ c)
          admitted := d.feeds[e.feedOf c].admitted ++ [c] })
      (fun f => ?_) ⟨fun hw' => absurd hw' hw, fun hd => ?_, fun _ => rfl, fun hi => ?_, fun hi => huF hi⟩
      (fun rank hr => .inl ⟨Channel.entryKind_of_inrush rfl, rfl⟩) (.inr (.inr ⟨by rw [hs]; rfl, rfl, rfl⟩)) ?_ ?_
    · rw [Drive.admitFresh_chan_at, if_neg hwin]
    · rw [Drive.admitFresh_feed_at, if_neg hwin]
      split
      · subst f; rfl
      · rfl
    · cases hd
    · cases hi
    · dsimp only [Channel.admitted]; omega
    · dsimp only; omega

theorem Drive.FeedsSound.admitUpgrade (h : d.FeedsSound e.conf) (hs : d.chans[c].state = .on)
    (hu : d.chans[c].upgrade = true) (hfit : d.needed e ⟨c, .upgrade⟩ ≤ d.free e (e.feedOf c)) :
    (d.admitUpgrade e c).FeedsSound e.conf := by
  have hbud : d.feeds[e.feedOf c].committed ≤ e.conf.budgets[e.feedOf c] := (h.committed _).2
  have hless : d.chans[c].reservation < steadyReservation (e.cfg c) (levelToApply (e.cfg c) d.chans[c].wanted) :=
    (h.upgrade c hu).2
  have hneed : d.needed e ⟨c, .upgrade⟩ =
      steadyReservation (e.cfg c) (levelToApply (e.cfg c) d.chans[c].wanted) - d.chans[c].reservation := rfl
  have hw : d.chans[c].wanted ≠ .off := h.wanted_ne_of_driven (by rw [hs]; rfl)
  unfold Drive.free at hfit
  refine h.changeAt c (fun c' => d.admitUpgrade_chan_at e c c') (fd := { d.feeds[e.feedOf c] with
        committed := d.feeds[e.feedOf c].committed + (d.chans[c].reservation + d.needed e ⟨c, .upgrade⟩)
          - d.chans[c].reservation
        queue := d.feeds[e.feedOf c].queue.filter (fun x => x.ch ≠ c) })
    (fun f => ?_) ⟨fun hw' => absurd hw' hw, fun hd => ?_, fun hi => ?_, fun _ => ?_, fun hi => ?_⟩
    (fun rank hr => .inl ⟨?_, rfl⟩) (.inr (.inl ⟨rfl, rfl⟩)) ?_ ?_
  · rw [Drive.admitUpgrade_feed_at]
    split
    · subst f; rfl
    · rfl
  · exact absurd (hd.symm.trans (by rw [show (d.chans[c].apply _).state = d.chans[c].state from rfl, hs]; rfl)) Bool.false_ne_true
  · exact absurd (hi.symm.trans hs) ChanState.noConfusion
  · dsimp only [Channel.apply]; omega
  · cases hi
  · exact Channel.entryKind_of_on hs
  · dsimp only; omega
  · dsimp only; omega

theorem Drive.FeedsSound.letIn (h : d.FeedsSound e.conf) (hcfg : ∀ c : Ch, (e.cfg c).WellFormed) {f : Fin 3}
    {x : Entry} (hx : x ∈ d.feeds[f].queue) (hfit : d.needed e x ≤ d.free e f) : (d.letIn e x).FeedsSound e.conf := by
  obtain ⟨hf, hk⟩ := (h.queue f x).1 hx
  have hfeed : e.feedOf x.ch = f := hf
  obtain ⟨c, k⟩ := x
  subst hfeed
  cases k with
  | fresh => exact h.admitFresh (hcfg c) (Channel.entryKind_eq_fresh hk) hfit
  | upgrade => exact h.admitUpgrade (Channel.entryKind_eq_upgrade hk).1 (Channel.entryKind_eq_upgrade hk).2 hfit

/-! ### The switch-on path -/

/-- A channel that stands in no queue, with a wanted level other than OFF recorded, waits for something else than its
budget. -/
theorem Drive.FeedsSound.record_waits (h : d.FeedsSound e.conf) {wanted : Level} (cls : Option Cls) {w : WaitCause}
    (hd : d.chans[c].state.driven = false) (hw : wanted ≠ .off) (hb : w ≠ .budget)
    {d' : Drive} (hch : ∀ c' : Ch, d'.chans[c'] = if c' = c then
      { d.chans[c] with wanted := wanted, cls := cls, state := .waiting w } else d.chans[c'])
    (hfd : ∀ f : Fin 3, d'.feeds[f] = if f = e.feedOf c then
      { d.feeds[f] with queue := d.feeds[f].queue.filter (fun q => q.ch ≠ c) } else d.feeds[f]) :
    d'.FeedsSound e.conf := by
  obtain ⟨ha, hr⟩ := h.undriven c hd
  have hadm : d.feeds[e.feedOf c].admitted.filter (fun z => z ≠ c) = d.feeds[e.feedOf c].admitted :=
    List.filter_eq_self.2 fun z hz => by
      have := ((h.admitted _).2 z).1 hz
      simp only [ne_eq, decide_eq_true_eq]
      rintro rfl
      rw [hd] at this
      cases this.2
  refine h.halt c hch (fd := { d.feeds[e.feedOf c] with
      queue := d.feeds[e.feedOf c].queue.filter (fun q => q.ch ≠ c) }) (fun f => ?_) rfl ha hr ?_
    (fun h => absurd h hw) (fun rank hrank => (if_neg fun h => hb (ChanState.waiting.inj h)).symm) hadm.symm
    (by rw [hr]; rfl)
  · rw [hfd]
    split
    · subst f; rfl
    · rfl
  · exact h.upgrade_off fun hs => by rw [hs] at hd; cases hd

/-- The same without a queue to leave. -/
theorem Drive.FeedsSound.record_waitsFor (h : d.FeedsSound e.conf) {wanted : Level} (cls : Option Cls) {w : WaitCause}
    (hd : d.chans[c].state.driven = false) (hk : d.chans[c].state ≠ .waiting .budget) (hw : wanted ≠ .off)
    (hb : w ≠ .budget) :
    ((d.record c wanted cls).modChan c (fun x => { x with state := .waiting w })).FeedsSound e.conf := by
  refine h.record_waits (c := c) (wanted := wanted) cls hd hw hb (fun c' => ?_) (fun f => ?_)
  · rw [Drive.modChan_at, Drive.record_chan_at, Drive.record_chan_at, if_pos rfl]
    split <;> rfl
  · rw [h.queue_filter (Channel.entryKind_of_undriven hd hk)]
    split <;> rfl

/-- A channel that stands in no queue, with a wanted level other than OFF recorded, asks its feed. -/
theorem Drive.FeedsSound.record_joinFresh (h : d.FeedsSound e.conf) {wanted : Level} (cls : Option Cls)
    (hd : d.chans[c].state.driven = false) (hk : d.chans[c].state ≠ .waiting .budget) (hw : wanted ≠ .off)
    (g : Drive → Drive) (hg : ∀ x : Drive, (g x).chans = x.chans ∧ (g x).feeds = x.feeds) :
    ((g (d.record c wanted cls)).joinFresh e c).FeedsSound e.conf := by
  obtain ⟨ha, hr⟩ := h.undriven c hd
  obtain ⟨hgc, hgf⟩ := hg (d.record c wanted cls)
  have hadm : d.feeds[e.feedOf c].admitted.filter (fun z => z ≠ c) = d.feeds[e.feedOf c].admitted :=
    List.filter_eq_self.2 fun z hz => by
      have := ((h.admitted _).2 z).1 hz
      simp only [ne_eq, decide_eq_true_eq]
      rintro rfl
      rw [hd] at this
      cases this.2
  refine h.halt c (y := { d.chans[c] with wanted := wanted, cls := cls, state := .waiting .budget })
    (fd := { d.feeds[e.feedOf c] with
      queue := queueJoin (fun z => (d.record c wanted cls).chans[z].rank) ⟨c, .fresh⟩ d.feeds[e.feedOf c].queue })
    (fun c' => ?_) (fun f => ?_) rfl ha hr ?_
    (fun h => absurd h hw) (fun rank hrank => ?_) hadm.symm (by rw [hr]; rfl)
  · rw [Drive.joinFresh_chan_at, hgc, Drive.record_chan_at, Drive.record_chan_at, if_pos rfl]
    split <;> rfl
  · rw [Drive.joinFresh_feed_at, hgc, hgf, Drive.record_feeds]
    split
    · subst f; rfl
    · rfl
  · exact h.upgrade_off fun hs => by rw [hs] at hd; cases hd
  · dsimp only
    rw [if_pos rfl, h.queue_filter (Channel.entryKind_of_undriven hd hk), hrank]
    refine congrArg (fun r => queueJoin r _ _) (funext fun z => ?_)
    rw [Drive.record_chan_at]
    split <;> rfl

theorem Drive.FeedsSound.record_asks (h : d.FeedsSound e.conf) {wanted : Level} (cls : Option Cls)
    (hd : d.chans[c].state.driven = false) (hk : d.chans[c].state ≠ .waiting .budget) (hw : wanted ≠ .off)
    (ha : Drive.Asks e (d.record c wanted cls) c d') : d'.FeedsSound e.conf := by
  cases ha with
  | unpaired => exact h.record_joinFresh cls hd hk hw id (fun _ => ⟨rfl, rfl⟩)
  | holding p => exact h.record_joinFresh cls hd hk hw (fun x => x.modPair p _) (fun _ => ⟨rfl, rfl⟩)
  | waits => exact h.record_waitsFor cls hd hk hw WaitCause.noConfusion

theorem Drive.FeedsSound.record_switchOn (h : d.FeedsSound e.conf) {wanted : Level} (cls : Option Cls)
    (hd : d.chans[c].state.driven = false) (hk : d.chans[c].state ≠ .waiting .budget) (hw : wanted ≠ .off) :
    ((d.record c wanted cls).switchOn e c).1.FeedsSound e.conf := by
  rcases (d.record c wanted cls).switchOn_cases e c with ⟨_, hc⟩ | hc
  · rw [hc]
    exact h.record_waitsFor cls hd hk hw WaitCause.noConfusion
  · exact h.record_asks cls hd hk hw hc

/-! ### A pair of values handed on -/

theorem Drive.FeedsSound.takePair (h : d.FeedsSound e.conf) (wanted : Level) (cls : Option Cls) :
    (d.takePair e c wanted cls).1.FeedsSound e.conf := by
  have hbud : d.feeds[e.feedOf c].committed ≤ e.conf.budgets[e.feedOf c] := (h.committed _).2
  have hle : d.chans[c].reservation ≤ d.feeds[e.feedOf c].committed := h.reservation_le c
  have l := h.lawful c
  have wantedStays {w : Level} (hw : w = .off → d.chans[c].wanted = .off) (hs : d.chans[c].state = .waiting .budget ∨ d.chans[c].state = .on)
      (h0 : w = .off) : d.chans[c].state = .disabled ∨ d.chans[c].state = .off := l.1 (hw h0)
  have ht := d.takePair_takes e c wanted cls
  generalize (d.takePair e c wanted cls).1 = d' at ht ⊢
  cases ht with
  | recorded hoff hcls hon =>
    refine h.changeAt c (fun c' => d.record_chan_at c c' wanted cls) (fd := d.feeds[e.feedOf c]) (fun f => ?_)
      ⟨fun hw => ?_, l.2, l.3, l.4, fun hu => ⟨(l.5 hu).1, ?_⟩⟩ (fun rank hr => ?_) (.inr (.inl ⟨rfl, rfl⟩)) rfl hbud
    · rw [Drive.record_feeds]
      split
      · subst f; rfl
      · rfl
    · exact (hoff hw).elim l.1 id
    · have : wanted = d.chans[c].wanted := hon.resolve_right (fun hn => hn (l.5 hu).1)
      rw [this]; exact (l.5 hu).2
    · rcases hcls with hcls | ⟨hb, ho⟩
      · exact .inr (.inr ⟨rfl, by unfold Channel.rank; rw [hcls], rfl⟩)
      · have hk : d.chans[c].entryKind = none := by
          unfold Channel.entryKind
          split
          · exact absurd ‹_› hb
          · exact absurd ‹_› ho
          all_goals rfl
        exact .inl ⟨hk, (h.queue_filter hk _).symm⟩
  | goesOff => exact h.goOff wanted cls
  | shed hw hs => exact h.record_shed cls .undervolt (fun h0 => h.wanted_ne_of_driven hs (hw h0))
  | requeued hw hs hon =>
    have hlaw : ({ d.chans[c] with wanted := wanted, cls := cls } : Channel).Lawful (e.cfg c) :=
      ⟨wantedStays hw hs, l.2, l.3, l.4, fun hu => ⟨(l.5 hu).1, by
        have : wanted = d.chans[c].wanted := hon.resolve_right (fun hn => hn (l.5 hu).1)
        rw [this]; exact (l.5 hu).2⟩⟩
    rcases (d.record c wanted cls).requeue_cases e c with ⟨hno, hr⟩ | ⟨k, hk, hr⟩
    · have hkind : d.chans[c].entryKind = none := by
        by_contra hk
        obtain ⟨k, hk⟩ := Option.ne_none_iff_exists'.1 hk
        exact hno ⟨c, k⟩ ((h.queue _ ⟨c, k⟩).2 ⟨rfl, hk⟩) rfl
      rw [hr]
      refine h.changeAt c (fun c' => d.record_chan_at c c' wanted cls) (fd := d.feeds[e.feedOf c]) (fun f => ?_)
        hlaw (fun rank hr => .inl ⟨hkind, (h.queue_filter hkind _).symm⟩) (.inr (.inl ⟨rfl, rfl⟩)) rfl hbud
      rw [Drive.record_feeds]
      split
      · subst f; rfl
      · rfl
    · have hkind : d.chans[c].entryKind = some k := ((h.queue _ ⟨c, k⟩).1 hk).2
      rw [hr]
      refine h.changeAt c (fun c' => d.record_chan_at c c' wanted cls) (fd := { d.feeds[e.feedOf c] with
          queue := queueJoin (fun z => (d.record c wanted cls).chans[z].rank) ⟨c, k⟩
            (d.feeds[e.feedOf c].queue.filter (fun q => q.ch ≠ c)) }) (fun f => ?_)
        hlaw (fun rank hr => .inr (.inl ⟨k, hkind, ?_⟩)) (.inr (.inl ⟨rfl, rfl⟩)) rfl hbud
      · rw [Drive.joinQueue_feed_at, Drive.leaveQueue_feed_at, Drive.record_feeds]
        dsimp only
        split
        · subst f; rfl
        · rfl
      · rw [hr]
        dsimp only
        refine congrArg (fun r => queueJoin r _ _) (funext fun z => ?_)
        rw [Drive.record_chan_at]
        split <;> rfl
  | switchesOn hw hs =>
    exact h.record_switchOn cls (by rw [hs]; rfl) (by rw [hs]; exact ChanState.noConfusion) hw
  | levels hw hs =>
    have hon : d.chans[c].reservation = steadyReservation (e.cfg c) d.chans[c].applied := l.4 hs
    unfold Drive.levelInOn
    rw [Drive.record_chan_at, if_pos rfl]
    dsimp only
    split
    · refine h.changeAt c (y := { { d.chans[c] with wanted := wanted, cls := cls }.apply (levelToApply (e.cfg c) wanted)
          with upgrade := false, reservation := steadyReservation (e.cfg c) (levelToApply (e.cfg c) wanted) })
        (fun c' => ?_) (fd := { d.feeds[e.feedOf c] with
          committed := d.feeds[e.feedOf c].committed + steadyReservation (e.cfg c) (levelToApply (e.cfg c) wanted) -
            d.chans[c].reservation
          queue := d.feeds[e.feedOf c].queue.filter (fun q => q.ch ≠ c) })
        (fun f => ?_) ⟨fun h0 => absurd h0 hw, fun hd => ?_, fun hi => ?_, fun _ => rfl, fun hu => ?_⟩
        (fun rank hr => .inl ⟨?_, rfl⟩) (.inr (.inl ⟨rfl, rfl⟩)) ?_ ?_
      · simp only [Drive.syncFlash_chans, Drive.setReservation_chan_at, Drive.modChan_at, Drive.leaveQueue_chan_at,
          Drive.record_chan_at, if_true]
        split <;> rfl
      · simp only [Drive.syncFlash_feeds, Drive.setReservation_feed_at, Drive.modChan_at, Drive.modChan_feeds,
          Drive.leaveQueue_feed_at, Drive.leaveQueue_chan_at, Drive.record_chan_at, Drive.record_feeds, if_true]
        split
        · subst f; rfl
        · rfl
      · have hd' : d.chans[c].state.driven = false := hd
        rw [hs] at hd'; cases hd'
      · have hi' : d.chans[c].state = .inrush := hi
        rw [hs] at hi'; cases hi'
      · cases hu
      · exact Channel.entryKind_of_on hs
      · dsimp only; omega
      · dsimp only; omega
    · rename_i hmore
      refine h.changeAt c (y := { d.chans[c] with wanted := wanted, cls := cls, upgrade := true })
        (fun c' => ?_) (fd := { d.feeds[e.feedOf c] with
          queue := queueJoin (fun z => (d.record c wanted cls).chans[z].rank) ⟨c, .upgrade⟩
            (d.feeds[e.feedOf c].queue.filter (fun q => q.ch ≠ c)) })
        (fun f => ?_) ⟨fun h0 => absurd h0 hw, l.2, l.3, l.4, fun _ => ⟨hs, Nat.lt_of_not_le hmore⟩⟩
        (fun rank hr => .inr (.inl ⟨.upgrade, Channel.entryKind_of_on hs, ?_⟩)) (.inr (.inl ⟨rfl, rfl⟩)) rfl hbud
      · simp only [Drive.joinQueue_chan_at, Drive.modChan_at, Drive.leaveQueue_chan_at, Drive.record_chan_at, if_true]
        split <;> rfl
      · have hrank : (fun z : Ch => (((d.record c wanted cls).leaveQueue e c).modChan c
            (fun x => { x with upgrade := true })).chans[z].rank) = fun z => (d.record c wanted cls).chans[z].rank := by
          funext z
          rw [Drive.modChan_at, Drive.leaveQueue_chan_at, Drive.leaveQueue_chan_at]
          split
          · subst z; rfl
          · rfl
        rw [Drive.joinQueue_feed_at, hrank, Drive.modChan_feeds, Drive.leaveQueue_feed_at, Drive.record_feeds]
        dsimp only
        split
        · subst f; rfl
        · rfl
      · rw [hr]
        dsimp only
        refine congrArg (fun r => queueJoin r _ _) (funext fun z => ?_)
        rw [Drive.record_chan_at]
        split <;> rfl

/-! ### Every move -/

/-- The switch-on path entered with the wanted level as it stands. -/
theorem Channel.mayStart.undriven {x : Channel} (hs : x.mayStart) : x.state.driven = false ∧ x.state ≠ .waiting .budget := by
  rcases hs with ⟨hs, _⟩ | hs | hs
  · rw [hs]; exact ⟨rfl, ChanState.noConfusion⟩
  · cases hst : x.state with
    | tripped | latched => exact ⟨rfl, ChanState.noConfusion⟩
    | _ => rw [hst] at hs; cases hs
  · rw [hs]; exact ⟨rfl, fun h => WaitCause.noConfusion (ChanState.waiting.inj h)⟩

theorem Drive.FeedsSound.wanted_ne_of_mayStart (h : d.FeedsSound e.conf) (hs : d.chans[c].mayStart) :
    d.chans[c].wanted ≠ .off := by
  rcases hs with ⟨_, hw⟩ | hs | hs
  · exact hw
  · exact h.wanted_ne (fun h1 => by rw [h1] at hs; cases hs) (fun h1 => by rw [h1] at hs; cases hs)
  · exact h.wanted_ne (by rw [hs]; exact ChanState.noConfusion) (by rw [hs]; exact ChanState.noConfusion)

theorem Drive.FeedsSound.asks (h : d.FeedsSound e.conf) (hd : d.chans[c].state.driven = false)
    (hk : d.chans[c].state ≠ .waiting .budget) (hw : d.chans[c].wanted ≠ .off) (ha : Drive.Asks e d c d') :
    d'.FeedsSound e.conf := by
  refine h.record_asks d.chans[c].cls hd hk hw ?_
  rw [Drive.record_self]
  exact ha

theorem Drive.FeedsSound.switchOn (h : d.FeedsSound e.conf) (hs : d.chans[c].mayStart) :
    (d.switchOn e c).1.FeedsSound e.conf := by
  have := h.record_switchOn d.chans[c].cls hs.undriven.1 hs.undriven.2 (h.wanted_ne_of_mayStart hs)
  rwa [Drive.record_self] at this

theorem Drive.FeedsSound.joinFresh (h : d.FeedsSound e.conf) (hs : d.chans[c].state.waitsForPair = true) :
    (d.joinFresh e c).FeedsSound e.conf := by
  obtain ⟨since, hs⟩ : ∃ since, d.chans[c].state = .waiting (.interlock since) := by
    unfold ChanState.waitsForPair at hs
    split at hs
    · exact ⟨_, ‹_›⟩
    · cases hs
  have hw : d.chans[c].wanted ≠ .off :=
    h.wanted_ne (by rw [hs]; exact ChanState.noConfusion) (by rw [hs]; exact ChanState.noConfusion)
  have := h.record_joinFresh d.chans[c].cls (by rw [hs]; rfl)
    (by rw [hs]; exact fun h => WaitCause.noConfusion (ChanState.waiting.inj h)) hw id (fun _ => ⟨rfl, rfl⟩)
  rwa [Drive.record_self] at this

theorem Drive.FeedsSound.displace (h : d.FeedsSound e.conf) (c : Ch) : (d.displace e c).FeedsSound e.conf := by
  unfold Drive.displace
  split
  · rename_i hs
    have hw : d.chans[c].wanted ≠ .off :=
      h.wanted_ne (by rw [hs]; exact ChanState.noConfusion) (by rw [hs]; exact ChanState.noConfusion)
    refine h.record_waits (c := c) (w := .interlock e.now) (wanted := d.chans[c].wanted) d.chans[c].cls
      (by rw [hs]; rfl) hw WaitCause.noConfusion (fun c' => ?_) (fun f => ?_)
    · rw [Drive.modChan_at]
      rfl
    · rw [Drive.modChan_feeds, Drive.leaveQueue_feed_at]
  · exact h

/-- Every move keeps the laws of the feeds. -/
theorem Drive.FeedsSound.move {k : Drive.Scope} (h : d.FeedsSound e.conf) (hcfg : ∀ c : Ch, (e.cfg c).WellFormed)
    (hm : Drive.Move e k d d') : d'.FeedsSound e.conf := by
  cases hm with
  | side chans hch => exact h.side hch rfl
  | notice | turn | dead | testing | abort | pairs => exact h.congr rfl rfl
  | start selection => exact h.congr (Drive.visitFrom_chans ..) (Drive.visitFrom_feeds ..)
  | tested => exact h.congr (Drive.visitFrom_chans ..) (Drive.visitFrom_feeds ..)
  | @opens _ _ c => exact h.modQuiet c (fun _ => ⟨rfl, rfl, rfl, rfl, rfl, rfl⟩)
  | shed c cause hs => exact h.shed cause (hs.elim id fun ⟨f, hf⟩ => (((h.admitted f).2 c).1 hf).2)
  | letIn hx _ hn => exact h.letIn hcfg hx hn
  | enterOn hs => exact h.enterOn (hcfg _) hs
  | lockOff => exact h.lockOff
  | @unlock _ _ c hs =>
    have l := h.lawful c
    obtain ⟨ha, hr⟩ := l.2 (by rw [hs]; rfl)
    have hu : d.chans[c].upgrade = false := h.upgrade_off (by rw [hs]; exact ChanState.noConfusion)
    refine h.changeAt c (fun c' => Drive.modChan_at d c c' (fun x =>
        { x with state := .off, retries := 0, lastFault := none })) (fd := d.feeds[e.feedOf c]) (fun f => ?_)
      ⟨fun _ => .inr rfl, fun _ => ⟨ha, hr⟩, fun hi => ?_, fun hi => ?_, fun hi => ?_⟩
      (fun rank hr => .inr (.inr ⟨?_, rfl, rfl⟩)) (.inr (.inl ⟨by rw [hs]; rfl, rfl⟩)) rfl (h.committed _).2
    · rw [Drive.modChan_feeds]
      split
      · subst f; rfl
      · rfl
    · cases hi
    · cases hi
    · exact absurd (hu.symm.trans hi) Bool.false_ne_true
    · rw [Channel.entryKind_of_undriven (x := d.chans[c]) (by rw [hs]; rfl) (by rw [hs]; exact ChanState.noConfusion)]
      rfl
  | tripOff kind hs => exact h.tripOff kind hs
  | switchOn hs => exact h.switchOn hs
  | @goOn _ _ c hs =>
    have hm : d.chans[c].mayStart := .inr (.inr hs)
    exact h.asks hm.undriven.1 hm.undriven.2 (h.wanted_ne_of_mayStart hm) (d.interlockTest_asks e c)
  | takePair c wanted cls => exact h.takePair wanted cls
  | joinFresh hs => exact h.joinFresh hs
  | displace c => exact h.displace c

theorem Drive.FeedsSound.moves {k : Drive.Scope} (h : d.FeedsSound e.conf) (hcfg : ∀ c : Ch, (e.cfg c).WellFormed)
    (hm : Drive.Moves e k d d') : d'.FeedsSound e.conf := by
  induction hm with
  | refl => exact h
  | tail _ hm ih => exact ih.move hcfg hm

end

end Sys2Proof.Machine
end


section
/-!
The committed sum of a feed is the sum of its channels' reservations and never exceeds its budget (O45): kept by every
move, by a lowered budget, by the settings of a DISABLED channel, by the setting of supply-low and by power-on.
-/

namespace Sys2Proof.Machine

section
variable {d : Drive} {x y : Configuration}

/-- The laws look at the channel settings and the budgets alone, and a larger budget serves as well. -/
theorem Drive.FeedsSound.conf_mono (h : d.FeedsSound x) (hc : y.channels = x.channels)
    (hb : ∀ f : Fin 3, x.budgets[f] ≤ y.budgets[f]) : d.FeedsSound y := by
  refine ⟨h.wantedOff, h.undriven, ?_, ?_, ?_, ?_, h.once, h.ordered, ?_, fun f => ⟨?_, ?_⟩⟩
  · rw [hc]; exact h.inrush
  · rw [hc]; exact h.on
  · rw [hc]; exact h.upgrade
  · rw [hc]; exact h.queue
  · rw [hc]; exact h.admitted
  · unfold Drive.reserved
    rw [hc]
    exact (h.committed f).1
  · exact Nat.le_trans (h.committed f).2 (hb f)

/-- The settings of a DISABLED channel are looked at by none of the laws. -/
theorem Drive.FeedsSound.configure (h : d.FeedsSound x) {c : Ch} (cfg : ChannelConfig)
    (hs : d.chans[c].state = .disabled) :
    d.FeedsSound { x with channels := x.channels.set c cfg } := by
  have hset (c' : Ch) (hne : c' ≠ c) : (x.channels.set c cfg)[c'] = x.channels[c'] := by
    rw [Fin.getElem_fin, Fin.getElem_fin, Vector.getElem_set_ne _ _ (fun e => hne (Fin.ext e.symm))]
  have hkind : d.chans[c].entryKind = none :=
    Channel.entryKind_of_undriven (by rw [hs]; rfl) (by rw [hs]; exact ChanState.noConfusion)
  obtain ⟨_, hres⟩ := h.undriven c (by rw [hs]; rfl)
  refine ⟨h.wantedOff, h.undriven, fun c' hi => ?_, fun c' hi => ?_, fun c' hi => ?_, fun f q => ?_, h.once, h.ordered,
    fun f => ⟨(h.admitted f).1, fun c' => ?_⟩, fun f => ⟨?_, (h.committed f).2⟩⟩
  · have hne : c' ≠ c := fun e => by rw [e, hs] at hi; cases hi
    rw [hset c' hne]; exact h.inrush c' hi
  · have hne : c' ≠ c := fun e => by rw [e, hs] at hi; cases hi
    rw [hset c' hne]; exact h.on c' hi
  · have hne : c' ≠ c := fun e => by
      have := (h.upgrade c' hi).1
      rw [e, hs] at this; cases this
    rw [hset c' hne]; exact h.upgrade c' hi
  · rw [h.queue f q]
    obtain ⟨ch, kind⟩ := q
    by_cases hq : ch = c
    · rw [hq, hkind]; exact iff_of_false (fun e => by cases e.2) (fun e => by cases e.2)
    · rw [hset _ hq]
  · rw [(h.admitted f).2 c']
    by_cases hq : c' = c
    · rw [hq, hs]; exact iff_of_false (fun e => by cases e.2) (fun e => by cases e.2)
    · rw [hset _ hq]
  · rw [(h.committed f).1, Drive.reserved_eq_sum, Drive.reserved_eq_sum]
    refine Finset.sum_congr rfl fun c' _ => ?_
    unfold Drive.share
    by_cases hq : c' = c
    · rw [hq, hres, ite_self, ite_self]
    · rw [hset _ hq]

/-- With no channel admitted, nothing is committed. -/
theorem Drive.FeedsSound.committed_of_admitted_nil (h : d.FeedsSound x) {f : Fin 3} (hl : d.feeds[f].admitted = []) :
    d.feeds[f].committed = 0 := by
  rw [(h.committed f).1, Drive.reserved_eq_sum]
  refine Finset.sum_eq_zero fun c _ => ?_
  unfold Drive.share
  split
  · rename_i hf
    have hnd : d.chans[c].state.driven = false := by
      by_contra hd
      have := ((h.admitted f).2 c).2 ⟨hf, by simpa using hd⟩
      rw [hl] at this
      cases this
    exact (h.undriven c hnd).2
  · rfl

end

section
variable {e : Env} {d d' : Drive}

theorem Drive.FeedsSound.shed_admitted (h : d.FeedsSound e.conf) (cause : ShedCause) {f : Fin 3} {v : Ch}
    (hv : v ∈ d.feeds[f].admitted) :
    (d.shed e v cause).FeedsSound e.conf ∧
      (d.shed e v cause).feeds[f].admitted = d.feeds[f].admitted.filter (fun z => z ≠ v) := by
  obtain ⟨hf, hd⟩ := ((h.admitted f).2 v).1 hv
  refine ⟨h.shed cause hd, ?_⟩
  have hf : f = e.feedOf v := hf.symm
  rw [Drive.shed_feed_at, if_pos hf]

/-- The environment with other budgets; a shed does not look at them. -/
def Env.withBudgets (e : Env) (b : Vector Nat 3) : Env := { e with conf := { e.conf with budgets := b } }

theorem Drive.shed_withBudgets (d : Drive) (e : Env) (b : Vector Nat 3) (c : Ch) (cause : ShedCause) :
    d.shed (e.withBudgets b) c cause = d.shed e c cause := rfl

/-- Sheds down to a budget reach it (R113). -/
theorem Drive.FeedsSound.shedDown (b : Vector Nat 3) (f : Fin 3) (fuel : Nat) (h : d.FeedsSound (e.withBudgets b).conf)
    (hfuel : d.feeds[f].admitted.length ≤ fuel) :
    (Drive.shedDown e f fuel d).FeedsSound (e.withBudgets b).conf ∧
      (Drive.shedDown e f fuel d).feeds[f].committed ≤ e.conf.budgets[f] := by
  induction fuel generalizing d with
  | zero =>
    have hnil : d.feeds[f].admitted = [] := List.length_eq_zero_iff.1 (Nat.le_zero.1 hfuel)
    refine ⟨h, ?_⟩
    rw [Drive.shedDown, h.committed_of_admitted_nil hnil]
    exact Nat.zero_le _
  | succ n ih =>
    generalize hr : Drive.shedDown e f (n + 1) d = r
    unfold Drive.shedDown at hr
    split at hr
    · rw [← hr]; exact ⟨h, ‹_›⟩
    · rename_i hover
      cases hv : lastOfLowest (fun c => d.chans[c].rank) d.feeds[f].admitted with
      | none =>
        have hnil : d.feeds[f].admitted = [] := by
          by_contra hne
          have := lastOfLowest_isSome (rank := fun c => d.chans[c].rank) hne
          rw [hv] at this
          cases this
        rw [h.committed_of_admitted_nil hnil] at hover
        exact absurd (Nat.zero_le _) hover
      | some v =>
        have hmem := lastOfLowest_mem hv
        obtain ⟨hs, hl⟩ := h.shed_admitted .budget hmem
        rw [Drive.shed_withBudgets] at hs hl
        rw [hv] at hr
        rw [← hr]
        refine ih hs ?_
        rw [hl]
        have : (d.feeds[f].admitted.filter (fun z => decide (z ≠ v))).length < d.feeds[f].admitted.length :=
          List.length_filter_lt_length_iff_exists.2 ⟨v, hmem, by simp⟩
        omega

/-- Sheds of channels that all stand on the admitted list, each once, are a chain of moves. -/
theorem Drive.FeedsSound.sheds {k : Drive.Scope} (f : Fin 3) (cause : ShedCause) (l : List Ch) (hn : l.Nodup)
    (h : d.FeedsSound e.conf) (hl : ∀ c ∈ l, c ∈ d.feeds[f].admitted) :
    Drive.Moves e k d (l.foldl (fun d c => d.shed e c cause) d) ∧
      (l.foldl (fun d c => d.shed e c cause) d).FeedsSound e.conf := by
  induction l generalizing d with
  | nil => exact ⟨.refl, h⟩
  | cons v l ih =>
    obtain ⟨hv, hn⟩ := List.nodup_cons.1 hn
    have hmem := hl v List.mem_cons_self
    obtain ⟨hs, hadm⟩ := h.shed_admitted cause hmem
    obtain ⟨hm, hf⟩ := ih hn hs fun c hc => by
      rw [hadm]
      exact List.mem_filter.2 ⟨hl c (List.mem_cons_of_mem _ hc), decide_eq_true fun e => hv (e ▸ hc)⟩
    exact ⟨.head (.shed v cause (.inr ⟨f, hmem⟩)) hm, hf⟩

/-- The sheds of R117 step 1 are a chain of moves. -/
theorem Drive.FeedsSound.shedAllLow {k : Drive.Scope} (h : d.FeedsSound e.conf) :
    Drive.Moves e k d (d.shedAllLow e).1 ∧ (d.shedAllLow e).1.FeedsSound e.conf := by
  have key : ∀ (l : List (Fin 3)) (acc : Drive × List (Fin 3)),
      Drive.Moves e k d acc.1 ∧ acc.1.FeedsSound e.conf →
      let r := l.foldl (fun (acc : Drive × List (Fin 3)) f =>
        ((acc.1.shedLow e f).1, if (acc.1.shedLow e f).2 then f :: acc.2 else acc.2)) acc
      Drive.Moves e k d r.1 ∧ r.1.FeedsSound e.conf := by
    intro l
    induction l with
    | nil => exact fun _ h => h
    | cons f l ih =>
      rintro acc ⟨hm, hf⟩
      obtain ⟨hm', hf'⟩ := Drive.FeedsSound.sheds (k := k) f .undervolt
        (acc.1.feeds[f].admitted.filter (fun c => decide (acc.1.chans[c].rank ≤ 1))) ((hf.admitted f).1.filter _) hf
        (fun c hc => (List.mem_filter.1 hc).1)
      exact ih _ ⟨hm.trans hm', hf'⟩
  exact key allFeeds (d, []) ⟨.refl, h⟩

/-- The setting of supply-low is a chain of moves. -/
theorem Drive.FeedsSound.setLow {k : Drive.Scope} (h : d.FeedsSound e.conf) :
    Drive.Moves e k d (((d.shedAllLow e).1.passes e (d.shedAllLow e).2).setKind .supply) :=
  ((h.shedAllLow (k := k)).1.passes _).tail (.notice _)

end

theorem startDrive_feeds (conf : Configuration) (valid : Bool) (f : Fin 3) :
    (startDrive conf valid).feeds[f] = { committed := 0, queue := [], admitted := [] } := by
  simp [startDrive]

theorem startDrive_chans (conf : Configuration) (valid : Bool) (c : Ch) :
    (startDrive conf valid).chans[c] = startChannel conf.channels[c] := by
  simp [startDrive]

theorem startState_undriven (cfg : ChannelConfig) :
    (startState cfg).driven = false ∧ (startState cfg = .disabled ∨ startState cfg = .off) := by
  unfold startState
  split
  · exact ⟨rfl, .inr rfl⟩
  · exact ⟨rfl, .inl rfl⟩

/-- Power-on starts every feed with nothing committed (R81, R120). -/
theorem startDrive_feedsSound (conf : Configuration) (valid : Bool) : (startDrive conf valid).FeedsSound conf := by
  have undriven (c : Ch) : (startDrive conf valid).chans[c].state.driven = false ∧
      ((startDrive conf valid).chans[c].state = .disabled ∨ (startDrive conf valid).chans[c].state = .off) := by
    rw [startDrive_chans]; exact startState_undriven _
  have hkind (c : Ch) : (startDrive conf valid).chans[c].entryKind = none :=
    Channel.entryKind_of_undriven (undriven c).1 fun hb => by
      rcases (undriven c).2 with h | h <;> rw [h] at hb <;> cases hb
  refine ⟨fun c _ => (undriven c).2, fun c _ => ?_, fun c hi => ?_, fun c hi => ?_, fun c hi => ?_, fun f q => ?_,
    fun f => ?_, fun f => ?_, fun f => ?_, fun f => ?_⟩
  · rw [startDrive_chans]; exact ⟨rfl, rfl⟩
  · have := (undriven c).1; rw [hi] at this; cases this
  · have := (undriven c).1; rw [hi] at this; cases this
  · rw [startDrive_chans] at hi; cases hi
  · rw [startDrive_feeds, hkind]
    exact iff_of_false List.not_mem_nil (fun h => by cases h.2)
  · rw [startDrive_feeds]; exact List.nodup_nil
  · rw [startDrive_feeds]; exact List.Pairwise.nil
  · rw [startDrive_feeds]
    refine ⟨List.nodup_nil, fun c => iff_of_false List.not_mem_nil fun h => ?_⟩
    rw [(undriven c).1] at h
    cases h.2
  · rw [startDrive_feeds]
    refine ⟨?_, Nat.zero_le _⟩
    rw [Drive.reserved_eq_sum]
    refine (Finset.sum_eq_zero fun c _ => ?_).symm
    unfold Drive.share
    rw [startDrive_chans]
    exact ite_self _

theorem State.ConfSound.channel {s : State} (h : s.ConfSound) (c : Ch) : s.conf.channels[c].WellFormed := by
  obtain ⟨hch, _⟩ := h.inForce
  exact hch c

theorem State.DriveChange.feedsSound {k : Drive.Scope} {s t : State} (hc : s.ConfSound) (h : s.FeedsSound)
    (hd : State.DriveChange k s t) : t.FeedsSound := by
  unfold State.FeedsSound at h ⊢
  cases hd with
  | moves hm =>
    refine Drive.FeedsSound.moves (e := t.env) (h.conf_mono hm.channels hm.budgets) (fun c => ?_) hm.moves
    have : t.env.cfg c = s.conf.channels[c] := congrArg (fun v : Vector ChannelConfig 16 => v[c]) hm.channels
    rw [this]
    exact hc.channel c
  | configured c cfg hs hconf hd =>
    rw [hd, hconf]
    exact h.configure cfg hs
  | lowered f budget hb hconf hd =>
    have hch : t.conf.channels = s.conf.channels := by rw [hconf]
    have h0 : s.drive.FeedsSound (t.env.withBudgets s.conf.budgets).conf :=
      h.conf_mono hch (fun _ => Nat.le_refl _)
    obtain ⟨h1, h2⟩ := h0.shedDown s.conf.budgets f _ (Nat.le_refl _)
    rw [← hd] at h1 h2
    refine ⟨h1.wantedOff, h1.undriven, h1.inrush, h1.on, h1.upgrade, h1.queue, h1.once, h1.ordered, h1.admitted,
      fun f' => ⟨(h1.committed f').1, ?_⟩⟩
    by_cases hf : f' = f
    · rw [hf]; exact h2
    · have : t.conf.budgets[f'] = s.conf.budgets[f'] := by
        rw [hconf, Fin.getElem_fin, Fin.getElem_fin, Vector.getElem_set_ne _ _ (fun e => hf (Fin.ext e.symm))]
      rw [this]
      exact (h1.committed f').2
  | supplyLow hconf hl hd =>
    have h0 : s.drive.FeedsSound t.env.conf := h.conf_mono (congrArg _ hconf)
      (fun f => Nat.le_of_eq (congrArg (fun x : Configuration => x.budgets[f]) hconf).symm)
    rw [hd]
    refine h0.moves (k := .inner) (fun c => ?_) h0.setLow
    have : t.env.cfg c = s.conf.channels[c] := congrArg (fun x : Configuration => x.channels[c]) hconf
    rw [this]
    exact hc.channel c
  | powerOn valid hd =>
    rw [hd]
    exact startDrive_feedsSound _ _

/-- Settles O45: every move of the drive side keeps the laws of the feeds, and so do the changes that are no moves. -/
theorem budgetNeverExceeded : Obligations.BudgetNeverExceeded := by
  unfold Obligations.BudgetNeverExceeded
  intro s t hc hf h
  obtain ⟨_, hd⟩ := step_driveChange h
  exact hd.feedsSound hc hf

end Sys2Proof.Machine
end


section
/-!
SUPPORT. What a move makes of each channel (`Drive.Move.chanTurn`): the channel's record after it, said once for the laws
that speak of one channel at a time.
-/

namespace Sys2Proof.Machine

/-- What a move can make of one channel. -/
inductive Channel.Turn (e : Env) (cfg : ChannelConfig) (x y : Channel) : Prop where
  /-- Nothing that decides or drives changes. -/
  | side (h : Channel.SideOf x y)
  /-- Open load is counted in ON. -/
  | opens (flag : Bool) (n : Nat) (hs : x.state = .on) (hl : cfg.openLoadLevel ≠ 0) (hn : n ≤ 99)
      (hy : y = { x with openFlag := flag, openCount := n })
  /-- It stops being driven, or stays undriven, with all that driving needs given up. -/
  | stops (hd : y.state.driven = false) (ha : y.applied = .off) (ho : y.openFlag = false ∧ y.openCount = 0)
      (hr : y.retries = x.retries ∨ y.retries = 0 ∨ (x.retries < cfg.retryLimit ∧ y.retries = x.retries + 1))
      (hz : y.state = .disabled → y.retries = 0)
  /-- Undriven, it waits, with the values it has or new ones. -/
  | waits (wanted : Level) (cls : Option Cls) (w : WaitCause) (hd : x.state.driven = false)
      (hy : y = { x with wanted := wanted, cls := cls, state := .waiting w })
  /-- UNLOCK. -/
  | unlocks (hs : x.state = .disabled) (hy : y = { x with state := .off, retries := 0, lastFault := none })
  /-- New values are recorded. -/
  | records (wanted : Level) (cls : Option Cls) (hy : y = { x with wanted := wanted, cls := cls })
      (hlow : x.state.driven = true → e.low = true → cls = x.cls ∨ 2 ≤ y.rank)
  /-- In ON a new level is applied, or waits as an upgrade. -/
  | levels (wanted : Level) (cls : Option Cls) (applied : Level) (settled upgrade : Bool) (r : Nat)
      (hs : x.state = .on)
      (hy : y = { x with wanted := wanted, cls := cls, applied := applied, pwmSettled := settled,
                         upgrade := upgrade, reservation := r })
      (hlow : e.low = true → cls = x.cls ∨ 2 ≤ y.rank)
  /-- A fresh entry is admitted. -/
  | admitted (hy : y = x.admitted cfg) (hlow : e.low = true → 2 ≤ x.rank)
  /-- A fresh entry is admitted with an inrush window of 0. -/
  | admittedOn (hy : y = x.admittedOn cfg) (hlow : e.low = true → 2 ≤ x.rank)
  /-- An upgrade entry is admitted. -/
  | upgraded (applied : Level) (settled : Bool) (r : Nat)
      (hy : y = { x with applied := applied, pwmSettled := settled, upgrade := false, reservation := r })
      (hlow : e.low = true → 2 ≤ x.rank)
  /-- The inrush ends. -/
  | enters (applied : Level) (settled : Bool) (r : Nat) (hs : x.state = .inrush)
      (hy : y = { x with applied := applied, pwmSettled := settled, state := .on, inrushTimer := none,
                         cleanTimer := some cleanRun, openCount := 0, openFlag := false, reservation := r })

theorem Channel.Turn.refl {e : Env} {cfg : ChannelConfig} (x : Channel) : Channel.Turn e cfg x x := .side (.refl x)

section
variable {e : Env} {d d' : Drive} {c : Ch}

theorem Channel.Turn.of_eq (h : d'.chans = d.chans) (c : Ch) : Channel.Turn e (e.cfg c) d.chans[c] d'.chans[c] := by
  rw [h]; exact .refl _

/-- A move that changes one channel alone. -/
theorem Channel.Turn.at {y : Channel} (hch : ∀ c' : Ch, d'.chans[c'] = if c' = c then y else d.chans[c'])
    (h : Channel.Turn e (e.cfg c) d.chans[c] y) (c' : Ch) : Channel.Turn e (e.cfg c') d.chans[c'] d'.chans[c'] := by
  rw [hch]
  split
  · subst c'; exact h
  · exact .refl _

theorem Drive.lockOff_chan_at (d : Drive) (e : Env) (c c' : Ch) :
    (d.lockOff e c).chans[c'] =
      if c' = c then { d.chans[c].stopped .disabled with
        cooling := d.chans[c].coolingOnLeave (e.hot c), retries := 0, retryTimer := none } else d.chans[c'] := by
  unfold Drive.lockOff
  rw [Drive.releasePair_chans, Drive.undrive_chan_at, Drive.modChan_at, Drive.modChan_at, if_pos rfl]
  split <;> rfl

theorem Drive.goOff_chan_at (d : Drive) (e : Env) (c c' : Ch) :
    (d.goOff e c).1.chans[c'] =
      if c' = c then { d.chans[c].stopped .off with
        cooling := d.chans[c].coolingOnLeave (e.hot c), retries := 0, lastFault := none, retryTimer := none }
      else d.chans[c'] := by
  unfold Drive.goOff
  dsimp only
  rw [Drive.releasePair_chans, Drive.undrive_chan_at, Drive.modChan_at, Drive.modChan_at, if_pos rfl]
  split <;> rfl

theorem Drive.tripOff_chan_at (d : Drive) (e : Env) (c c' : Ch) (kind : FaultKind) :
    (d.tripOff e c kind).chans[c'] =
      if c' = c then d.chans[c].afterTrip (e.cfg c).retryLimit kind else d.chans[c'] := by
  unfold Drive.tripOff
  dsimp only
  by_cases hr : d.chans[c].retries < (e.cfg c).retryLimit
  · simp only [hr, decide_true, if_true, Drive.noteChanged_chans, Drive.modChan_at, Drive.undrive_chan_at]
    split <;> [skip; rfl]
    simp only [Channel.afterTrip, hr, if_true, true_and, Channel.stopped, Bool.true_and, decide_eq_true_eq]
    rfl
  · simp only [hr, decide_false, Bool.false_eq_true, if_false, Drive.noteChanged_chans, Drive.releasePair_chans,
      Drive.modChan_at, Drive.undrive_chan_at]
    split <;> [skip; rfl]
    simp only [Channel.afterTrip, hr, if_false, false_and, Channel.stopped, Bool.false_and, Bool.false_eq_true]
    rfl

/-- Tests 2 and 3 take the channel, and no other, to WAITING. -/
theorem Drive.Asks.chan_at (h : Drive.Asks e d c d') :
    ∃ w, ∀ c' : Ch, d'.chans[c'] = if c' = c then { d.chans[c] with state := .waiting w } else d.chans[c'] := by
  cases h with
  | unpaired => exact ⟨.budget, fun c' => d.joinFresh_chan_at e c c'⟩
  | holding p hp hh =>
    exact ⟨.budget, fun c' => (d.modPair p (fun x => { x with holder := e.sideOf p c })).joinFresh_chan_at e c c'⟩
  | waits => exact ⟨_, fun c' => Drive.modChan_at ..⟩

theorem Drive.switchOn_chan_at (d : Drive) (e : Env) (c : Ch) :
    ∃ w, ∀ c' : Ch, (d.switchOn e c).1.chans[c'] =
      if c' = c then { d.chans[c] with state := .waiting w } else d.chans[c'] := by
  rcases d.switchOn_cases e c with ⟨_, h⟩ | h
  · rw [h]; exact ⟨.cooling, fun c' => Drive.modChan_at ..⟩
  · exact h.chan_at

theorem Drive.levelInOn_chan_at (d : Drive) (e : Env) (c : Ch) :
    ∃ applied settled upgrade r, ∀ c' : Ch, (d.levelInOn e c).1.chans[c'] =
      if c' = c then { d.chans[c] with applied := applied, pwmSettled := settled, upgrade := upgrade, reservation := r }
      else d.chans[c'] := by
  unfold Drive.levelInOn
  dsimp only
  split
  · refine ⟨levelToApply (e.cfg c) d.chans[c].wanted,
      d.chans[c].pwmSettled && decide (d.chans[c].applied = levelToApply (e.cfg c) d.chans[c].wanted), false,
      steadyReservation (e.cfg c) (levelToApply (e.cfg c) d.chans[c].wanted), fun c' => ?_⟩
    simp only [Drive.syncFlash_chans, Drive.setReservation_chan_at, Drive.modChan_at, Drive.leaveQueue_chan_at]
    split
    · rfl
    · rfl
  · refine ⟨d.chans[c].applied, d.chans[c].pwmSettled, true, d.chans[c].reservation, fun c' => ?_⟩
    simp only [Drive.joinQueue_chan_at, Drive.modChan_at, Drive.leaveQueue_chan_at]

theorem Drive.Takes.turn {wanted : Level} {cls : Option Cls} (h : Drive.Takes e d c wanted cls d') (c' : Ch) :
    Channel.Turn e (e.cfg c') d.chans[c'] d'.chans[c'] := by
  have hrec : (d.record c wanted cls).chans[c] = { d.chans[c] with wanted := wanted, cls := cls } := by
    rw [Drive.record_chan_at, if_pos rfl]
  have hne (x : Ch) (hx : x ≠ c) : (d.record c wanted cls).chans[x] = d.chans[x] := by
    rw [Drive.record_chan_at, if_neg hx]
  cases h with
  | recorded _ _ _ hlow =>
    refine Channel.Turn.at (fun x => d.record_chan_at c x wanted cls) (.records wanted cls rfl fun hd hl => ?_) c'
    rw [← hrec]; exact hlow hd hl
  | goesOff =>
    refine Channel.Turn.at (c := c) (y := { { d.chans[c] with wanted := wanted, cls := cls }.stopped .off with
        cooling := d.chans[c].coolingOnLeave (e.hot c), retries := 0, lastFault := none, retryTimer := none })
      (fun x => ?_) (.stops rfl rfl ⟨rfl, rfl⟩ (.inr (.inl rfl)) (fun _ => rfl)) c'
    rw [Drive.goOff_chan_at, hrec]
    split
    · rfl
    · exact hne x ‹_›
  | shed _ hd =>
    refine Channel.Turn.at (c := c) (y := { { d.chans[c] with wanted := wanted, cls := cls }.stopped (.waiting .budget) with
        lastShed := some .undervolt })
      (fun x => ?_) (.stops rfl rfl ⟨rfl, rfl⟩ (.inl rfl) (fun h => ChanState.noConfusion h)) c'
    rw [Drive.shed_chan_at, hrec]
    split
    · rfl
    · exact hne x ‹_›
  | requeued _ _ _ hlow =>
    rw [Drive.requeue_chans]
    refine Channel.Turn.at (fun x => d.record_chan_at c x wanted cls) (.records wanted cls rfl fun hd hl => ?_) c'
    rw [← hrec]; exact hlow hd hl
  | switchesOn _ hs =>
    obtain ⟨w, hw⟩ := (d.record c wanted cls).switchOn_chan_at e c
    refine Channel.Turn.at (c := c) (y := { d.chans[c] with wanted := wanted, cls := cls, state := .waiting w })
      (fun x => ?_) (.waits wanted cls w (by rw [hs]; rfl) rfl) c'
    rw [hw, hrec]
    split
    · rfl
    · exact hne x ‹_›
  | levels _ hs hlow =>
    obtain ⟨applied, settled, upgrade, r, hw⟩ := (d.record c wanted cls).levelInOn_chan_at e c
    refine Channel.Turn.at (c := c) (y := { d.chans[c] with
        wanted := wanted, cls := cls, applied := applied, pwmSettled := settled, upgrade := upgrade, reservation := r })
      (fun x => ?_) (.levels wanted cls applied settled upgrade r hs rfl fun hl => ?_) c'
    · rw [hw, hrec]
      split
      · rfl
      · exact hne x ‹_›
    · have := hlow (by rw [hs]; rfl) hl
      rw [hrec] at this
      exact this

/-- What a move makes of each channel. -/
theorem Drive.Move.chanTurn {k : Drive.Scope} (h : Drive.Move e k d d') (c' : Ch) :
    Channel.Turn e (e.cfg c') d.chans[c'] d'.chans[c'] := by
  cases h with
  | side chans hch => exact .side (hch c')
  | notice | turn | dead | testing | abort | pairs => exact .refl _
  | start | tested =>
    refine Channel.Turn.of_eq ?_ c'
    exact Drive.visitFrom_chans ..
  | opens flag n hs hl hn => exact Channel.Turn.at (fun x => Drive.modChan_at ..) (.opens flag n hs hl hn rfl) c'
  | shed c cause =>
    exact Channel.Turn.at (fun x => Drive.shed_chan_at ..)
      (.stops rfl rfl ⟨rfl, rfl⟩ (.inl rfl) (fun h => ChanState.noConfusion h)) c'
  | @letIn _ _ _ x _ hl hn =>
    obtain ⟨c, k⟩ := x
    cases k with
    | fresh =>
      by_cases hw : (e.cfg c).inrushWindow = 0
      · refine Channel.Turn.at (c := c) (fun x => ?_) (.admittedOn rfl hl) c'
        exact (Drive.admitFresh_chan_at ..).trans (by rw [if_pos hw])
      · refine Channel.Turn.at (c := c) (fun x => ?_) (.admitted rfl hl) c'
        exact (Drive.admitFresh_chan_at ..).trans (by rw [if_neg hw])
    | upgrade => exact Channel.Turn.at (fun x => Drive.admitUpgrade_chan_at ..) (.upgraded _ _ _ rfl hl) c'
  | enterOn hs => exact Channel.Turn.at (fun x => Drive.enterOn_chan_at ..) (.enters _ _ _ hs rfl) c'
  | lockOff =>
    exact Channel.Turn.at (fun x => Drive.lockOff_chan_at ..)
      (.stops rfl rfl ⟨rfl, rfl⟩ (.inr (.inl rfl)) (fun _ => rfl)) c'
  | unlock hs => exact Channel.Turn.at (fun x => Drive.modChan_at ..) (.unlocks hs rfl) c'
  | @tripOff _ _ c kind hs =>
    refine Channel.Turn.at (fun x => Drive.tripOff_chan_at ..) (.stops ?_ rfl ⟨rfl, rfl⟩ ?_ (fun h => ?_)) c'
    · unfold Channel.afterTrip Channel.stopped
      dsimp only
      split <;> rfl
    · unfold Channel.afterTrip
      by_cases hr : d.chans[c].retries < (e.cfg c).retryLimit
      · exact .inr (.inr ⟨hr, if_pos hr⟩)
      · exact .inl (if_neg hr)
    · unfold Channel.afterTrip Channel.stopped at h
      dsimp only at h
      split at h <;> cases h
  | @switchOn _ _ c hs =>
    obtain ⟨w, hw⟩ := d.switchOn_chan_at e c
    exact Channel.Turn.at hw (.waits d.chans[c].wanted d.chans[c].cls w hs.undriven.1 rfl) c'
  | @goOn _ _ c hs =>
    obtain ⟨w, hw⟩ := (d.interlockTest_asks e c).chan_at
    exact Channel.Turn.at hw (.waits d.chans[c].wanted d.chans[c].cls w (by rw [hs]; rfl) rfl) c'
  | takePair c wanted cls => exact (d.takePair_takes e c wanted cls).turn c'
  | @joinFresh _ c hs =>
    refine Channel.Turn.at (fun x => d.joinFresh_chan_at e c x) (.waits d.chans[c].wanted d.chans[c].cls .budget ?_ rfl) c'
    unfold ChanState.waitsForPair at hs
    split at hs
    · rename_i hst; rw [hst]; rfl
    · cases hs
  | displace c =>
    unfold Drive.displace
    split
    · rename_i hs
      exact Channel.Turn.at
        (fun x => (d.leaveQueue e c).modChan_at c x (fun x => { x with state := .waiting (.interlock e.now) }))
        (.waits d.chans[c].wanted d.chans[c].cls (.interlock e.now) (by rw [Drive.leaveQueue_chan_at, hs]; rfl) rfl) c'
    · exact .refl _

end

end Sys2Proof.Machine
end


section
/-!
While supply-low is set no channel of class 0 or 1 is driven (O48); the retry count, H and the open-load counter stay
within their bounds (O40).
-/

namespace Sys2Proof.Machine

/-! ### Supply-low (R117) -/

/-- No channel of class 0 or 1 is driven in an environment with supply-low set. -/
def Drive.LowHolds (e : Env) (d : Drive) : Prop :=
  e.low = true → ∀ c : Ch, d.chans[c].state.driven = true → 2 ≤ d.chans[c].rank

/-- A channel driven after a move was driven before it with the class it has, or has class 2 or 3 under supply-low. -/
theorem Channel.Turn.low {e : Env} {cfg : ChannelConfig} {x y : Channel} (h : Channel.Turn e cfg x y)
    (hl : e.low = true) (hd : y.state.driven = true) : (x.state.driven = true ∧ y.rank = x.rank) ∨ 2 ≤ y.rank := by
  have rank_eq {a b : Channel} (h : a.cls = b.cls) : a.rank = b.rank := by unfold Channel.rank; rw [h]
  cases h with
  | side h => exact .inl ⟨h.state ▸ hd, rank_eq h.cls⟩
  | opens _ _ hs _ _ hy => rw [hy, hs]; exact .inl ⟨rfl, rfl⟩
  | stops h => rw [h] at hd; cases hd
  | waits _ _ w _ hy => rw [hy] at hd; cases hd
  | unlocks _ hy => rw [hy] at hd; cases hd
  | records _ _ hy hlow =>
    have hx : x.state.driven = true := by rw [hy] at hd; exact hd
    rcases hlow hx hl with h | h
    · exact .inl ⟨hx, rank_eq (by rw [hy]; exact h)⟩
    · exact .inr h
  | levels _ _ _ _ _ _ hs hy hlow =>
    rcases hlow hl with h | h
    · exact .inl ⟨by rw [hs]; rfl, rank_eq (by rw [hy]; exact h)⟩
    · exact .inr h
  | admitted hy hlow => rw [hy]; exact .inr (hlow hl)
  | admittedOn hy hlow => rw [hy]; exact .inr (hlow hl)
  | upgraded _ _ _ hy hlow => rw [hy]; exact .inr (hlow hl)
  | enters _ _ _ hs hy => rw [hy, hs]; exact .inl ⟨rfl, rfl⟩

theorem Drive.LowHolds.moves {e : Env} {k : Drive.Scope} {d d' : Drive} (h : Drive.LowHolds e d)
    (hm : Drive.Moves e k d d') : Drive.LowHolds e d' := by
  induction hm with
  | refl => exact h
  | tail _ hm ih =>
    intro hl c hd
    rcases (hm.chanTurn c).low hl hd with ⟨hx, hr⟩ | hr
    · rw [hr]; exact ih hl c hx
    · exact hr

/-- A channel shed among others stands undriven; any other is as it was. -/
theorem Drive.sheds_chan_at (e : Env) (cause : ShedCause) (l : List Ch) (d : Drive) (c : Ch) :
    (c ∈ l → (l.foldl (fun d c => d.shed e c cause) d).chans[c].state = .waiting .budget) ∧
    (c ∉ l → (l.foldl (fun d c => d.shed e c cause) d).chans[c] = d.chans[c]) := by
  induction l generalizing d with
  | nil => exact ⟨fun h => absurd h List.not_mem_nil, fun _ => rfl⟩
  | cons v l ih =>
    obtain ⟨h1, h2⟩ := ih (d.shed e v cause)
    by_cases hc : c ∈ l
    · exact ⟨fun _ => h1 hc, fun h => absurd (List.mem_cons_of_mem _ hc) h⟩
    · refine ⟨fun h => ?_, fun h => ?_⟩
      · have hcv : c = v := (List.mem_cons.1 h).resolve_right hc
        refine (congrArg Channel.state (h2 hc)).trans ?_
        rw [Drive.shed_chan_at, if_pos hcv]
        rfl
      · refine (h2 hc).trans ?_
        rw [Drive.shed_chan_at, if_neg (fun hcv => h (by rw [hcv]; exact List.mem_cons_self))]

/-- After the sheds of R117 step 1 no channel of class 0 or 1 is driven. -/
theorem Drive.FeedsSound.shedAllLow_lowHolds {e : Env} {d : Drive} (h : d.FeedsSound e.conf) :
    Drive.LowHolds e (d.shedAllLow e).1 := by
  have key : ∀ (l : List (Fin 3)) (acc : Drive × List (Fin 3)), acc.1.FeedsSound e.conf →
      ∀ c : Ch, (e.feedOf c ∈ l ∨ (acc.1.chans[c].state.driven = true → 2 ≤ acc.1.chans[c].rank)) →
      let r := l.foldl (fun (acc : Drive × List (Fin 3)) f =>
        ((acc.1.shedLow e f).1, if (acc.1.shedLow e f).2 then f :: acc.2 else acc.2)) acc
      r.1.chans[c].state.driven = true → 2 ≤ r.1.chans[c].rank := by
    intro l
    induction l with
    | nil => exact fun _ _ c hc => hc.resolve_left List.not_mem_nil
    | cons f l ih =>
      intro acc hf c hc
      have hsound := (Drive.FeedsSound.sheds (k := .inner) f .undervolt
        (acc.1.feeds[f].admitted.filter (fun c => decide (acc.1.chans[c].rank ≤ 1))) ((hf.admitted f).1.filter _) hf
        (fun c hc => (List.mem_filter.1 hc).1)).2
      obtain ⟨hin, hout⟩ := Drive.sheds_chan_at e .undervolt
        (acc.1.feeds[f].admitted.filter (fun c => decide (acc.1.chans[c].rank ≤ 1))) acc.1 c
      refine ih (_, _) hsound c ?_
      by_cases hl : e.feedOf c ∈ l
      · exact .inl hl
      · refine .inr fun hd => ?_
        by_cases hm : c ∈ acc.1.feeds[f].admitted.filter (fun c => decide (acc.1.chans[c].rank ≤ 1))
        · exact absurd ((congrArg ChanState.driven (hin hm)).symm.trans hd) Bool.false_ne_true
        · refine le_of_le_of_eq ?_ (congrArg Channel.rank (hout hm)).symm
          have hd : acc.1.chans[c].state.driven = true := (congrArg (fun x => x.state.driven) (hout hm)).symm.trans hd
          rcases hc with hc | hc
          · have hfc : e.feedOf c = f := (List.mem_cons.1 hc).resolve_right hl
            by_contra hlow
            exact hm (List.mem_filter.2 ⟨((hf.admitted f).2 c).2 ⟨hfc, hd⟩, decide_eq_true (by omega)⟩)
          · exact hc hd
  intro _ c
  refine key allFeeds (d, []) h c (.inl ?_)
  generalize e.feedOf c = f
  revert f
  decide

theorem State.DriveChange.lowHolds {k : Drive.Scope} {s t : State} (hf : s.FeedsSound) (h : s.LowHolds)
    (hd : State.DriveChange k s t) : t.LowHolds := by
  cases hd with
  | moves hm => exact Drive.LowHolds.moves (e := t.env) (fun hl => h (hm.low hl)) hm.moves
  | configured c cfg hs hconf hd hl =>
    unfold State.LowHolds
    rw [hd, hl]
    exact h
  | lowered f budget hb hconf hd hl =>
    intro hlow
    rw [hd]
    refine Drive.shedDown_induct (P := fun d => ∀ c : Ch, d.chans[c].state.driven = true → 2 ≤ d.chans[c].rank)
      (fun d v hd _ c hc => ?_) _ _ (h (hl ▸ hlow))
    rw [Drive.shed_chan_at] at hc
    rw [Drive.shed_rank]
    split at hc
    · cases hc
    · exact hd c hc
  | supplyLow hconf hl hd =>
    have hf : s.drive.FeedsSound t.env.conf := hf.conf_mono (congrArg _ hconf)
      (fun f => Nat.le_of_eq (congrArg (fun x : Configuration => x.budgets[f]) hconf).symm)
    have hm : Drive.Moves t.env .inner (s.drive.shedAllLow t.env).1 t.drive := by
      rw [hd]
      exact (Drive.Moves.passes .refl _).tail (.notice _)
    exact hf.shedAllLow_lowHolds.moves hm
  | powerOn valid hd =>
    intro _ c hc
    rw [hd, startDrive_chans] at hc
    exact absurd ((startState_undriven _).1.symm.trans hc) Bool.false_ne_true

/-- Settles O48: a channel is admitted under supply-low with class 2 or 3 alone, a driven one whose class falls below is
shed, and the setting of supply-low sheds the others. -/
theorem lowSupplyDrivesNoLowClass : Obligations.LowSupplyDrivesNoLowClass := by
  unfold Obligations.LowSupplyDrivesNoLowClass
  intro s t _ hf hl h
  obtain ⟨_, hd⟩ := step_driveChange h
  exact hd.lowHolds hf hl

end Sys2Proof.Machine
end


section
/-!
Members of an enabled pair hold it while they wait for budget or are driven, so never both are driven (O38). The law is
put over a channel and the pair it is a member of (`Drive.PairsHeld`); the inner moves keep it, and SET INTERLOCK and the
end of a dead time are followed step by step.
-/

namespace Sys2Proof.Machine

theorem PairState.eq_free {x : PairState} (hh : x.holder = .none) (hd : x.dead = none) : x = ⟨.none, none⟩ := by
  obtain ⟨holder, dead⟩ := x
  subst hh hd
  rfl

/-- The laws of the pairs, a member named by its channel. -/
structure Drive.PairsHeld (e : Env) (d : Drive) : Prop where
  holders  : ∀ (p : PairNo) (c : Ch), e.conf.pairs[p].enabled = true →
    (e.conf.pairs[p].a = c ∨ e.conf.pairs[p].b = c) → d.chans[c].state.pastTest2 = true →
    d.pairs[p].holder = e.sideOf p c
  deadTime : ∀ p : PairNo, d.pairs[p].dead.isSome = true → d.pairs[p].holder = .none
  disabled : ∀ p : PairNo, e.conf.pairs[p].enabled = false → d.pairs[p] = ⟨.none, none⟩

section
variable {e : Env} {d d' : Drive} {c : Ch} {p : PairNo}

theorem Env.sideOf_ne_none (e : Env) (p : PairNo) (c : Ch) : e.sideOf p c ≠ .none := by
  unfold Env.sideOf
  split <;> exact Holder.noConfusion

/-- The two members of an enabled pair stand on different sides. -/
theorem Env.sideOf_injective (hw : PairsWellFormed e.conf.pairs) (hp : e.conf.pairs[p].enabled = true) {c c' : Ch}
    (hc : e.conf.pairs[p].a = c ∨ e.conf.pairs[p].b = c) (hc' : e.conf.pairs[p].a = c' ∨ e.conf.pairs[p].b = c')
    (h : e.sideOf p c = e.sideOf p c') : c = c' := by
  have hne := hw.1 p hp
  rcases hc with hc | hc <;> rcases hc' with hc' | hc'
  · exact hc.symm.trans hc'
  · rw [Env.sideOf_a hc, Env.sideOf_b hc' hne] at h; cases h
  · rw [Env.sideOf_b hc hne, Env.sideOf_a hc'] at h; cases h
  · exact hc.symm.trans hc'

theorem State.pairsSound_iff {s : State} (hw : PairsWellFormed s.conf.pairs) :
    s.PairsSound ↔ Drive.PairsHeld s.env s.drive := by
  constructor
  · rintro ⟨hh, hd, hn⟩
    refine ⟨fun p c hp hc hpast => ?_, hd, hn⟩
    rcases hc with hc | hc
    · rw [Env.sideOf_a hc]
      exact (hh p hp).1 ((congrArg (fun x : Ch => s.drive.chans[x].state.pastTest2) hc).trans hpast)
    · rw [Env.sideOf_b hc (hw.1 p hp)]
      exact (hh p hp).2 ((congrArg (fun x : Ch => s.drive.chans[x].state.pastTest2) hc).trans hpast)
  · rintro ⟨hh, hd, hn⟩
    refine ⟨fun p hp => ⟨fun hpast => ?_, fun hpast => ?_⟩, hd, hn⟩
    · have := hh p _ hp (.inl rfl) hpast
      rwa [Env.sideOf_a rfl] at this
    · have := hh p _ hp (.inr rfl) hpast
      rwa [Env.sideOf_b rfl (hw.1 p hp)] at this

theorem ChanState.pastTest2_of_driven {x : ChanState} (h : x.driven = true) : x.pastTest2 = true := by
  unfold ChanState.driven at h
  split at h
  · rfl
  · rfl
  all_goals cases h

/-- The holders stay, and no channel comes past test 2. -/
theorem Drive.PairsHeld.of_past (h : Drive.PairsHeld e d)
    (hch : ∀ c : Ch, d'.chans[c].state.pastTest2 = true → d.chans[c].state.pastTest2 = true)
    (hp : d'.pairs = d.pairs) : Drive.PairsHeld e d' := by
  refine ⟨fun p c he hc hpast => ?_, ?_, ?_⟩
  · rw [hp]; exact h.holders p c he hc (hch c hpast)
  · rw [hp]; exact h.deadTime
  · rw [hp]; exact h.disabled

/-- The same of a change of one channel. -/
theorem Drive.PairsHeld.at (h : Drive.PairsHeld e d) {y : Channel}
    (hch : ∀ c' : Ch, d'.chans[c'] = if c' = c then y else d.chans[c'])
    (hy : y.state.pastTest2 = true → d.chans[c].state.pastTest2 = true) (hp : d'.pairs = d.pairs) :
    Drive.PairsHeld e d' :=
  h.of_past (fun c' hpast => by
    rw [hch] at hpast
    split at hpast
    · subst c'; exact hy hpast
    · exact hpast) hp

/-- A channel that is not past test 2 gives its pair up. -/
theorem Drive.PairsHeld.releasePair (h : Drive.PairsHeld e d) (hw : PairsWellFormed e.conf.pairs)
    (hc : d.chans[c].state.pastTest2 = false) : Drive.PairsHeld e (d.releasePair e c) := by
  unfold Drive.releasePair
  split
  · exact h
  · rename_i p hp
    split
    · rename_i hold
      obtain ⟨hen, hmem⟩ := Env.pairOf_member hp
      refine ⟨fun q c' hq hc' hpast => ?_, fun q hq => ?_, fun q hq => ?_⟩
      · rw [Drive.modPair_chans] at hpast
        rw [Drive.modPair_at]
        split
        · subst q
          have hcc : c = c' := Env.sideOf_injective hw hen hmem hc' (hold.symm.trans (h.holders p c' hen hc' hpast))
          subst c'
          rw [hc] at hpast; cases hpast
        · exact h.holders q c' hq hc' hpast
      · rw [Drive.modPair_at] at hq ⊢
        split
        · rfl
        · rw [if_neg ‹_›] at hq
          exact h.deadTime q hq
      · have : q ≠ p := fun e => by rw [e, hen] at hq; cases hq
        rw [Drive.modPair_at, if_neg this]
        exact h.disabled q hq
    · exact h

/-- A channel asks its feed as the holder of its pair, or waits. -/
theorem Drive.PairsHeld.asks (h : Drive.PairsHeld e d) (hw : PairsWellFormed e.conf.pairs)
    (ha : Drive.Asks e d c d') : Drive.PairsHeld e d' := by
  cases ha with
  | unpaired hp =>
    refine ⟨fun q c' hq hc' hpast => ?_, h.deadTime, h.disabled⟩
    have hne : c' ≠ c := by
      rintro rfl
      obtain ⟨h1, h2⟩ := Env.pairOf_eq_none.1 hp q hq
      exact hc'.elim h1 h2
    rw [Drive.joinFresh_chan_at, if_neg hne] at hpast
    exact h.holders q c' hq hc' hpast
  | holding p hp hh =>
    obtain ⟨hen, hmem⟩ := Env.pairOf_member hp
    have hpairs : ((d.modPair p (fun x => { x with holder := e.sideOf p c })).joinFresh e c).pairs =
        (d.modPair p (fun x => { x with holder := e.sideOf p c })).pairs := rfl
    refine ⟨fun q c' hq hc' hpast => ?_, fun q hq => ?_, fun q hq => ?_⟩
    · rw [hpairs, Drive.modPair_at]
      rw [Drive.joinFresh_chan_at, Drive.modPair_chans] at hpast
      split
      · subst q
        by_cases hcc : c' = c
        · rw [hcc]
        · rw [if_neg hcc] at hpast
          have hold := h.holders p c' hen hc' hpast
          rcases hh with hh | ⟨hh, _⟩
          · exact absurd (Env.sideOf_injective hw hen hc' hmem (hold.symm.trans hh)) hcc
          · exact absurd (hold.symm.trans hh) (Env.sideOf_ne_none e p c')
      · rename_i hne
        have hcc : c' ≠ c := by
          rintro rfl
          exact hne (pair_unique hw hq hen hc' hmem)
        rw [if_neg hcc] at hpast
        exact h.holders q c' hq hc' hpast
    · rw [hpairs, Drive.modPair_at] at hq ⊢
      split
      · subst q
        rw [if_pos rfl] at hq
        have hnone := h.deadTime p hq
        rcases hh with hh | ⟨_, hh⟩
        · exact absurd (hh.symm.trans hnone) (Env.sideOf_ne_none e p c)
        · rw [hh] at hq; cases hq
      · rw [if_neg ‹_›] at hq
        exact h.deadTime q hq
    · have : q ≠ p := fun e => by rw [e, hen] at hq; cases hq
      rw [hpairs, Drive.modPair_at, if_neg this]
      exact h.disabled q hq
  | waits =>
    exact h.at (fun c' => Drive.modChan_at ..) (fun hy => by cases hy) rfl

theorem Drive.PairsHeld.switchOn (h : Drive.PairsHeld e d) (hw : PairsWellFormed e.conf.pairs) :
    Drive.PairsHeld e (d.switchOn e c).1 := by
  rcases d.switchOn_cases e c with ⟨_, hc⟩ | hc
  · rw [hc]
    exact h.at (fun c' => Drive.modChan_at ..) (fun hy => by cases hy) rfl
  · exact h.asks hw hc

theorem Drive.PairsHeld.record (h : Drive.PairsHeld e d) (c : Ch) (wanted : Level) (cls : Option Cls) :
    Drive.PairsHeld e (d.record c wanted cls) :=
  h.at (c := c) (fun c' => d.record_chan_at c c' wanted cls) id rfl

/-- A channel's record changes and its state does not. -/
theorem Drive.PairsHeld.modState (h : Drive.PairsHeld e d) (c : Ch) {g : Channel → Channel}
    (hg : (g d.chans[c]).state = d.chans[c].state) : Drive.PairsHeld e (d.modChan c g) :=
  h.at (fun c' => Drive.modChan_at d c c' g) (fun hy => by rwa [hg] at hy) rfl

theorem Drive.PairsHeld.undrive (h : Drive.PairsHeld e d) {t : ChanState}
    (ht : t.pastTest2 = true → d.chans[c].state.pastTest2 = true) : Drive.PairsHeld e (d.undrive e c t) :=
  h.at (fun c' => d.undrive_chan_at e c c' t) ht (d.undrive_pairs e c t)

/-- A channel that goes to a state before test 2 and gives its pair up. -/
theorem Drive.PairsHeld.undrive_release (h : Drive.PairsHeld e d) (hw : PairsWellFormed e.conf.pairs) {t : ChanState}
    (ht : t.pastTest2 = false) : Drive.PairsHeld e ((d.undrive e c t).releasePair e c) := by
  refine (h.undrive (t := t) (fun h => by rw [ht] at h; cases h)).releasePair hw ?_
  rw [Drive.undrive_chan_at, if_pos rfl]
  exact ht

theorem Drive.PairsHeld.goOff (h : Drive.PairsHeld e d) (hw : PairsWellFormed e.conf.pairs) :
    Drive.PairsHeld e (d.goOff e c).1 := by
  unfold Drive.goOff
  refine Drive.PairsHeld.undrive_release (Drive.PairsHeld.modState h c ?_) hw rfl
  rfl

theorem Drive.PairsHeld.lockOff (h : Drive.PairsHeld e d) (hw : PairsWellFormed e.conf.pairs) :
    Drive.PairsHeld e (d.lockOff e c) := by
  unfold Drive.lockOff
  refine Drive.PairsHeld.undrive_release (Drive.PairsHeld.modState h c ?_) hw rfl
  rfl

theorem Drive.PairsHeld.noteChanged (h : Drive.PairsHeld e d) (c : Ch) : Drive.PairsHeld e (d.noteChanged c) :=
  h.of_past (fun _ h => h) rfl

theorem Drive.PairsHeld.tripOff (h : Drive.PairsHeld e d) (hw : PairsWellFormed e.conf.pairs) (kind : FaultKind) :
    Drive.PairsHeld e (d.tripOff e c kind) := by
  unfold Drive.tripOff
  dsimp only
  split
  · refine Drive.PairsHeld.noteChanged (Drive.PairsHeld.modState (h.undrive fun h => by cases h) c ?_) c
    rfl
  · refine Drive.PairsHeld.noteChanged (Drive.PairsHeld.releasePair (Drive.PairsHeld.modState
      (h.undrive fun h => by cases h) c ?_) hw ?_) c
    · rfl
    · rw [Drive.modChan_at, if_pos rfl, Drive.undrive_chan_at, if_pos rfl]
      rfl

theorem Drive.PairsHeld.takePair (h : Drive.PairsHeld e d) (hw : PairsWellFormed e.conf.pairs) (wanted : Level)
    (cls : Option Cls) : Drive.PairsHeld e (d.takePair e c wanted cls).1 := by
  have ht := d.takePair_takes e c wanted cls
  generalize (d.takePair e c wanted cls).1 = d' at ht ⊢
  have hrec := h.record c wanted cls
  cases ht with
  | recorded => exact hrec
  | goesOff => exact hrec.goOff hw
  | shed _ hs =>
    refine hrec.at (fun c' => Drive.shed_chan_at ..) (fun _ => ?_) (Drive.shed_pairs ..)
    rw [Drive.record_chan_at, if_pos rfl]
    exact ChanState.pastTest2_of_driven hs
  | requeued => exact hrec.of_past (fun _ h => by rwa [Drive.requeue_chans] at h) (Drive.requeue_pairs ..)
  | switchesOn => exact hrec.switchOn hw
  | levels _ hs =>
    obtain ⟨_, _, _, _, hch⟩ := (d.record c wanted cls).levelInOn_chan_at e c
    refine hrec.at hch id ?_
    unfold Drive.levelInOn
    dsimp only
    split
    · rw [Drive.syncFlash_pairs]; rfl
    · rfl

/-- Every move but those of SET INTERLOCK and of the end of a dead time keeps the laws of the pairs. -/
theorem Drive.PairsHeld.move {k : Drive.Scope} (h : Drive.PairsHeld e d) (hf : d.FeedsSound e.conf)
    (hw : PairsWellFormed e.conf.pairs) (hk : k ≠ .pairs) (hm : Drive.Move e k d d') : Drive.PairsHeld e d' := by
  cases hm with
  | side chans hch => exact h.of_past (fun c hc => (congrArg ChanState.pastTest2 (hch c).state).symm.trans hc) rfl
  | notice | turn | testing | abort => exact h.of_past (fun _ h => h) rfl
  | dead pairs hp =>
    refine ⟨fun p c hp' hc hpast => (hp p).1.trans (h.holders p c hp' hc hpast), fun p hd => ?_, fun p hd => ?_⟩
    · exact (hp p).1.trans (h.deadTime p ((hp p).2.symm.trans hd))
    · have h0 := h.disabled p hd
      obtain ⟨h1, h2⟩ := hp p
      rw [h0] at h1 h2
      have hdead : pairs[p].dead = none := by
        rw [← Option.not_isSome_iff_eq_none, h2]; exact Bool.false_ne_true
      exact PairState.eq_free h1 hdead
  | start selection =>
    exact h.of_past (fun c hc => by rwa [Drive.visitFrom_chans] at hc) (Drive.visitFrom_pairs ..)
  | tested =>
    unfold Drive.endTest
    exact h.of_past (fun c hc => by rwa [Drive.visitFrom_chans] at hc) (Drive.visitFrom_pairs ..)
  | opens flag n hs => exact h.modState _ rfl
  | shed c cause hs =>
    refine h.at (fun c' => Drive.shed_chan_at ..) (fun _ => ChanState.pastTest2_of_driven ?_) (Drive.shed_pairs ..)
    exact hs.elim id fun ⟨f, hf'⟩ => (((hf.admitted f).2 c).1 hf').2
  | @letIn _ _ f x hx =>
    obtain ⟨c, k⟩ := x
    have hk := ((hf.queue f ⟨c, k⟩).1 hx).2
    cases k with
    | fresh =>
      refine h.at (c := c) (fun c' => Drive.admitFresh_chan_at ..) (fun _ => ?_) (Drive.admitFresh_pairs ..)
      rw [Channel.entryKind_eq_fresh hk]
      rfl
    | upgrade =>
      refine h.at (c := c) (fun c' => Drive.admitUpgrade_chan_at ..) id ?_
      exact Drive.letIn_pairs d e ⟨c, .upgrade⟩
  | enterOn hs => exact h.at (fun c' => Drive.enterOn_chan_at ..) (fun _ => by rw [hs]; rfl) (Drive.enterOn_pairs ..)
  | lockOff => exact h.lockOff hw
  | unlock => exact h.at (fun c' => Drive.modChan_at ..) (fun h => by cases h) rfl
  | tripOff kind => exact h.tripOff hw kind
  | switchOn => exact h.switchOn hw
  | @goOn _ _ c => exact h.asks hw (d.interlockTest_asks e c)
  | takePair c wanted cls => exact h.takePair hw wanted cls
  | pairs | joinFresh | displace => exact absurd rfl hk

theorem Drive.PairsHeld.moves {k : Drive.Scope} (h : Drive.PairsHeld e d) (hf : d.FeedsSound e.conf)
    (hcfg : ∀ c : Ch, (e.cfg c).WellFormed) (hw : PairsWellFormed e.conf.pairs) (hk : k ≠ .pairs)
    (hm : Drive.Moves e k d d') : Drive.PairsHeld e d' := by
  induction hm with
  | refl => exact h
  | tail hm hm' ih => exact ih.move (hf.moves hcfg hm) hw hk hm'

/-! ### The arbiter (R77) -/

theorem Drive.PairsHeld.arbitrate (h : Drive.PairsHeld e d) (hw : PairsWellFormed e.conf.pairs)
    (hp : e.conf.pairs[p].enabled = true) (hh : d.pairs[p].holder = .none ∧ d.pairs[p].dead = none) :
    Drive.PairsHeld e (d.arbitrate e p).1 := by
  unfold Drive.arbitrate
  split
  · exact h
  · rename_i c hc
    have hmem : e.conf.pairs[p].a = c ∨ e.conf.pairs[p].b = c :=
      (Drive.arbiterChoice_waits hc).1.imp Eq.symm Eq.symm
    exact h.asks hw (.holding p (Env.pairOf_eq_some hw hp hmem) (.inr hh))

theorem deadTimeExpiry_pairsHeld {s : State} (hw : PairsWellFormed s.conf.pairs) (hcfg : ∀ c : Ch, s.conf.channels[c].WellFormed)
    (hf : s.FeedsSound) (h : Drive.PairsHeld s.env s.drive) (p : PairNo) :
    Drive.PairsHeld (deadTimeExpiry p s).env (deadTimeExpiry p s).drive := by
  unfold deadTimeExpiry
  split
  · rename_i hexp
    obtain ⟨hen, hexp⟩ := hexp
    have hsome : s.drive.pairs[p].dead.isSome = true := by
      unfold expires at hexp
      cases hd : s.drive.pairs[p].dead with
      | none => rw [hd] at hexp; cases hexp
      | some n => rfl
    have hnone := h.deadTime p hsome
    have h1 : Drive.PairsHeld s.env (s.drive.modPair p (fun x => { x with dead := none })) := by
      refine ⟨fun q c hq hc hpast => ?_, fun q hq => ?_, fun q hq => ?_⟩
      · rw [Drive.modPair_at]
        split
        · subst q; exact h.holders p c hq hc hpast
        · exact h.holders q c hq hc hpast
      · rw [Drive.modPair_at] at hq ⊢
        split
        · exact hnone
        · rw [if_neg ‹_›] at hq; exact h.deadTime q hq
      · rw [Drive.modPair_at]
        have hqp : q ≠ p := fun e => by rw [e] at hq; exact absurd (hq.symm.trans hen) Bool.false_ne_true
        rw [if_neg hqp]
        exact h.disabled q hq
    have h2 := h1.arbitrate hw (p := p) hen ⟨by rw [Drive.modPair_at, if_pos rfl]; exact hnone, by
      rw [Drive.modPair_at, if_pos rfl]⟩
    have hf1 : Drive.Moves s.env .pairs s.drive ((s.drive.modPair p (fun x => { x with dead := none })).arbitrate s.env p).1 :=
      (Drive.Moves.modPair .refl p _).arbitrate p
    exact h2.moves (k := .inner) (Drive.FeedsSound.moves hf hcfg hf1) hcfg hw Drive.Scope.noConfusion
      (Drive.Moves.passes .refl _)
  · exact h

/-! ### SET INTERLOCK (R78) -/

theorem Drive.holderFor_eq_a {a b : Ch} (h : d.holderFor a b = .a) (hb : d.chans[b].state.driven = true) :
    d.chans[a].state.driven = true := by
  unfold Drive.holderFor at h
  split at h
  · assumption
  · cases h

theorem Drive.holderFor_eq_b {a b : Ch} (h : d.holderFor a b = .b) : d.chans[a].state.driven = false := by
  unfold Drive.holderFor at h
  split at h
  · cases h
  · exact Bool.eq_false_iff.2 ‹_›

theorem ChanState.pastTest2_cases {x : ChanState} (h : x.pastTest2 = true) : x.driven = true ∨ x = .waiting .budget := by
  unfold ChanState.pastTest2 at h
  split at h
  · exact .inr rfl
  · exact .inl rfl
  · exact .inl rfl
  all_goals cases h

theorem Drive.holderFor_eq_none {a b : Ch} (h : d.holderFor a b = .none) :
    d.chans[a].state.pastTest2 = false ∧ d.chans[b].state.pastTest2 = false := by
  have past {x : ChanState} (hd : ¬ x.driven = true) (hc : x.claims = false) : x.pastTest2 = false := by
    by_contra hp
    rcases ChanState.pastTest2_cases (by simpa using hp) with h | h
    · exact hd h
    · rw [h] at hc; cases hc
  unfold Drive.holderFor at h
  split at h
  · cases h
  · rename_i ha
    split at h
    · cases h
    · rename_i hb
      split at h
      · split at h <;> cases h
      · cases h
      · cases h
      · rename_i hca hcb
        exact ⟨past ha hca, past hb hcb⟩

theorem Drive.displace_chan_at (d : Drive) (e : Env) (c c' : Ch) :
    (d.displace e c).chans[c'] =
      if c' = c ∧ d.chans[c].state = .waiting .budget then
        { d.chans[c] with state := .waiting (.interlock e.now) } else d.chans[c'] := by
  unfold Drive.displace
  by_cases hs : d.chans[c].state = .waiting .budget
  · rw [if_pos hs]
    refine ((d.leaveQueue e c).modChan_at c c' (fun x => { x with state := .waiting (.interlock e.now) })).trans ?_
    by_cases hc : c' = c
    · rw [if_pos hc, if_pos ⟨hc, hs⟩]; rfl
    · rw [if_neg hc, if_neg (fun h => hc h.1)]; rfl
  · rw [if_neg hs, if_neg (fun h => hs h.2)]

@[simp] theorem Drive.displace_pairs (d : Drive) (e : Env) (c : Ch) : (d.displace e c).pairs = d.pairs := by
  unfold Drive.displace
  split <;> rfl

/-- After a displacement a channel is past test 2 where it was and is not the displaced one, or is driven. -/
theorem Drive.displace_past {c' : Ch} (h : (d.displace e c).chans[c'].state.pastTest2 = true) :
    d.chans[c'].state.pastTest2 = true ∧ (c' = c → d.chans[c'].state.driven = true) := by
  rw [Drive.displace_chan_at] at h
  split at h
  · cases h
  · rename_i hn
    refine ⟨h, fun hc => ?_⟩
    rcases ChanState.pastTest2_cases h with h | h
    · exact h
    · rw [hc] at h
      exact absurd ⟨hc, h⟩ hn

/-- What SET INTERLOCK's own change leaves past test 2. -/
theorem Drive.pairHandled_past {c' : Ch} (h : (d.pairHandled e p).chans[c'].state.pastTest2 = true) :
    d.chans[c'].state.pastTest2 = true ∧
      (e.conf.pairs[p].enabled = true ∧ d.newHolder e p = .b → c' = e.conf.pairs[p].a → d.chans[c'].state.driven = true) ∧
      (e.conf.pairs[p].enabled = true ∧ d.newHolder e p = .a → c' = e.conf.pairs[p].b → d.chans[c'].state.driven = true) := by
  have hdef : d.pairHandled e p =
      let d1 := d.modPair p (fun _ => ⟨d.newHolder e p, none⟩)
      let d2 := if e.conf.pairs[p].enabled = true ∧ d.newHolder e p = .b then d1.displace e e.conf.pairs[p].a else d1
      if e.conf.pairs[p].enabled = true ∧ d.newHolder e p = .a then d2.displace e e.conf.pairs[p].b else d2 := rfl
  rw [hdef] at h
  dsimp only at h
  by_cases hb : e.conf.pairs[p].enabled = true ∧ d.newHolder e p = .b
  · have ha : ¬ (e.conf.pairs[p].enabled = true ∧ d.newHolder e p = .a) := fun ha => by
      rw [hb.2] at ha; cases ha.2
    rw [if_neg ha, if_pos hb] at h
    obtain ⟨h1, h2⟩ := Drive.displace_past h
    exact ⟨h1, fun _ => h2, fun h => absurd h ha⟩
  · rw [if_neg hb] at h
    by_cases ha : e.conf.pairs[p].enabled = true ∧ d.newHolder e p = .a
    · rw [if_pos ha] at h
      obtain ⟨h1, h2⟩ := Drive.displace_past h
      exact ⟨h1, fun h => absurd h hb, fun _ => h2⟩
    · rw [if_neg ha] at h
      exact ⟨h, fun h => absurd h hb, fun h => absurd h ha⟩

theorem Drive.displaceIf_pairs {q : Prop} [Decidable q] (d : Drive) (e : Env) (c : Ch) :
    (if q then d.displace e c else d).pairs = d.pairs := by
  split
  · exact d.displace_pairs e c
  · rfl

theorem Drive.pairHandled_pairs (d : Drive) (e : Env) (p : PairNo) :
    (d.pairHandled e p).pairs = (d.modPair p (fun _ => ⟨d.newHolder e p, none⟩)).pairs :=
  (Drive.displaceIf_pairs _ e _).trans (Drive.displaceIf_pairs _ e _)

/-- The pair's own change keeps the laws under the new settings, both members not being driven. -/
theorem Drive.PairsHeld.pairHandled {e0 : Env} (h : Drive.PairsHeld e0 d) (hw : PairsWellFormed e.conf.pairs)
    (hrest : ∀ q : PairNo, q ≠ p → e.conf.pairs[q] = e0.conf.pairs[q])
    (hnot : e.conf.pairs[p].enabled = true →
      ¬ (d.chans[e.conf.pairs[p].a].state.driven = true ∧ d.chans[e.conf.pairs[p].b].state.driven = true)) :
    Drive.PairsHeld e (d.pairHandled e p) := by
  refine ⟨fun q c hq hc hpast => ?_, fun q hq => ?_, fun q hq => ?_⟩
  · obtain ⟨hold, hA, hB⟩ := Drive.pairHandled_past hpast
    rw [Drive.pairHandled_pairs, Drive.modPair_at]
    split
    · subst q
      show d.newHolder e p = e.sideOf p c
      have hnew : d.newHolder e p = d.holderFor e.conf.pairs[p].a e.conf.pairs[p].b := if_pos hq
      cases hh : d.newHolder e p with
      | none =>
        obtain ⟨ha, hb⟩ := Drive.holderFor_eq_none (hnew.symm.trans hh)
        rcases hc with rfl | rfl
        · exact absurd (ha.symm.trans hold) Bool.false_ne_true
        · exact absurd (hb.symm.trans hold) Bool.false_ne_true
      | a =>
        rcases hc with hc | hc
        · rw [Env.sideOf_a hc]
        · exfalso
          have hd := hB ⟨hq, hh⟩ hc.symm
          subst hc
          exact hnot hq ⟨Drive.holderFor_eq_a (hnew.symm.trans hh) hd, hd⟩
      | b =>
        rcases hc with hc | hc
        · have hd := hA ⟨hq, hh⟩ hc.symm
          subst hc
          exact absurd ((Drive.holderFor_eq_b (hnew.symm.trans hh)).symm.trans hd) Bool.false_ne_true
        · rw [Env.sideOf_b hc (hw.1 p hq)]
    · rename_i hqp
      have heq := hrest q hqp
      have hside : e.sideOf q c = e0.sideOf q c := by unfold Env.sideOf; rw [heq]
      rw [hside]
      rw [heq] at hq hc
      exact h.holders q c hq hc hold
  · rw [Drive.pairHandled_pairs, Drive.modPair_at] at hq ⊢
    by_cases hqp : q = p
    · rw [if_pos hqp] at hq; cases hq
    · rw [if_neg hqp] at hq ⊢
      exact h.deadTime q hq
  · rw [Drive.pairHandled_pairs, Drive.modPair_at]
    split
    · subst q
      have : d.newHolder e p = .none := by
        unfold Drive.newHolder
        rw [hq]; rfl
      rw [this]
    · rename_i hqp
      rw [hrest q hqp] at hq
      exact h.disabled q hq

/-- A channel in no enabled pair that waited for one goes on. -/
theorem Drive.PairsHeld.leavePair (h : Drive.PairsHeld e d) (hw : PairsWellFormed e.conf.pairs)
    (hp : e.pairOf c = none) : Drive.PairsHeld e (d.leavePair e c).1 := by
  unfold Drive.leavePair
  split
  · exact h.asks hw (.unpaired hp)
  · exact h

theorem Drive.PairsHeld.pairSet {e0 : Env} (h : Drive.PairsHeld e0 d) (hw : PairsWellFormed e.conf.pairs)
    (hw0 : PairsWellFormed e0.conf.pairs)
    (hrest : ∀ q : PairNo, q ≠ p → e.conf.pairs[q] = e0.conf.pairs[q])
    (hnot : e.conf.pairs[p].enabled = true →
      ¬ (d.chans[e.conf.pairs[p].a].state.driven = true ∧ d.chans[e.conf.pairs[p].b].state.driven = true)) :
    Drive.PairsHeld e (d.pairSet e p e0.conf.pairs[p]).1 := by
  have h1 : Drive.PairsHeld e (if e.conf.pairs[p].enabled = true ∧ d.newHolder e p = .none then
      (d.pairHandled e p).arbitrate e p else (d.pairHandled e p, [])).1 := by
    have hbase := h.pairHandled (p := p) hw hrest hnot
    split
    · rename_i hc
      obtain ⟨hen, hnone⟩ := hc
      refine hbase.arbitrate hw hen ⟨?_, ?_⟩ <;> rw [Drive.pairHandled_pairs, Drive.modPair_at, if_pos rfl]
      exact hnone
    · exact hbase
  have noPair {c : Ch} (hold : e0.conf.pairs[p].enabled = true)
      (hm : e0.conf.pairs[p].a = c ∨ e0.conf.pairs[p].b = c)
      (hc : (e.conf.pairs[p].enabled && (decide (c = e.conf.pairs[p].a) || decide (c = e.conf.pairs[p].b))) = false) :
      e.pairOf c = none := by
    refine Env.pairOf_eq_none.2 fun q hq => ?_
    by_cases hqp : q = p
    · subst q
      rw [hq, Bool.true_and, Bool.or_eq_false_iff, decide_eq_false_iff_not, decide_eq_false_iff_not] at hc
      exact ⟨fun h => hc.1 h.symm, fun h => hc.2 h.symm⟩
    · rw [hrest q hqp] at hq ⊢
      exact not_or.1 fun hqc => hqp (pair_unique hw0 hq hold hqc hm)
  unfold Drive.pairSet
  dsimp only
  have leave {d1 : Drive} {l : List (Fin 3)} {c : Ch} (hd : Drive.PairsHeld e d1)
      (hm : e0.conf.pairs[p].a = c ∨ e0.conf.pairs[p].b = c) :
      Drive.PairsHeld e (if (e0.conf.pairs[p].enabled && !(e.conf.pairs[p].enabled &&
        (decide (c = e.conf.pairs[p].a) || decide (c = e.conf.pairs[p].b)))) = true then d1.leavePair e c
        else (d1, l)).1 := by
    split
    · rename_i hc
      rw [Bool.and_eq_true, Bool.not_eq_true'] at hc
      exact hd.leavePair hw (noPair hc.1 hm hc.2)
    · exact hd
  exact leave (leave h1 (.inl rfl)) (.inr rfl)

/-- The pairs stay well formed with a pair that is disabled, or joins two channels that are in no other enabled one. -/
theorem PairsWellFormed.set {x : Configuration} (hw : PairsWellFormed x.pairs) (p : PairNo) {enabled : Bool} {a b : Ch}
    (hab : ¬ (enabled = true ∧ a = b))
    (ho : ¬ (enabled = true ∧ (inOtherPair x p a = true ∨ inOtherPair x p b = true))) :
    PairsWellFormed (x.pairs.set p ⟨enabled, a, b⟩) := by
  have hat (q : PairNo) : (x.pairs.set p ⟨enabled, a, b⟩)[q] = if q = p then ⟨enabled, a, b⟩ else x.pairs[q] := by
    rw [Fin.getElem_fin, Vector.getElem_set]
    by_cases h : q = p
    · rw [if_pos h, if_pos (by rw [h])]
    · rw [if_neg h, if_neg (fun e => h (Fin.ext e.symm))]; rfl
  have free (he : enabled = true) {c : Ch} (hc : c = a ∨ c = b) (q : PairNo) (hq : q ≠ p) (hqe : x.pairs[q].enabled = true) :
      x.pairs[q].a ≠ c ∧ x.pairs[q].b ≠ c := by
    have hno : inOtherPair x p c = false := by
      by_contra h
      have h : inOtherPair x p c = true := by simpa using h
      rcases hc with rfl | rfl
      · exact ho ⟨he, .inl h⟩
      · exact ho ⟨he, .inr h⟩
    have := List.any_eq_false.1 hno q (mem_allPairs q)
    refine not_or.1 fun h => this ?_
    rw [Bool.and_eq_true, Bool.and_eq_true, Bool.or_eq_true, decide_eq_true_eq, decide_eq_true_eq, decide_eq_true_eq]
    exact ⟨⟨hq, hqe⟩, h⟩
  refine ⟨fun q hq => ?_, fun q r hq hr hne => ?_⟩
  · rw [hat] at hq ⊢
    split
    · rw [if_pos ‹_›] at hq
      exact fun h => hab ⟨hq, h⟩
    · rw [if_neg ‹_›] at hq
      exact hw.1 q hq
  · rw [hat] at hq hr ⊢
    rw [hat r]
    by_cases h1 : q = p
    · have h2 : r ≠ p := fun h => hne (h1.trans h.symm)
      rw [if_pos h1] at hq ⊢
      rw [if_neg h2] at hr ⊢
      obtain ⟨ha1, ha2⟩ := free hq (.inl rfl) r h2 hr
      obtain ⟨hb1, hb2⟩ := free hq (.inr rfl) r h2 hr
      exact ⟨ha1.symm, ha2.symm, hb1.symm, hb2.symm⟩
    · rw [if_neg h1] at hq ⊢
      by_cases h2 : r = p
      · rw [if_pos h2] at hr ⊢
        obtain ⟨ha1, ha2⟩ := free hr (.inl rfl) q h1 hq
        obtain ⟨hb1, hb2⟩ := free hr (.inr rfl) q h1 hq
        exact ⟨ha1, hb1, ha2, hb2⟩
      · rw [if_neg h2] at hr ⊢
        exact hw.2 q r hq hr hne

theorem setInterlockBody_pairsHeld (pair enabled a b : Byte) {s : State} (hw : PairsWellFormed s.conf.pairs)
    (hcfg : ∀ c : Ch, s.conf.channels[c].WellFormed) (hf : s.FeedsSound) (h : Drive.PairsHeld s.env s.drive) :
    PairsWellFormed (setInterlockBody pair enabled a b s).1.conf.pairs ∧
      Drive.PairsHeld (setInterlockBody pair enabled a b s).1.env (setInterlockBody pair enabled a b s).1.drive := by
  unfold setInterlockBody
  split
  · rename_i p ca cb _ _ _
    split
    · exact ⟨hw, h⟩
    rename_i hab
    split
    · exact ⟨hw, h⟩
    rename_i ho
    split
    · exact ⟨hw, h⟩
    rename_i hnot
    have hw' := PairsWellFormed.set hw p hab ho
    refine ⟨hw', ?_⟩
    have hrest : ∀ q : PairNo, q ≠ p → (s.conf.pairs.set p ⟨yes enabled, ca, cb⟩)[q] = s.conf.pairs[q] := fun q hq => by
      rw [Fin.getElem_fin, Fin.getElem_fin, Vector.getElem_set_ne _ _ (fun e => hq (Fin.ext e.symm))]
    have hself : (s.conf.pairs.set p ⟨yes enabled, ca, cb⟩)[p] = ⟨yes enabled, ca, cb⟩ := by
      rw [Fin.getElem_fin, Vector.getElem_set_self]
    let e : Env := { s.env with conf := { s.conf with pairs := s.conf.pairs.set p ⟨yes enabled, ca, cb⟩ } }
    have hset : Drive.PairsHeld e (s.drive.pairSet e p s.conf.pairs[p]).1 := by
      refine Drive.PairsHeld.pairSet (e0 := s.env) h hw' hw hrest fun hen => ?_
      rintro ⟨h1, h2⟩
      have h1 := (congrArg (fun x : PairConfig => s.drive.chans[x.a].state.driven) hself).symm.trans h1
      have h2 := (congrArg (fun x : PairConfig => s.drive.chans[x.b].state.driven) hself).symm.trans h2
      refine hnot ⟨?_, h1, h2⟩
      have : e.conf.pairs[p] = ⟨yes enabled, ca, cb⟩ := hself
      rw [this] at hen
      exact hen
    have hm : Drive.Moves e .pairs s.drive (s.drive.pairSet e p s.conf.pairs[p]).1 := Drive.Moves.pairSet .refl p _
    exact hset.moves (k := .inner) (Drive.FeedsSound.moves (e := e)
      (Drive.FeedsSound.conf_mono hf rfl (fun _ => Nat.le_refl _)) hcfg hm) hcfg hw' Drive.Scope.noConfusion
      (Drive.Moves.passes .refl _)
  · exact ⟨hw, h⟩

end

theorem Drive.PairsHeld.shedDown {e : Env} {d : Drive} (h : Drive.PairsHeld e d) (b : Vector Nat 3)
    (hf : d.FeedsSound (e.withBudgets b).conf) (f : Fin 3) (fuel : Nat) :
    Drive.PairsHeld e (Drive.shedDown e f fuel d) := by
  refine (Drive.shedDown_induct (P := fun d => Drive.PairsHeld e d ∧ d.FeedsSound (e.withBudgets b).conf)
    (fun d v hd hv => ?_) fuel d ⟨h, hf⟩).1
  obtain ⟨hd, hf⟩ := hd
  refine ⟨hd.at (fun c' => Drive.shed_chan_at ..) (fun _ => ?_) (Drive.shed_pairs ..), (hf.shed_admitted .budget hv).1⟩
  exact ChanState.pastTest2_of_driven (((hf.admitted f).2 v).1 hv).2

theorem startDrive_pairs (conf : Configuration) (valid : Bool) (p : PairNo) :
    (startDrive conf valid).pairs[p] = ⟨.none, none⟩ := by
  simp [startDrive]

theorem State.DriveChange.pairsSound {k : Drive.Scope} {s t : State} (hk : k ≠ .pairs) (hc : s.ConfSound)
    (hf : s.FeedsSound) (h : s.PairsSound) (hd : State.DriveChange k s t) : t.PairsSound := by
  obtain ⟨hcfg, _, hw, _⟩ := hc.inForce
  have hheld := (State.pairsSound_iff hw).1 h
  have conv (hp : t.conf.pairs = s.conf.pairs) (h : Drive.PairsHeld t.env t.drive) : t.PairsSound :=
    (State.pairsSound_iff (by rw [hp]; exact hw)).2 h
  have start (hp : t.conf.pairs = s.conf.pairs) : Drive.PairsHeld t.env s.drive := by
    obtain ⟨h1, h2, h3⟩ := hheld
    have side (p : PairNo) (c : Ch) : t.env.sideOf p c = s.env.sideOf p c := by
      show (if t.conf.pairs[p].a = c then Holder.a else Holder.b) = _
      rw [hp]; rfl
    refine ⟨fun p c hen hmem hpast => ?_, h2, ?_⟩
    · rw [side]
      refine h1 p c ?_ ?_ hpast
      · exact (congrArg (fun x : Vector PairConfig 8 => x[p].enabled) hp).symm.trans hen
      · refine hmem.imp (fun h => ?_) (fun h => ?_)
        · exact (congrArg (fun x : Vector PairConfig 8 => x[p].a) hp).symm.trans h
        · exact (congrArg (fun x : Vector PairConfig 8 => x[p].b) hp).symm.trans h
    · exact fun p hp' => h3 p ((congrArg (fun x : Vector PairConfig 8 => x[p].enabled) hp).symm.trans hp')
  have wf (hp : t.conf.pairs = s.conf.pairs) : PairsWellFormed t.env.conf.pairs := by
    show PairsWellFormed t.conf.pairs
    rw [hp]; exact hw
  have cfg (hc' : t.conf.channels = s.conf.channels) (c : Ch) : (t.env.cfg c).WellFormed := by
    show (t.conf.channels[c]).WellFormed
    rw [hc']; exact hcfg c
  cases hd with
  | moves hm =>
    have hp := hm.pairs hk
    exact conv hp ((start hp).moves (Drive.FeedsSound.conf_mono hf hm.channels hm.budgets) (cfg hm.channels) (wf hp) hk
      hm.moves)
  | configured c x hs hconf hd hl =>
    have hp : t.conf.pairs = s.conf.pairs := by rw [hconf]
    have := start hp
    rw [← hd] at this
    exact conv hp this
  | lowered f budget hb hconf hd hl =>
    have hp : t.conf.pairs = s.conf.pairs := by rw [hconf]
    refine conv hp ?_
    rw [hd]
    exact (start hp).shedDown s.conf.budgets
      (Drive.FeedsSound.conf_mono hf (by show t.conf.channels = _; rw [hconf]) (fun _ => Nat.le_refl _)) f _
  | supplyLow hconf hl hd =>
    have hp : t.conf.pairs = s.conf.pairs := by rw [hconf]
    have hf' : s.drive.FeedsSound t.env.conf := Drive.FeedsSound.conf_mono hf (congrArg _ hconf)
      (fun f => Nat.le_of_eq (congrArg (fun x : Configuration => x.budgets[f]) hconf).symm)
    refine conv hp ?_
    rw [hd]
    exact (start hp).moves (k := .inner) hf' (cfg (congrArg _ hconf)) (wf hp) Drive.Scope.noConfusion hf'.setLow
  | powerOn valid hd =>
    have undriven (c : Ch) : t.drive.chans[c].state.pastTest2 = false := by
      rw [hd, startDrive_chans]
      have : startState t.conf.channels[c] = .disabled ∨ startState t.conf.channels[c] = .off := (startState_undriven _).2
      show (startState t.conf.channels[c]).pastTest2 = false
      rcases this with h | h <;> rw [h] <;> rfl
    refine ⟨fun p _ => ⟨fun hp => ?_, fun hp => ?_⟩, fun p hp => ?_, fun p _ => ?_⟩
    · exact absurd ((undriven _).symm.trans hp) Bool.false_ne_true
    · exact absurd ((undriven _).symm.trans hp) Bool.false_ne_true
    · rw [hd, startDrive_pairs]
    · rw [hd, startDrive_pairs]

theorem exec_pairsSound {i : Instr} {s t : State} (hc : s.ConfSound) (hf : s.FeedsSound) (h : s.PairsSound)
    (hx : exec i s = .next t) : t.PairsSound := by
  by_cases hk : scopeOf i = .pairs
  · obtain ⟨hcfg, _, hw, _⟩ := hc.inForce
    have hheld := (State.pairsSound_iff hw).1 h
    cases i with
    | setInterlock hd pair enabled a b =>
      cases hx
      obtain ⟨hw', h'⟩ := request_induct
        (P := fun u => PairsWellFormed u.conf.pairs ∧ Drive.PairsHeld u.env u.drive) (k := .setInterlock) (h := hd)
        (body := unlessStoring (setInterlockBody pair enabled a b)) (s := s) (fun _ _ h => h) ⟨hw, hheld⟩
        (unlessStoring_induct (P := fun u => PairsWellFormed u.conf.pairs ∧ Drive.PairsHeld u.env u.drive) ⟨hw, hheld⟩
          (fun _ => setInterlockBody_pairsHeld pair enabled a b hw hcfg hf hheld))
      exact (State.pairsSound_iff hw').2 h'
    | deadTimeExpiry p =>
      cases hx
      obtain ⟨hw', h'⟩ := event_induct
        (P := fun u => PairsWellFormed u.conf.pairs ∧ Drive.PairsHeld u.env u.drive) (f := deadTimeExpiry p) (s := s)
        ⟨hw, hheld⟩ (fun _ => ⟨by unfold deadTimeExpiry; split <;> exact hw, deadTimeExpiry_pairsHeld hw hcfg hf hheld p⟩)
      exact (State.pairsSound_iff hw').2 h'
    | _ => cases hk
  · exact (exec_driveChange hx).pairsSound hk hc hf h

theorem State.ConfSound.pending_rest {s : State} (h : s.ConfSound) {i : Instr} {rest : List Instr}
    (hp : s.pending = i :: rest) : ({ s with pending := rest } : State).ConfSound ∧ i.wellFormed = true := by
  obtain ⟨h1, h2, h3, h4⟩ := h
  rw [hp] at h4
  exact ⟨⟨h1, h2, h3, fun j hj => h4 j (List.mem_cons_of_mem _ hj)⟩, h4 i List.mem_cons_self⟩

/-- Settles O38: kept move by move; the arbiter's grant and SET INTERLOCK make a member past the interlock test the
holder. -/
theorem pairMembersNeverBothDriven : Obligations.PairMembersNeverBothDriven := by
  unfold Obligations.PairMembersNeverBothDriven
  refine ⟨fun s t hc hf h hs => ?_, fun s p h hen hd => ?_⟩
  · rcases step_cases hs with ⟨_, rfl⟩ | ⟨i, rest, hp, hx⟩
    · exact (State.DriveChange.moves (s.tick_moves (k := .inner))).pairsSound Drive.Scope.noConfusion hc hf h
    · exact exec_pairsSound (hc.pending_rest hp).1 (s := { s with pending := rest }) hf ⟨h.holders, h.deadTime, h.disabled⟩ hx
  · obtain ⟨ha, hb⟩ := h.holders p hen
    have := (ha (ChanState.pastTest2_of_driven hd.1)).symm.trans (hb (ChanState.pastTest2_of_driven hd.2))
    cases this

end Sys2Proof.Machine
end


section
/-!
SUPPORT. What a command can do to the state as a whole (`exec_effect`): which parts of the state it writes, said once,
with what each such write satisfies. A law over records, lines, settings or the store is followed over these cases.
-/

namespace Sys2Proof.Machine

/-- A record with its timer set anew, as it was otherwise (R14, R18, R20). -/
inductive Record.Retimed : Record → Record → Prop where
  | refl (r : Record) : Retimed r r
  | live (d : Demand) (old time : Option Nat) (h : old = none → d.hold = 0 → time = none) :
      Retimed (.live d old) (.live d time)
  | lapsed (d : Demand) (old g : Nat) : Retimed (.lapsed d old) (.lapsed d g)

/-- What a command does to the state, the link's own part aside; `ok` says that the part can be given the command. -/
inductive State.Effect (ok : Prop) (k : Drive.Scope) (s : State) : State → Prop where
  /-- Nothing. -/
  | same : Effect ok k s s
  /-- The drive side alone. -/
  | drive (d : Drive) (hk : k ≠ .handed) : Effect ok k s { s with drive := d }
  /-- A sample completion. -/
  | sensed (c : Ch) (sense : Nat) (d : Drive) (hk : k ≠ .handed) :
      Effect ok k s { s with monitors := s.monitors.set c (takeSample s c sense).monitor, drive := d }
  /-- The supply side. -/
  | supplied (x : Supply) (d : Drive) (hk : k ≠ .handed) : Effect ok k s { s with supply := x, drive := d }
  /-- Settings other than the bindings, with no store write in flight. -/
  | configured (x : Configuration) (d : Drive) (hk : k ≠ .handed) (hs : s.store.writing = none) (hb : x.bindings = s.conf.bindings)
      (hw : s.conf.WellFormed → x.WellFormed) : Effect ok k s { s with conf := x, drive := d }
  /-- Timers of records. -/
  | retimed (r : Vector Record 64) (h : ∀ n : Handle, Record.Retimed s.records[n] r[n]) :
      Effect ok k s { s with records := r }
  /-- PLACE. -/
  | placed (n : Handle) (d : Demand) (time : Option Nat) (h60 : n.val < 60) (ho : d.owner.val ≤ 10)
      (hf : s.records[n] = .free) (hroom : requesterCount s.lists[d.channel] < 6) :
      Effect ok k s (((s.makeLive n d time).raiseHeld d.owner).handOver [d.channel])
  /-- A LAPSED record is revived. -/
  | revived (n : Handle) (d : Demand) (time : Option Nat) (g : Nat) (h60 : n.val < 60)
      (hr : s.records[n] = .lapsed d g) (hroom : requesterCount s.lists[d.channel] < 6) :
      Effect ok k s ((s.makeLive n d time).handOver [d.channel])
  /-- AMEND. -/
  | amended (n : Handle) (d d' : Demand) (old time : Option Nat) (h60 : n.val < 60) (hr : s.records[n] = .live d old)
      (hc : d'.channel = d.channel) (ho : d'.owner = d.owner) :
      Effect ok k s (((s.removeFrom d.channel n).makeLive n d' time).handOver [d.channel])
  /-- One record is freed, no line's LIVE one. -/
  | freed (n : Handle) (h : n.val < 60 ∨ ∃ d g, s.records[n] = .lapsed d g) :
      Effect ok k s ((s.freeRecord n).handOver s.records[n].liveChannel)
  /-- A hold expires. -/
  | lapsed (n : Handle) (d : Demand) (ms g : Nat) (dr : Drive)
      (hd : dr.chans = s.drive.chans) (hr : s.records[n] = .live d (some ms)) :
      Effect ok k s (({ (s.putRecord n (.lapsed d g)).removeFrom d.channel n with drive := dr } : State).handOver [d.channel])
  /-- RETIRE ALL. -/
  | retiredAll (m : SlotNo) (hm : m.val ≤ 10) :
      Effect ok k s (({ s.freeAll (fun h => s.records[h].ownedBy m) with held := s.held.set m 0 } : State).handOver allChans)
  /-- RESTART. -/
  | restarted : Effect ok k s (({ s.freeAll requesterHandle with
      held := heldAfterRestart s.held, drive := s.drive.restartUnits } : State).handOver allChans)
  /-- A line's reading that changes no record. -/
  | filtered (n : LineNo) (l : Line) (h : l.debounced = s.lines[n].debounced ∨ s.conf.bindings[n].enabled = false) :
      Effect ok k s { s with lines := s.lines.set n l }
  /-- A line's reading that its record follows. -/
  | lineTurned (n : LineNo) (l : Line) : Effect ok k s (({ s with lines := s.lines.set n l } : State).settleLine n)
  /-- BIND LINE. -/
  | bound (n : LineNo) (b : Binding) (hs : s.store.writing = none)
      (hw : s.conf.WellFormed → ({ s.conf with bindings := s.conf.bindings.set n b } : Configuration).WellFormed) :
      Effect ok k s (({ s with conf := { s.conf with bindings := s.conf.bindings.set n b } } : State).settleLine n)
  /-- STORE CONFIGURATION. -/
  | storing (hs : s.store.writing = none) : Effect ok k s (storeBody s).1
  /-- The end of a store write. -/
  | stored (x : Configuration) (hk : k ≠ .handed) (hx : ok → x.WellFormed) : Effect ok k s (storeWriteCompletion x s)
  /-- The start of a PWM period. -/
  | pwm (hk : k ≠ .handed) : Effect ok k s (pwmPeriodStart s)

/-! ### The settings stay in range -/

section
variable {ok : Prop} {k : Drive.Scope} {s : State}

theorem withRequester_wellFormed {x : Configuration} (h : x.WellFormed) (n : SlotNo) {r : Requester} (hq : r.quota ≤ 60) :
    (withRequester x n r).WellFormed := by
  obtain ⟨hch, ⟨h0, hsl, hrest⟩, hp, hb⟩ := h
  unfold withRequester
  split
  · exact ⟨hch, ⟨hq, hsl, hrest⟩, hp, hb⟩
  · split
    · refine ⟨hch, ⟨h0, fun i => ?_, hrest⟩, hp, hb⟩
      rw [Fin.getElem_fin, Vector.getElem_set]
      split
      · exact hq
      · exact hsl i
    · exact ⟨hch, ⟨h0, hsl, hrest⟩, hp, hb⟩

theorem withRequester_bindings (x : Configuration) (n : SlotNo) (r : Requester) :
    (withRequester x n r).bindings = x.bindings := by
  unfold withRequester
  split
  · rfl
  · split <;> rfl

theorem limitsOf_wellFormed {old cfg : ChannelConfig} {p : LimitsParams} (h : old.WellFormed)
    (hc : limitsOf old p = some cfg) : cfg.WellFormed := by
  unfold limitsOf at hc
  split at hc
  · cases hc
  · split at hc
    · rename_i hr
      obtain ⟨h1, h2, h3, h4, h5, h6⟩ := hr
      obtain ⟨_, _, _, _, _, _, h7, h8, h9, h10, h11⟩ := h
      cases hc
      exact ⟨h1, h2, h3, ⟨h4.1, h5.1, h5.2⟩, h6, Nat.le_of_lt_succ p.inrushWindow.isLt, h7, h8, h9, h10, h11⟩
    · cases hc

theorem profileOf_wellFormed {old cfg : ChannelConfig} {p : ProfileParams} (h : old.WellFormed)
    (hc : profileOf old p = some cfg) : cfg.WellFormed := by
  unfold profileOf at hc
  split at hc
  · cases hc
  · split at hc
    · rename_i hr
      obtain ⟨h7, h8, h9, h10, h11⟩ := hr
      obtain ⟨h1, h2, h3, h4, h5, h6, _⟩ := h
      cases hc
      exact ⟨h1, h2, h3, h4, h5, h6, h7, h8, ⟨h9, Nat.le_of_lt_succ p.stallTime.isLt⟩, h10, h11⟩
    · cases hc

theorem exactLevel_valid {p : LevelParam} {l : Level} (h : exactLevel p = some l) : l.Valid := by
  unfold exactLevel at h
  split at h
  · cases h; exact Level.noConfusion
  split at h
  · cases h; exact Level.noConfusion
  split at h
  · cases h; exact Level.noConfusion
  split at h
  · split at h
    · split at h
      · cases h
      · rename_i hn
        cases h
        intro he
        exact hn (congrArg Fin.val (Level.dim.inj he))
    · cases h
  · cases h

/-! ### Requests, one block after the other -/

theorem setRequesterBody_effect (target enabled quota ceiling : Byte) (hs : s.store.writing = none) (hk : k ≠ .handed) :
    State.Effect ok k s (setRequesterBody target enabled quota ceiling s).1 := by
  unfold setRequesterBody
  split
  · exact .same
  · split
    · exact .same
    rename_i hq
    have hq : quota.toNat ≤ 60 := Nat.le_of_not_lt hq
    split
    · exact .configured _ s.drive hk hs (withRequester_bindings ..) (fun h => withRequester_wellFormed h _ hq)
    split
    · exact .same
    split
    · exact .same
    · exact .configured _ s.drive hk hs (withRequester_bindings ..) (fun h => withRequester_wellFormed h _ hq)

theorem addQuotaBody_effect (target n : Byte) (hs : s.store.writing = none) (hk : k ≠ .handed) :
    State.Effect ok k s (addQuotaBody target n s).1 := by
  unfold addQuotaBody
  split
  · exact .same
  · split
    · exact .same
    · exact .configured _ s.drive hk hs (withRequester_bindings ..)
        (fun h => withRequester_wellFormed h _ (Nat.min_le_left _ _))

theorem mapLoadBody_effect (load enabled channel : Byte) (permitted : Word16) (hs : s.store.writing = none) (hk : k ≠ .handed) :
    State.Effect ok k s (mapLoadBody load enabled channel permitted s).1 := by
  unfold mapLoadBody
  split
  · exact .same
  · rename_i l _
    split
    · split
      · exact .same
      split
      · exact .same
      · rename_i hline
        refine .configured _ s.drive hk hs rfl fun ⟨hch, hnum, hp, hb⟩ => ⟨hch, hnum, hp, fun n => ⟨(hb n).1, fun hen => ?_⟩⟩
        have hne : s.conf.bindings[n].load ≠ l := fun h =>
          hline (List.any_eq_true.2 ⟨n, mem_allLines n, State.lineNames_iff.2 ⟨hen, h⟩⟩)
        show (s.conf.loads.set l _)[s.conf.bindings[n].load].enabled = true
        rw [Fin.getElem_fin, Vector.getElem_set_ne _ _ (fun h => hne (Fin.ext h.symm))]
        exact (hb n).2 hen
    · exact .same

theorem configureBody_effect (channel : Byte) {fields : ChannelConfig → Option ChannelConfig}
    (hf : ∀ old cfg, old.WellFormed → fields old = some cfg → cfg.WellFormed) (hs : s.store.writing = none) (hk : k ≠ .handed) :
    State.Effect ok k s (configureBody channel fields s).1 := by
  unfold configureBody
  split
  · exact .same
  · split
    · exact .same
    split
    · exact .same
    · rename_i c _ _ _ cfg hcfg
      refine .configured _ s.drive hk hs rfl fun ⟨hch, hrest⟩ => ⟨fun c' => ?_, hrest⟩
      rw [Fin.getElem_fin, Vector.getElem_set]
      split
      · exact hf _ _ (hch c) hcfg
      · exact hch c'

theorem setInterlockBody_effect (pair enabled a b : Byte) (hs : s.store.writing = none) (hk : k ≠ .handed) :
    State.Effect ok k s (setInterlockBody pair enabled a b s).1 := by
  unfold setInterlockBody
  split
  · split
    · exact .same
    rename_i hab
    split
    · exact .same
    rename_i ho
    split
    · exact .same
    · exact .configured _ _ hk hs rfl fun ⟨hch, hnum, hp, hb⟩ => ⟨hch, hnum, PairsWellFormed.set hp _ hab ho, hb⟩
  · exact .same

theorem setBudgetBody_effect (feed : Byte) (budget : Word16) (hs : s.store.writing = none) (hk : k ≠ .handed) :
    State.Effect ok k s (setBudgetBody feed budget s).1 := by
  unfold setBudgetBody
  split
  · exact .same
  · split
    · exact .same
    rename_i hmax
    refine .configured _ _ hk hs rfl fun ⟨hch, ⟨h0, hsl, hbud, hrest⟩, hp, hb⟩ => ⟨hch, ⟨h0, hsl, fun f => ?_, hrest⟩, hp, hb⟩
    rw [Fin.getElem_fin, Vector.getElem_set]
    split
    · exact Nat.le_of_not_lt hmax
    · exact hbud f

theorem setSupplyLimitsBody_effect (uv recovery : Word16) (hs : s.store.writing = none) (hk : k ≠ .handed) :
    State.Effect ok k s (setSupplyLimitsBody uv recovery s).1 := by
  unfold setSupplyLimitsBody
  split
  · exact .same
  rename_i h1
  split
  · exact .same
  rename_i h2
  refine .configured _ s.drive hk hs rfl fun ⟨hch, ⟨h0, hsl, hbud, hper, _⟩, hp, hb⟩ => ⟨hch, ⟨h0, hsl, hbud, hper, ?_⟩, hp, hb⟩
  dsimp only
  omega

theorem setFlashPeriodBody_effect (period : Byte) (hs : s.store.writing = none) (hk : k ≠ .handed) :
    State.Effect ok k s (setFlashPeriodBody period s).1 := by
  unfold setFlashPeriodBody
  split
  · exact .same
  rename_i h1
  refine .configured _ s.drive hk hs rfl fun ⟨hch, ⟨h0, hsl, hbud, _, hrest⟩, hp, hb⟩ => ⟨hch, ⟨h0, hsl, hbud, ?_, hrest⟩, hp, hb⟩
  dsimp only
  omega

theorem bindLineBody_effect (line enabled polarity load : Byte) (level : LevelParam) (cls : Byte)
    (hs : s.store.writing = none) : State.Effect ok k s (bindLineBody line enabled polarity load level cls s).1 := by
  unfold bindLineBody
  split
  · rename_i n pol _ _
    split
    · exact .same
    · rename_i b hb
      refine .bound n b hs fun ⟨hch, hnum, hp, hbind⟩ => ⟨hch, hnum, hp, fun m => ?_⟩
      have hold := hbind n
      have hnew : b.level.Valid ∧ (b.enabled = true → s.conf.loads[b.load].enabled = true) := by
        unfold bindingOf at hb
        split at hb
        · split at hb
          · cases hb
          · split at hb
            · cases hb
            rename_i hen
            split at hb
            · rename_i hl _
              split at hb
              · cases hb
              · cases hb
                exact ⟨exactLevel_valid hl, fun _ => Bool.of_not_eq_false hen⟩
            · cases hb
        · cases hb
          exact ⟨hold.1, fun h => absurd h Bool.false_ne_true⟩
      show ((s.conf.bindings.set n b)[m]).level.Valid ∧
        (((s.conf.bindings.set n b)[m]).enabled = true → s.conf.loads[((s.conf.bindings.set n b)[m]).load].enabled = true)
      have hat : (s.conf.bindings.set n b)[m] = if m = n then b else s.conf.bindings[m] := by
        rw [Fin.getElem_fin, Vector.getElem_set]
        by_cases h : m = n
        · rw [if_pos h, if_pos (by rw [h])]
        · rw [if_neg h, if_neg (fun e => h (Fin.ext e.symm))]; rfl
      have law := congrArg (fun x : Binding =>
        x.level.Valid ∧ (x.enabled = true → s.conf.loads[x.load].enabled = true)) hat
      refine law.mpr ?_
      by_cases h : m = n
      · rw [if_pos h]; exact hnew
      · rw [if_neg h]; exact hbind m
  · exact .same

theorem actOn_ok {slot : SlotNo} {handle : Byte} {n : Handle} {d : Demand} (h : actOn slot handle s = .ok (n, d)) :
    n.val < 60 ∧ ((∃ t, s.records[n] = .live d t) ∨ ∃ g, s.records[n] = .lapsed d g) := by
  unfold actOn at h
  split at h
  · cases h
  · split at h
    · cases h
    rename_i h60
    split at h
    · cases h
    all_goals
      rename_i hr
      split at h
      · cases h
      · cases h
        first
        | exact ⟨Nat.lt_of_not_le h60, .inl ⟨_, hr⟩⟩
        | exact ⟨Nat.lt_of_not_le h60, .inr ⟨_, hr⟩⟩

theorem lowestFree_some {n : Handle} (h : s.lowestFree = some n) : n.val < 60 ∧ s.records[n] = .free := by
  have := List.find?_some h
  rw [Bool.and_eq_true, decide_eq_true_eq] at this
  refine ⟨this.1, ?_⟩
  have hfree := this.2
  unfold Record.isFree at hfree
  split at hfree
  · assumption
  · cases hfree
  · cases hfree

theorem placeBody_effect {slot : SlotNo} (hslot : slot.val ≤ 10) (load : Byte) (level : LevelParam) (cls : Byte)
    (hold : Word16) : State.Effect ok k s (placeBody slot load level cls hold s).1 := by
  unfold placeBody
  split
  · exact .same
  · dsimp only
    split
    · exact .same
    split
    · exact .same
    split
    · exact .same
    split
    · exact .same
    split
    · exact .same
    rename_i n hn
    split
    · exact .same
    rename_i hroom
    obtain ⟨h60, hfree⟩ := lowestFree_some hn
    exact .placed n _ _ h60 hslot hfree (Nat.lt_of_not_le hroom)

theorem Record.Retimed.set {r : Record} {n : Handle} (h : Record.Retimed s.records[n] r) (m : Handle) :
    Record.Retimed s.records[m] (s.records.set n r)[m] := by
  rw [Fin.getElem_fin, Fin.getElem_fin, Vector.getElem_set]
  split
  · rename_i he
    have : n = m := Fin.ext he
    subst this
    exact h
  · exact .refl _

theorem renewBody_effect (slot : SlotNo) (handle : Byte) : State.Effect ok k s (renewBody slot handle s).1 := by
  unfold renewBody
  split
  · exact .same
  · rename_i n d ha
    obtain ⟨h60, hr⟩ := actOn_ok ha
    split
    · rename_i hl
      split
      · exact .same
      · rename_i hroom
        rcases hr with ⟨t, hr⟩ | ⟨g, hr⟩
        · rw [hr] at hl; cases hl
        · exact .revived n d _ g h60 hr (Nat.lt_of_not_le hroom)
    · rename_i hl
      rcases hr with ⟨t, hr⟩ | ⟨g, hr⟩
      · refine .retimed _ (Record.Retimed.set ?_)
        rw [hr]
        exact .live d t _ fun _ h0 => by rw [h0]; rfl
      · rw [hr] at hl; cases hl
    · rename_i hl
      rcases hr with ⟨t, hr⟩ | ⟨g, hr⟩ <;> rw [hr] at hl <;> cases hl

theorem amendBody_effect (slot : SlotNo) (handle : Byte) (level : LevelParam) (cls : Byte) (hold : Word16) :
    State.Effect ok k s (amendBody slot handle level cls hold s).1 := by
  unfold amendBody
  split
  · exact .same
  · rename_i n d ha
    obtain ⟨h60, hr⟩ := actOn_ok ha
    split
    · exact .same
    rename_i hl
    dsimp only
    split
    · exact .same
    · rcases hr with ⟨t, hr⟩ | ⟨g, hr⟩
      · exact .amended n d _ t _ h60 hr rfl rfl
      · rw [hr] at hl; exact absurd rfl hl

theorem retireBody_effect (slot : SlotNo) (handle : Byte) : State.Effect ok k s (retireBody slot handle s).1 := by
  unfold retireBody
  split
  · exact .same
  · exact .freed _ (.inl (actOn_ok ‹_›).1)

theorem targetOf_ok {slot m : SlotNo} {target : Byte} (h : targetOf slot target = .ok m) : m.val ≤ 10 := by
  unfold targetOf at h
  split at h
  · cases h
  · split at h
    · cases h
    rename_i h11
    split at h
    · cases h
    · cases h
      have := m.isLt
      omega

theorem renewAllBody_effect (slot : SlotNo) (target : Byte) : State.Effect ok k s (renewAllBody slot target s).1 := by
  unfold renewAllBody
  split
  · exact .same
  · refine .retimed _ fun n => ?_
    rw [Fin.getElem_fin, Fin.getElem_fin, Vector.getElem_ofFn]
    show Record.Retimed _ (s.records[n.val].renewFor _)
    generalize s.records[n.val] = r
    cases r with
    | free => exact .refl _
    | live d t =>
      refine .live d t _ fun ht h0 => ?_
      rw [ht, h0]
      exact ite_self none
    | lapsed d g => exact .refl _

theorem retireAllBody_effect (slot : SlotNo) (target : Byte) : State.Effect ok k s (retireAllBody slot target s).1 := by
  unfold retireAllBody
  split
  · exact .same
  · exact .retiredAll _ (targetOf_ok ‹_›)

theorem restartBody_effect : State.Effect ok k s (restartBody s).1 := .restarted

theorem lockBody_effect (channel : Byte) (hk : k ≠ .handed) : State.Effect ok k s (lockBody channel s).1 := by
  unfold lockBody
  split
  · exact .same
  · split
    · exact .same
    · exact .drive _ hk

theorem unlockBody_effect (channel : Byte) (hk : k ≠ .handed) : State.Effect ok k s (unlockBody channel s).1 := by
  unfold unlockBody
  split
  · exact .same
  · split
    · exact .same
    split
    · exact .same
    · exact .drive _ hk

theorem clearFaultBody_effect (channel : Byte) (hk : k ≠ .handed) : State.Effect ok k s (clearFaultBody channel s).1 := by
  unfold clearFaultBody
  split
  · exact .same
  · split
    · exact .same
    · exact .drive _ hk

theorem checkOutputsBody_effect (selection : Word16) (hk : k ≠ .handed) : State.Effect ok k s (checkOutputsBody selection s).1 := by
  unfold checkOutputsBody
  split
  · exact .same
  · split
    · exact .same
    · exact .drive _ hk

/-! ### Events -/

theorem State.Effect.ite {p : Prop} [Decidable p] {t u : State} (ht : p → State.Effect ok k s t) (hu : ¬ p → State.Effect ok k s u) :
    State.Effect ok k s (if p then t else u) := by
  split
  · exact ht ‹_›
  · exact hu ‹_›

/-- An event that changes the drive side where it is due. -/
theorem State.Effect.driveIf {p : Prop} [Decidable p] (d : Drive) (hk : k ≠ .handed) :
    State.Effect ok k s (if p then { s with drive := d } else s) := .ite (fun _ => .drive d hk) (fun _ => .same)

theorem holdExpiry_effect (h : Handle) : State.Effect ok k s (holdExpiry h s) := by
  unfold holdExpiry
  split
  · rename_i hr
    exact .ite (fun _ => .lapsed h _ _ _ _ rfl hr) (fun _ => .same)
  all_goals exact .same

theorem graceExpiry_effect (h : Handle) : State.Effect ok k s (graceExpiry h s) := by
  unfold graceExpiry
  split
  · rename_i d ms hr
    refine .ite (fun _ => ?_) (fun _ => .same)
    have := State.Effect.freed (ok := ok) (k := k) (s := s) h (.inr ⟨_, _, hr⟩)
    rw [hr] at this
    exact this
  all_goals exact .same

theorem supplyReading_effect (sense : Nat) (hk : k ≠ .handed) : State.Effect ok k s (supplyReading sense s) := by
  unfold supplyReading
  dsimp only
  refine .ite (fun _ => .ite (fun _ => .supplied _ s.drive hk) fun _ => .ite (fun _ => .supplied _ s.drive hk) fun _ => ?_)
    (fun _ => .ite (fun _ => ?_) fun _ => .supplied _ s.drive hk)
  · exact .supplied _ _ hk
  · exact .supplied _ _ hk

theorem lineReading_effect (n : LineNo) (high : Bool) : State.Effect ok k s (lineReading n high s) := by
  unfold lineReading
  dsimp only
  refine .ite (fun _ => .filtered n _ (.inl rfl)) fun _ => .ite (fun _ => .filtered n _ (.inl rfl)) fun _ => ?_
  refine .ite (fun _ => .lineTurned n _) fun h => .filtered n _ (.inr (Bool.eq_false_iff.2 h))

theorem onPhaseStart_effect (hk : k ≠ .handed) : State.Effect ok k s (onPhaseStart s) := by
  unfold onPhaseStart
  split
  · exact .same
  · exact .driveIf _ hk

theorem onPhaseExpiry_effect (hk : k ≠ .handed) : State.Effect ok k s (onPhaseExpiry s) := by
  unfold onPhaseExpiry
  split
  · exact .same
  · exact .driveIf _ hk

theorem unbiasedStepEnd_effect (sense : Nat) (hk : k ≠ .handed) : State.Effect ok k s (unbiasedStepEnd sense s) := by
  unfold unbiasedStepEnd
  split
  · exact .same
  · exact .ite (fun _ => .ite (fun _ => .drive _ hk) fun _ => .drive _ hk) fun _ => .same

theorem biasedStepEnd_effect (sense : Nat) (hk : k ≠ .handed) : State.Effect ok k s (biasedStepEnd sense s) := by
  unfold biasedStepEnd
  split
  · exact .same
  · exact .driveIf _ hk

/-! ### The link's part, and every command -/

/-- What a command does beside its effect: to the link, or in place of it. -/
inductive State.Ends (ok : Prop) (k : Drive.Scope) (s : State) : State → Prop where
  /-- The effect alone. -/
  | quiet {u : State} (h : State.Effect ok k s u) : Ends ok k s u
  /-- A frame ends with its response. -/
  | answers {u : State} (h : State.Effect ok k s u) (kind slotTag : Byte) (a : Answer) : Ends ok k s (u.endFrame (respond kind slotTag a))
  /-- A frame ends that is not taken. -/
  | rises : Ends ok k s s.csnRise
  /-- CSN falls. -/
  | falls : Ends ok k s { s with link := { s.link with csn := if s.inReset then .lowUncounted else .frame s.link.response .start } }
  /-- Reset. -/
  | resets : Ends ok k s (resetAssert s)
  /-- Power-on. -/
  | starts : Ends ok k s (powerOn s)

theorem slotOf_of_passed {kind : Kind} {h : Header} (hl : linkRefusal s kind h = none) : (slotOf h).val ≤ 10 := by
  unfold linkRefusal at hl
  split at hl
  · cases hl
  · rename_i h11
    show h.slot.toNat % 12 ≤ 10
    omega

theorem request_ends {kind : Kind} {h : Header} {body : State → State × Answer}
    (hb : linkRefusal s kind h = none → State.Effect ok k s (body s).1) : State.Ends ok k s (request kind h body s) := by
  rcases request_cases kind h body s with e | ⟨status, _, e⟩ | ⟨hl, e⟩
  · rw [e]; exact .rises
  · rw [e, ← respond_refuse]; exact .answers .same _ _ _
  · rw [e]; exact .answers (hb hl) _ _ _

theorem request_unlessStoring_ends {kind : Kind} {h : Header} {body : State → State × Answer}
    (hb : s.store.writing = none → State.Effect ok k s (body s).1) : State.Ends ok k s (request kind h (unlessStoring body) s) :=
  request_ends fun _ => unlessStoring_induct (P := State.Effect ok k s) .same hb

theorem event_ends {f : State → State} (hf : State.Effect ok k s (f s)) : State.Ends ok k s (event f s) :=
  .quiet (event_induct (P := State.Effect ok k s) .same fun _ => hf)

/-- What every command does. -/
theorem exec_ends {i : Instr} {t : State} (h : exec i s = .next t) : State.Ends (i.wellFormed = true) (scopeOf i) s t := by
  cases i with
  | poll | readNotices | describe | lookup | readLapsed | readLoad | list | readRequester | channelStatus
  | readInterlock | feedStatus | readLine | checkResults => cases h; exact request_ends fun _ => .same
  | clearNotices => cases h; exact request_ends fun _ => .drive _ nofun
  | setNoticeEnable => cases h; exact request_unlessStoring_ends fun hs => .configured _ s.drive nofun hs rfl id
  | storeConfiguration => cases h; exact request_unlessStoring_ends fun hs => .storing hs
  | place => cases h; exact request_ends fun hl => placeBody_effect (slotOf_of_passed hl) _ _ _ _
  | renew => cases h; exact request_ends fun _ => renewBody_effect _ _
  | amend => cases h; exact request_ends fun _ => amendBody_effect _ _ _ _ _
  | retire => cases h; exact request_ends fun _ => retireBody_effect _ _
  | renewAll => cases h; exact request_ends fun _ => renewAllBody_effect _ _
  | retireAll => cases h; exact request_ends fun _ => retireAllBody_effect _ _
  | mapLoad => cases h; exact request_unlessStoring_ends fun hs => mapLoadBody_effect _ _ _ _ hs nofun
  | setRequester => cases h; exact request_unlessStoring_ends fun hs => setRequesterBody_effect _ _ _ _ hs nofun
  | addQuota => cases h; exact request_unlessStoring_ends fun hs => addQuotaBody_effect _ _ hs nofun
  | setChannelLimits =>
    cases h; exact request_unlessStoring_ends fun hs => configureBody_effect _ (fun _ _ => limitsOf_wellFormed) hs nofun
  | setChannelProfile =>
    cases h; exact request_unlessStoring_ends fun hs => configureBody_effect _ (fun _ _ => profileOf_wellFormed) hs nofun
  | lock => cases h; exact request_ends fun _ => lockBody_effect _ nofun
  | unlock => cases h; exact request_ends fun _ => unlockBody_effect _ nofun
  | clearFault => cases h; exact request_ends fun _ => clearFaultBody_effect _ nofun
  | setInterlock => cases h; exact request_unlessStoring_ends fun hs => setInterlockBody_effect _ _ _ _ hs nofun
  | setBudget => cases h; exact request_unlessStoring_ends fun hs => setBudgetBody_effect _ _ hs nofun
  | setSupplyLimits => cases h; exact request_unlessStoring_ends fun hs => setSupplyLimitsBody_effect _ _ hs nofun
  | setFlashPeriod => cases h; exact request_unlessStoring_ends fun hs => setFlashPeriodBody_effect _ hs nofun
  | bindLine => cases h; exact request_unlessStoring_ends fun hs => bindLineBody_effect _ _ _ _ _ _ hs
  | checkOutputs => cases h; exact request_ends fun _ => checkOutputsBody_effect _ nofun
  | restart => cases h; exact request_unlessStoring_ends fun _ => restartBody_effect
  | unknownKindFrame =>
    cases h
    split
    · exact .quiet .same
    split
    · exact .answers .same _ _ _
    · exact .rises
  | frameDiscard =>
    cases h
    split
    · exact State.Ends.answers (k := .inner) (.drive (s.drive.setKind .link) nofun) _ _ _
    · exact .rises
  | holdExpiry => cases h; exact event_ends (holdExpiry_effect _)
  | graceExpiry => cases h; exact event_ends (graceExpiry_effect _)
  | deadTimeExpiry => cases h; exact event_ends (.driveIf _ nofun)
  | inrushTimerExpiry => cases h; exact event_ends (.driveIf _ nofun)
  | retryTimerExpiry => cases h; exact event_ends (.driveIf _ nofun)
  | overloadRetry => cases h; exact event_ends (.driveIf _ nofun)
  | coolingFlagClear => cases h; exact event_ends (.driveIf _ nofun)
  | cleanRunExpiry => cases h; exact event_ends (.driveIf _ nofun)
  | sampleCompletion => cases h; exact event_ends (.sensed _ _ _ nofun)
  | stallTimerExpiry => cases h; exact event_ends (.driveIf _ nofun)
  | openFlagSet => cases h; exact event_ends (.driveIf _ nofun)
  | openFlagClear => cases h; exact event_ends (.driveIf _ nofun)
  | pwmPeriodStart => cases h; exact event_ends (.pwm nofun)
  | supplyReading => cases h; exact event_ends (supplyReading_effect _ nofun)
  | supplyRecovery => cases h; exact event_ends (.ite (fun _ => supplyReading_effect _ nofun) fun _ => .same)
  | onPhaseStart => cases h; exact event_ends (onPhaseStart_effect nofun)
  | onPhaseExpiry => cases h; exact event_ends (onPhaseExpiry_effect nofun)
  | lineReading => cases h; exact event_ends (lineReading_effect _ _)
  | debounceChange => cases h; exact event_ends (.ite (fun _ => lineReading_effect _ _) fun _ => .same)
  | unbiasedStepEnd => cases h; exact event_ends (unbiasedStepEnd_effect _ nofun)
  | biasedStepEnd => cases h; exact event_ends (biasedStepEnd_effect _ nofun)
  | storeWriteCompletion =>
    cases h; exact event_ends (.stored _ nofun fun hx => (Configuration.isWellFormed_iff _).1 hx)
  | powerOn => cases h; exact .starts
  | resetAssert => cases h; exact .resets
  | csnFall => cases h; exact .falls

end

end Sys2Proof.Machine
end


section
/-!
What every command keeps of the parts it does not write: the queue (O1, O2), full responses (O11), settings in range and
a store that agrees with itself (O60).
-/

namespace Sys2Proof.Machine

section
variable {ok : Prop} {k : Drive.Scope} {s t u : State}

theorem State.settleLine_eq (s : State) (n : LineNo) :
    ∃ r m l d, s.settleLine n = { s with records := r, held := m, lists := l, drive := d } := by
  obtain ⟨r, m, l, h⟩ := s.refreshLine_eq n
  unfold State.settleLine
  dsimp only
  rw [h]
  exact ⟨_, _, _, _, rfl⟩

theorem State.freeAll_eq (s : State) (p : Handle → Bool) : ∃ r l, s.freeAll p = { s with records := r, lists := l } :=
  ⟨_, _, rfl⟩

theorem storeWriteCompletion_eq (x : Configuration) (s : State) :
    ∃ y d, storeWriteCompletion x s = { s with store := y, drive := d } := by
  unfold storeWriteCompletion
  split <;> exact ⟨_, _, rfl⟩

/-- No effect touches the queue, the link or the reset pin. -/
theorem State.Effect.keeps (h : State.Effect ok k s t) :
    t.pending = s.pending ∧ t.link = s.link ∧ t.inReset = s.inReset := by
  cases h with
  | freed n _ =>
    obtain ⟨_, _, _, e⟩ := s.freeRecord_eq n
    rw [e]
    exact ⟨rfl, rfl, rfl⟩
  | lineTurned n l =>
    obtain ⟨_, _, _, _, e⟩ := ({ s with lines := s.lines.set n l } : State).settleLine_eq n
    rw [e]
    exact ⟨rfl, rfl, rfl⟩
  | bound n b =>
    obtain ⟨_, _, _, _, e⟩ :=
      ({ s with conf := { s.conf with bindings := s.conf.bindings.set n b } } : State).settleLine_eq n
    rw [e]
    exact ⟨rfl, rfl, rfl⟩
  | stored x =>
    obtain ⟨_, _, e⟩ := storeWriteCompletion_eq x s
    rw [e]
    exact ⟨rfl, rfl, rfl⟩
  | retiredAll m =>
    obtain ⟨_, _, e⟩ := s.freeAll_eq (fun h => s.records[h].ownedBy m)
    rw [e]
    exact ⟨rfl, rfl, rfl⟩
  | restarted =>
    obtain ⟨_, _, e⟩ := s.freeAll_eq requesterHandle
    rw [e]
    exact ⟨rfl, rfl, rfl⟩
  | _ => exact ⟨rfl, rfl, rfl⟩

@[simp] theorem State.cutStore_pending (s : State) : s.cutStore.pending = s.pending := by
  rw [s.cutStore_eq]

@[simp] theorem State.cutStore_link (s : State) : s.cutStore.link = s.link := by
  rw [s.cutStore_eq]

theorem State.Ends.pending (h : State.Ends ok k s t) : t.pending = s.pending := by
  cases h with
  | quiet h => exact h.keeps.1
  | answers h => exact h.keeps.1
  | rises | falls => rfl
  | resets => exact s.cutStore_pending
  | starts => exact s.cutStore_pending

/-! ### Responses (R147, R152) -/

theorem respond_full (k slotTag : Byte) (a : Answer) : (respond k slotTag a).Full := fillTo_length 15 a.items

/-- The response pending or being shifted out is a full one, or none. -/
def Link.Full (l : Link) : Prop := l.response.Full ∧ ∀ r a, l.csn = .frame r a → r.Full

theorem Csn.uncount_frame {x : Csn} {r : Response} {a : Assembler} : x.uncount ≠ .frame r a := by
  cases x <;> exact Csn.noConfusion

theorem State.Ends.full (h : State.Ends ok k s t) (hl : s.link.Full) : t.link.Full := by
  obtain ⟨hr, hf⟩ := hl
  cases h with
  | quiet h => rw [h.keeps.2.1]; exact ⟨hr, hf⟩
  | answers h k slotTag a => exact ⟨respond_full k slotTag a, fun _ _ h => by cases h⟩
  | rises => exact ⟨hr, fun _ _ h => by cases h⟩
  | falls =>
    refine ⟨hr, fun r a h => ?_⟩
    dsimp only at h
    split at h
    · cases h
    · cases h; exact hr
  | resets =>
    refine ⟨?_, fun r a h => absurd h Csn.uncount_frame⟩
    show s.cutStore.link.response.Full
    rw [s.cutStore_link]; exact hr
  | starts => exact ⟨rfl, fun r a h => absurd h Csn.uncount_frame⟩

theorem State.tick_link (s : State) : s.tick.link = s.link := by
  unfold State.tick
  split <;> rfl

/-- Settles O11: a response is filled up to 15 result bytes wherever one is made. -/
theorem responsesStayFull : Obligations.ResponsesStayFull := by
  unfold Obligations.ResponsesStayFull
  intro s t hs h
  have full : t.link.Full := by
    rcases step_cases h with ⟨_, rfl⟩ | ⟨i, rest, _, hx⟩
    · rw [s.tick_link]; exact hs
    · exact (exec_ends hx).full hs
  refine ⟨full, ?_⟩
  have hlen : t.link.response.result.length = 15 := full.1
  simp [Response.bytes, Response.front, hlen]

/-! ### The queue -/

/-- Settles O1, by the definition of the step. -/
theorem stepTakesFrontCommand : Obligations.StepTakesFrontCommand := by
  unfold Obligations.StepTakesFrontCommand
  intro c rest s
  rfl

theorem exec_next (c : Instr) (s : State) : ∃ t, exec c s = .next t := by
  cases c <;> exact ⟨_, rfl⟩

/-- Settles O2: every arm answers with a next state, and no effect writes the queue. -/
theorem everyCommandAnswersNext : Obligations.EveryCommandAnswersNext := by
  unfold Obligations.EveryCommandAnswersNext
  intro c s
  obtain ⟨t, h⟩ := exec_next c s
  exact ⟨t, h, (exec_ends h).pending⟩

/-! ### Settings and store (R49, R166 to R171) -/

/-- What a settings change or a store write keeps of the settings in force and of the store. -/
structure State.StoreFollows (ok : Prop) (s t : State) : Prop where
  inForce : s.conf.WellFormed → t.conf.WellFormed
  image   : ok → (s.store.image.agrees = true → s.store.image.contents.WellFormed) →
              t.store.image.agrees = true → t.store.image.contents.WellFormed
  writing : s.conf.WellFormed → (∀ x, s.store.writing = some x → x.WellFormed) →
              ∀ x, t.store.writing = some x → x.WellFormed
  sound   : s.StoreSound → t.StoreSound

theorem State.StoreFollows.of_eq (hc : t.conf = s.conf) (hs : t.store = s.store) (hr : t.inReset = s.inReset) :
    State.StoreFollows ok s t := by
  refine ⟨fun h => by rwa [hc], fun _ h => by rwa [hs], fun _ h => by rwa [hs], fun ⟨h1, h2, h3⟩ => ⟨?_, ?_, ?_⟩⟩
  · rwa [hs]
  · rwa [hs, hr]
  · rwa [hs, hc]

/-- Settings written with no store write in flight. -/
theorem State.StoreFollows.configured (hw : s.conf.WellFormed → t.conf.WellFormed) (hn : s.store.writing = none)
    (hs : t.store = s.store) (hr : t.inReset = s.inReset) : State.StoreFollows ok s t := by
  refine ⟨hw, fun _ h => by rwa [hs], fun _ _ x hx => ?_, fun ⟨h1, h2, _⟩ => ⟨?_, ?_, fun x hx => ?_⟩⟩
  · rw [hs, hn] at hx; cases hx
  · rwa [hs]
  · rwa [hs, hr]
  · rw [hs, hn] at hx; cases hx

theorem storeWriteCompletion_follows {x : Configuration} (hx : ok → x.WellFormed) (s : State) :
    State.StoreFollows ok s (storeWriteCompletion x s) := by
  unfold storeWriteCompletion
  split
  · exact .of_eq rfl rfl rfl
  · dsimp only
    refine ⟨id, fun hok _ _ => hx hok, fun _ _ y hy => (by cases hy), fun _ => ⟨fun hv => ⟨rfl, hv⟩, fun _ => ?_, fun y hy => (by cases hy)⟩⟩
    split
    · exact iff_of_false StoreResult.noConfusion Bool.false_ne_true
    · exact iff_of_false StoreResult.noConfusion Bool.false_ne_true

theorem State.Effect.storeFollows (h : State.Effect ok k s t) : State.StoreFollows ok s t := by
  cases h with
  | configured x d _ hs _ hw => exact .configured hw hs rfl rfl
  | freed n _ =>
    obtain ⟨_, _, _, e⟩ := s.freeRecord_eq n
    rw [e]
    exact .of_eq rfl rfl rfl
  | lineTurned n l =>
    obtain ⟨_, _, _, _, e⟩ := ({ s with lines := s.lines.set n l } : State).settleLine_eq n
    rw [e]
    exact .of_eq rfl rfl rfl
  | bound n b hs hw =>
    obtain ⟨_, _, _, _, e⟩ :=
      ({ s with conf := { s.conf with bindings := s.conf.bindings.set n b } } : State).settleLine_eq n
    rw [e]
    exact .configured hw hs rfl rfl
  | storing hs =>
    refine ⟨id, fun _ => id, fun hw _ y hy => ?_, fun _ => ⟨fun hv => (by cases hv), fun _ => iff_of_true rfl rfl, fun y hy => ?_⟩⟩
    · cases hy; exact hw
    · cases hy; rfl
  | stored x _ hx => exact storeWriteCompletion_follows hx s
  | retiredAll m =>
    obtain ⟨_, _, e⟩ := s.freeAll_eq (fun h => s.records[h].ownedBy m)
    rw [e]
    exact .of_eq rfl rfl rfl
  | restarted =>
    obtain ⟨_, _, e⟩ := s.freeAll_eq requesterHandle
    rw [e]
    exact .of_eq rfl rfl rfl
  | _ => exact .of_eq rfl rfl rfl

/-- What a write cut short leaves does not agree (R170). -/
theorem cutImage_disagrees (n : Nat) : (cutImage n).agrees = false := by
  unfold Image.agrees
  refine decide_eq_false fun h => ?_
  have h : Config.checkValue (Config.cutContents n) =
    if Config.cutCheck n = Config.checkValue (Config.cutContents n) then Config.cutCheck n + 1 else Config.cutCheck n := h
  split at h
  · rename_i hc
    rw [← hc] at h
    have : ∀ x : BitVec 16, x ≠ x + 1 := fun x hx => by bv_omega
    exact this _ h
  · exact absurd h.symm ‹_›

/-- The store after a write is cut short, and with none in flight. -/
theorem State.cutStore_cases (s : State) : (s.store.writing = none ∧ s.cutStore = s) ∨
    (s.store.writing.isSome = true ∧ s.cutStore =
      { s with store := { s.store with image := cutImage s.freeCount, writing := none }, freeCount := s.freeCount + 1 }) := by
  unfold State.cutStore
  cases h : s.store.writing with
  | none => exact .inl ⟨rfl, rfl⟩
  | some x => exact .inr ⟨rfl, rfl⟩

theorem State.cutStore_image (h : s.store.image.agrees = true → s.store.image.contents.WellFormed) :
    s.cutStore.store.image.agrees = true → s.cutStore.store.image.contents.WellFormed := by
  rcases s.cutStore_cases with ⟨_, e⟩ | ⟨_, e⟩ <;> rw [e]
  · exact h
  · exact fun ha => absurd ((cutImage_disagrees _).symm.trans ha) Bool.false_ne_true

theorem resetAssert_follows (s : State) : State.StoreFollows ok s (resetAssert s) := by
  have hconf : (resetAssert s).conf = s.conf := by
    unfold resetAssert
    dsimp only
    rw [s.cutStore_eq]
  have hstore : (resetAssert s).store = s.cutStore.store := rfl
  refine ⟨fun h => by rwa [hconf], fun _ h => by rw [hstore]; exact State.cutStore_image h, fun _ h => ?_,
    fun ⟨h1, _, h3⟩ => ⟨?_, fun hr => (by cases hr), ?_⟩⟩
  · rw [hstore]
    rcases s.cutStore_cases with ⟨_, e⟩ | ⟨_, e⟩ <;> rw [e]
    · exact h
    · exact fun y hy => (by cases hy)
  · rw [hstore]
    rcases s.cutStore_cases with ⟨_, e⟩ | ⟨hw, e⟩ <;> rw [e]
    · exact h1
    · intro hv
      rw [(h1 hv).1] at hw
      cases hw
  · rw [hstore, hconf]
    rcases s.cutStore_cases with ⟨_, e⟩ | ⟨_, e⟩ <;> rw [e]
    · exact h3
    · exact fun y hy => (by cases hy)

theorem defaultConfiguration_wellFormed : defaultConfiguration.WellFormed := by
  refine ⟨fun c => ?_, ⟨by decide, fun i => ?_, fun f => ?_, by decide, by decide, by decide⟩,
    ⟨fun p hp => ?_, fun p q hp => ?_⟩, fun n => ⟨?_, fun hn => ?_⟩⟩
  · rw [show defaultConfiguration.channels[c] = defaultChannel from Vector.getElem_replicate ..]
    decide
  · rw [show defaultConfiguration.slots[i] = _ from Vector.getElem_replicate ..]
    exact Nat.zero_le _
  · rw [show defaultConfiguration.budgets[f] = _ from Vector.getElem_replicate ..]
    exact Nat.zero_le _
  · rw [show defaultConfiguration.pairs[p] = _ from Vector.getElem_replicate ..] at hp
    cases hp
  · rw [show defaultConfiguration.pairs[p] = _ from Vector.getElem_replicate ..] at hp
    cases hp
  · rw [show defaultConfiguration.bindings[n] = _ from Vector.getElem_replicate ..]
    exact Level.noConfusion
  · rw [show defaultConfiguration.bindings[n] = _ from Vector.getElem_replicate ..] at hn
    cases hn

/-- Power-on takes the settings of an image that agrees, or the defaults (R171). -/
theorem powerOn_confSound (h : s.store.image.agrees = true → s.store.image.contents.WellFormed) :
    (powerOn s).conf.WellFormed := by
  show (if s.cutStore.store.image.agrees then s.cutStore.store.image.contents else defaultConfiguration).WellFormed
  split
  · exact State.cutStore_image h ‹_›
  · exact defaultConfiguration_wellFormed

theorem powerOn_storeSound (s : State) : (powerOn s).StoreSound :=
  ⟨fun hv => ⟨rfl, hv⟩, fun _ => iff_of_false StoreResult.noConfusion Bool.false_ne_true, fun _ h => by cases h⟩

/-- The timer events that join the queue are commands that the part can be given. -/
theorem State.due_wellFormed (s : State) : ∀ i ∈ s.due, i.wellFormed = true := by
  have flash : ∀ i ∈ flashDue s.drive, i.wellFormed = true := by
    intro i hi
    unfold flashDue at hi
    split at hi
    · cases hi
    · split at hi
      · split at hi <;> (rw [List.mem_singleton.1 hi]; rfl)
      · cases hi
  have record (n : Handle) : ∀ i ∈ recordDue s n, i.wellFormed = true := by
    intro i hi
    unfold recordDue at hi
    split at hi
    · split at hi
      · rw [List.mem_singleton.1 hi]; rfl
      · cases hi
    · split at hi
      · rw [List.mem_singleton.1 hi]; rfl
      · cases hi
    all_goals cases hi
  have one {p : Prop} [Decidable p] {i j : Instr} (hj : j.wellFormed = true) (hi : i ∈ if p then [j] else []) :
      i.wellFormed = true := by
    split at hi
    · rw [List.mem_singleton.1 hi]; exact hj
    · cases hi
  intro i hi
  unfold State.due at hi
  rcases List.mem_append.1 hi with hi | hi
  · rcases List.mem_append.1 hi with hi | hi
    · rcases List.mem_append.1 hi with hi | hi
      · rcases List.mem_append.1 hi with hi | hi
        · exact flash i hi
        · obtain ⟨p, _, hi⟩ := List.mem_flatMap.1 hi
          exact one rfl hi
      · obtain ⟨c, _, hi⟩ := List.mem_flatMap.1 hi
        unfold channelDue at hi
        rcases List.mem_append.1 hi with hi | hi
        · rcases List.mem_append.1 hi with hi | hi <;> exact one rfl hi
        · exact one rfl hi
    · obtain ⟨n, _, hi⟩ := List.mem_flatMap.1 hi
      exact record n i hi
  · exact one rfl hi

theorem State.tick_confSound (h : s.ConfSound) : s.tick.ConfSound := by
  obtain ⟨h1, h2, h3, h4⟩ := h
  unfold State.tick
  split
  · exact ⟨h1, h2, h3, h4⟩
  · exact ⟨h1, h2, h3, fun i hi => (List.mem_append.1 hi).elim (h4 i) (s.due_wellFormed i)⟩

theorem State.tick_storeSound (h : s.StoreSound) : s.tick.StoreSound := by
  unfold State.tick
  split
  · exact h
  · exact ⟨h.valid, h.writing, h.inForce⟩

theorem State.StoreFollows.confSound (hok : ok) (hf : State.StoreFollows ok s t) (hp : t.pending = s.pending) (h : s.ConfSound) :
    t.ConfSound := by
  obtain ⟨h1, h2, h3, h4⟩ := h
  exact ⟨hf.inForce h1, hf.image hok h2, hf.writing h1 h3, by rwa [hp]⟩

theorem State.Ends.confSound (hok : ok) (h : State.Ends ok k s t) (hs : s.ConfSound) : t.ConfSound := by
  have hp := h.pending
  cases h with
  | quiet h => exact h.storeFollows.confSound hok hp hs
  | answers h k slotTag a =>
    have := h.storeFollows.confSound hok (by exact hp) hs
    exact ⟨this.inForce, this.image, this.writing, this.pending⟩
  | rises | falls => exact ⟨hs.inForce, hs.image, hs.writing, hs.pending⟩
  | resets => exact (resetAssert_follows s).confSound hok hp hs
  | starts =>
    refine ⟨powerOn_confSound hs.image, State.cutStore_image hs.image, fun _ h => (by cases h), ?_⟩
    rw [hp]; exact hs.pending

theorem State.Ends.storeSound (h : State.Ends ok k s t) (hs : s.StoreSound) : t.StoreSound := by
  cases h with
  | quiet h => exact h.storeFollows.sound hs
  | answers h =>
    have := h.storeFollows.sound hs
    exact ⟨this.valid, this.writing, this.inForce⟩
  | rises | falls => exact ⟨hs.valid, hs.writing, hs.inForce⟩
  | resets => exact (resetAssert_follows (ok := True) s).sound hs
  | starts => exact powerOn_storeSound s

/-- Settles O60: settings are written in range and with no store write in flight, and a store's end compares what it
holds. -/
theorem configurationStaysInRange : Obligations.ConfigurationStaysInRange := by
  unfold Obligations.ConfigurationStaysInRange
  intro s t h
  rcases step_cases h with ⟨_, rfl⟩ | ⟨i, rest, hp, hx⟩
  · exact ⟨State.tick_confSound, State.tick_storeSound⟩
  · refine ⟨fun hs => ?_, fun hs => ?_⟩
    · obtain ⟨hs, hi⟩ := hs.pending_rest hp
      exact (exec_ends hx).confSound hi hs
    · exact (exec_ends hx).storeSound ⟨hs.valid, hs.writing, hs.inForce⟩

/-! ### Reset and the link (O9, O10) -/

/-- Settles O9: reset and the fall of CSN write the link, and reset cuts a store write short. -/
theorem pinEventsOfLinkAndReset : Obligations.PinEventsOfLinkAndReset := by
  unfold Obligations.PinEventsOfLinkAndReset
  refine ⟨fun s hs => ?_, fun s hs => ?_, fun s => ⟨resetAssert s, rfl, rfl, ?_, ?_, ?_, fun hn => ?_, fun hw => ?_⟩⟩
  · refine congrArg Host.Outcome.next ?_
    rw [if_neg (by rw [hs]; exact Bool.false_ne_true)]
    rfl
  · refine congrArg Host.Outcome.next ?_
    rw [if_pos hs]
  · unfold resetAssert
    dsimp only
    rw [s.cutStore_eq]
  · show s.cutStore.link.response = s.link.response
    rw [s.cutStore_link]
  · show s.cutStore.link.csn.uncount = _
    rw [s.cutStore_link]
    cases s.link.csn <;> rfl
  · show s.cutStore.store = s.store
    rcases s.cutStore_cases with ⟨_, e⟩ | ⟨hw, _⟩
    · rw [e]
    · rw [hn] at hw; cases hw
  · show s.cutStore.store.writing = none ∧ _
    rcases s.cutStore_cases with ⟨hn, _⟩ | ⟨_, e⟩
    · rw [hn] at hw; cases hw
    · refine ⟨by rw [e], fun ha => ?_⟩
      have ha : Config.checkValue s.cutStore.store.image.contents = s.cutStore.store.image.check := ha
      rw [e] at ha
      exact absurd ((cutImage_disagrees s.freeCount).symm.trans (decide_eq_true ha)) Bool.false_ne_true

theorem State.takesFrames_of_inReset (h : s.inReset = true) : s.takesFrames = false := by
  unfold State.takesFrames
  rw [h]; rfl

theorem event_inReset {f : State → State} (h : s.inReset = true) : event f s = s := if_pos h

/-- Held in reset nothing but the CSN pin changes (log entry 12). -/
theorem exec_inReset {i : Instr} (hs : s.inReset = true) (h1 : i ≠ .powerOn) (h2 : i ≠ .resetAssert)
    (h : exec i s = .next t) : t = { s with link := { s.link with csn := t.link.csn } } := by
  have request {k : Kind} {h : Header} {body : State → State × Answer} : request k h body s = s.csnRise :=
    request_dropped (s.takesFrames_of_inReset hs)
  have rise {u : State} (hu : u = s.csnRise) : u = { s with link := { s.link with csn := u.link.csn } } := by
    rw [hu]; rfl
  have stays {f : State → State} {u : State} (hu : u = event f s) : u = { s with link := { s.link with csn := u.link.csn } } := by
    rw [hu, event_inReset hs]
  cases i with
  | powerOn => exact absurd rfl h1
  | resetAssert => exact absurd rfl h2
  | unknownKindFrame kind hd =>
    have h := (Host.Outcome.next.inj h).symm
    by_cases hk : (kindOfByte kind).isSome = true
    · rw [if_pos hk] at h; rw [h]
    · rw [if_neg hk, if_neg (by rw [s.takesFrames_of_inReset hs]; exact Bool.false_ne_true)] at h
      exact rise h
  | frameDiscard edges =>
    have h := (Host.Outcome.next.inj h).symm
    rw [if_neg (by rw [s.takesFrames_of_inReset hs]; exact Bool.false_ne_true)] at h
    exact rise h
  | csnFall => cases h; rfl
  | holdExpiry | graceExpiry | deadTimeExpiry | inrushTimerExpiry | retryTimerExpiry | overloadRetry | coolingFlagClear
  | cleanRunExpiry | sampleCompletion | stallTimerExpiry | openFlagSet | openFlagClear | pwmPeriodStart | supplyReading
  | supplyRecovery | onPhaseStart | onPhaseExpiry | lineReading | debounceChange | unbiasedStepEnd | biasedStepEnd
  | storeWriteCompletion => exact stays (Host.Outcome.next.inj h).symm
  | _ => exact rise ((Host.Outcome.next.inj h).symm.trans request)

/-- A frame begun before power-on completed is not taken (R148). -/
theorem exec_uncounted {i : Instr} (hs : s.takesFrames = false)
    (hi : (requestParts i).isSome = true ∨ (∃ kind h, i = .unknownKindFrame kind h ∧ kindOfByte kind = none) ∨
      ∃ edges, i = .frameDiscard edges) : exec i s = .next s.csnRise := by
  have hf : ¬ s.takesFrames = true := by rw [hs]; exact Bool.false_ne_true
  rcases hi with hi | ⟨kind, h, rfl, hk⟩ | ⟨edges, rfl⟩
  · obtain ⟨⟨k, h, body⟩, hi⟩ := Option.isSome_iff_exists.1 hi
    obtain ⟨block, hb⟩ := exec_of_requestParts hi
    rw [hb, request_dropped hs]
  · refine congrArg Host.Outcome.next ?_
    rw [if_neg (by rw [hk]; exact Bool.false_ne_true), if_neg hf]
  · refine congrArg Host.Outcome.next ?_
    rw [if_neg hf]

/-- Settles O10: in reset every event is dropped and every frame ends untaken, and the pins are off by definition. -/
theorem heldInResetTakesNothing : Obligations.HeldInResetTakesNothing := by
  unfold Obligations.HeldInResetTakesNothing
  refine ⟨fun i s t hs h1 h2 h => ?_, fun s hs hp => ?_, fun i s hs hl hi => ?_⟩
  · have ht := exec_inReset hs h1 h2 h
    have hr : t.inReset = true := by rw [ht]; exact hs
    refine ⟨ht, fun c => ?_, if_pos hr, ?_, if_pos hr⟩
    · exact if_pos (by rw [hr]; rfl)
    · unfold State.noticenLow
      rw [hr]; rfl
  · unfold step
    rw [hp]
    exact congrArg Host.Outcome.next (if_pos hs)
  · refine exec_uncounted ?_ hi
    unfold State.takesFrames
    rw [hl]
    simp

end

end Sys2Proof.Machine
end


section
/-!
The records and what counts them: each slot's held count (O24), and each line's record (O53), followed over the effects
of the commands.
-/

namespace Sys2Proof.Machine

/-! ### One record changed -/

theorem vector_set_at {α : Type} {n : Nat} (v : Vector α n) (i j : Fin n) (x : α) :
    (v.set i x)[j] = if j = i then x else v[j] := by
  rw [Fin.getElem_fin, Vector.getElem_set]
  by_cases h : j = i
  · rw [if_pos h, if_pos (by rw [h])]
  · rw [if_neg h, if_neg (fun e => h (Fin.ext e.symm))]; rfl

section
variable {s t : State} {n m : Handle} {d : Demand} {time : Option Nat}

theorem State.makeLive_record_at (s : State) (n m : Handle) (d : Demand) (time : Option Nat) :
    (s.makeLive n d time).records[m] = if m = n then .live d time else s.records[m] := vector_set_at ..

theorem State.freeRecord_free (hr : s.records[n] = .free) : s.freeRecord n = s := by
  simp only [State.freeRecord, hr]

theorem State.freeRecord_record_at (s : State) (n m : Handle) :
    (s.freeRecord n).records[m] = if m = n then .free else s.records[m] := by
  cases hr : s.records[n] with
  | free =>
    rw [State.freeRecord_free hr]
    split
    · rename_i h; rw [h]; exact hr
    · rfl
  | live d time => rw [State.freeRecord_live hr]; exact vector_set_at ..
  | lapsed d g => rw [State.freeRecord_lapsed hr]; exact vector_set_at ..

theorem State.freeAll_record_at (s : State) (p : Handle → Bool) (m : Handle) :
    (s.freeAll p).records[m] = if p m then .free else s.records[m] := by
  simp [State.freeAll]

/-! ### Retimed records -/

theorem Record.Retimed.ownedBy {r r' : Record} (h : Record.Retimed r r') (m : SlotNo) : r'.ownedBy m = r.ownedBy m := by
  cases h <;> rfl

theorem Record.Retimed.suits {r r' : Record} (h : Record.Retimed r r') (hs : r.SuitsHandle n) : r'.SuitsHandle n := by
  cases h with
  | refl => exact hs
  | live d old time ht =>
    unfold Record.SuitsHandle at hs ⊢
    dsimp only at hs ⊢
    split
    · rwa [if_pos ‹_›] at hs
    · rw [if_neg ‹_›] at hs
      exact ⟨hs.1, hs.2.1, ht hs.2.2 hs.2.1⟩
  | lapsed => exact hs

theorem Record.tick_retimed (r : Record) : Record.Retimed r r.tick := by
  cases r with
  | free => exact .refl _
  | live d time => exact .live d time _ fun h _ => by rw [h]; rfl
  | lapsed d g => exact .lapsed d g _

theorem State.tick_records (s : State) : ∀ m : Handle, Record.Retimed s.records[m] s.tick.records[m] := by
  intro m
  unfold State.tick
  split
  · exact .refl _
  · rw [Fin.getElem_fin, Fin.getElem_fin, Vector.getElem_ofFn]
    exact Record.tick_retimed _

/-! ### Held counts (R2) -/

theorem countP_eq_sum {α : Type} (p : α → Bool) (l : List α) : l.countP p = (l.map (fun x => if p x then 1 else 0)).sum := by
  induction l with
  | nil => rfl
  | cons x l ih => rw [List.countP_cons, ih, List.map_cons, List.sum_cons, Nat.add_comm]

/-- The number of non-FREE records that a slot owns. -/
def ownedCount (records : Vector Record 64) (m : SlotNo) : Nat := allHandles.countP (fun h => records[h].ownedBy m)

theorem ownedCount_eq_sum (records : Vector Record 64) (m : SlotNo) :
    ownedCount records m = ∑ h : Handle, if records[h].ownedBy m then 1 else 0 := by
  rw [ownedCount, countP_eq_sum, Fin.sum_univ_def]
  rfl

theorem ownedCount_congr {r r' : Vector Record 64} {m : SlotNo} (h : ∀ n : Handle, r'[n].ownedBy m = r[n].ownedBy m) :
    ownedCount r' m = ownedCount r m := by
  unfold ownedCount
  simp only [h]

/-- One record set anew moves the count by its own share. -/
theorem ownedCount_set (records : Vector Record 64) (n : Handle) (r : Record) (m : SlotNo) :
    ownedCount (records.set n r) m + (if records[n].ownedBy m then 1 else 0) =
      ownedCount records m + (if r.ownedBy m then 1 else 0) := by
  have hrest : ∑ h ∈ Finset.univ.erase n, (if (records.set n r)[h].ownedBy m then 1 else 0) =
      ∑ h ∈ Finset.univ.erase n, (if records[h].ownedBy m then 1 else 0) :=
    Finset.sum_congr rfl fun h hh => by rw [vector_set_at, if_neg (Finset.ne_of_mem_erase hh)]
  rw [ownedCount_eq_sum, ownedCount_eq_sum, ← Finset.add_sum_erase _ _ (Finset.mem_univ n), hrest,
    ← Finset.add_sum_erase _ (fun h : Handle => if records[h].ownedBy m then 1 else 0) (Finset.mem_univ n),
    vector_set_at, if_pos rfl]
  omega

theorem State.HeldSound.count (h : s.HeldSound) (m : SlotNo) : s.held[m] = ownedCount s.records m := h.counts m

/-- The counts follow where each moves by the share of the one record that changes. -/
theorem State.HeldSound.setRecord (h : s.HeldSound) (r : Record) (hr : r.SuitsHandle n)
    (hrec : t.records = s.records.set n r)
    (hheld : ∀ m : SlotNo, t.held[m] + (if s.records[n].ownedBy m then 1 else 0) =
      s.held[m] + (if r.ownedBy m then 1 else 0)) : t.HeldSound := by
  refine ⟨fun m => ?_, fun m => ?_⟩
  · show t.held[m] = ownedCount t.records m
    have h1 := ownedCount_set s.records n r m
    have h2 := hheld m
    rw [h.count m] at h2
    rw [hrec]
    omega
  · rw [hrec, vector_set_at]
    split
    · subst m; exact hr
    · exact h.owners m

theorem State.HeldSound.congr (h : s.HeldSound) (hr : t.records = s.records) (hh : t.held = s.held) : t.HeldSound :=
  ⟨fun m => by rw [hr, hh]; exact h.counts m, fun m => by rw [hr]; exact h.owners m⟩

theorem State.HeldSound.retimed (h : s.HeldSound) (hr : ∀ m : Handle, Record.Retimed s.records[m] t.records[m])
    (hh : t.held = s.held) : t.HeldSound := by
  refine ⟨fun m => ?_, fun m => (hr m).suits (h.owners m)⟩
  rw [hh]
  exact (h.count m).trans (ownedCount_congr fun n => (hr n).ownedBy m).symm

/-- The count of an owned record's slot is not 0. -/
theorem State.HeldSound.held_pos (h : s.HeldSound) {m : SlotNo} (ho : s.records[n].ownedBy m = true) : 0 < s.held[m] := by
  rw [h.count m]
  unfold ownedCount
  exact List.countP_pos_iff.2 ⟨n, List.mem_finRange n, ho⟩

theorem State.HeldSound.free (h : s.HeldSound) (ho : ∀ m : SlotNo, s.records[n].ownedBy m = decide (d.owner = m))
    (hrec : t.records = s.records.set n .free) (hheld : t.held = s.held.set d.owner (s.held[d.owner] - 1)) :
    t.HeldSound := by
  refine h.setRecord .free trivial hrec fun m => ?_
  have hpos := h.held_pos (n := n) (m := d.owner) (by rw [ho]; exact decide_eq_true rfl)
  rw [hheld, vector_set_at, ho]
  by_cases hm : m = d.owner
  · subst hm
    rw [if_pos rfl, if_pos (decide_eq_true rfl)]
    show _ = s.held[d.owner] + 0
    omega
  · rw [if_neg hm, if_neg (fun h => hm (of_decide_eq_true h).symm)]
    rfl

theorem State.HeldSound.freeRecord (h : s.HeldSound) (n : Handle) : (s.freeRecord n).HeldSound := by
  cases hr : s.records[n] with
  | free => rw [State.freeRecord_free hr]; exact h
  | live d time =>
    rw [State.freeRecord_live hr]
    exact h.free (d := d) (fun m => by rw [hr]; rfl) rfl rfl
  | lapsed d g =>
    rw [State.freeRecord_lapsed hr]
    exact h.free (d := d) (fun m => by rw [hr]; rfl) rfl rfl

theorem State.HeldSound.makeLive_raise (h : s.HeldSound) (hf : s.records[n] = .free)
    (hs : (Record.live d time).SuitsHandle n) : ((s.makeLive n d time).raiseHeld d.owner).HeldSound := by
  refine h.setRecord _ hs rfl fun m => ?_
  rw [hf]
  show (s.held.set d.owner (s.held[d.owner] + 1))[m] + 0 = s.held[m] + (if decide (d.owner = m) then 1 else 0)
  rw [vector_set_at]
  by_cases hm : m = d.owner
  · subst hm
    rw [if_pos rfl, if_pos (decide_eq_true rfl)]
  · rw [if_neg hm, if_neg (fun h => hm (of_decide_eq_true h).symm)]

/-- A record keeps its owner and stays not FREE. -/
theorem State.HeldSound.sameOwner (h : s.HeldSound) {r : Record} (hr : r.SuitsHandle n)
    (ho : ∀ m : SlotNo, r.ownedBy m = s.records[n].ownedBy m)
    (hrec : t.records = s.records.set n r) (hheld : t.held = s.held) : t.HeldSound :=
  h.setRecord r hr hrec fun m => by rw [hheld, ho]

theorem State.refreshLine_cases (s : State) (n : LineNo) :
    (s.conf.bindings[n].enabled = true ∧ s.active n = true ∧ ∃ d : Demand, d.owner = 11 ∧ d.hold = 0 ∧
      s.refreshLine n = ((s.freeRecord (lineHandle n)).makeLive (lineHandle n) d none).raiseHeld d.owner) ∨
    (¬ (s.conf.bindings[n].enabled = true ∧ s.active n = true) ∧ s.refreshLine n = s.freeRecord (lineHandle n)) := by
  have hconf : (s.freeRecord (lineHandle n)).conf = s.conf ∧ (s.freeRecord (lineHandle n)).lines = s.lines := by
    obtain ⟨_, _, _, e⟩ := s.freeRecord_eq (lineHandle n)
    rw [e]
    exact ⟨rfl, rfl⟩
  obtain ⟨h1, h2⟩ := hconf
  unfold State.refreshLine
  dsimp only
  have hact : (s.freeRecord (lineHandle n)).active n = s.active n := by
    unfold State.active
    rw [h1, h2]
  have hen : (s.freeRecord (lineHandle n)).conf.bindings[n].enabled = s.conf.bindings[n].enabled :=
    congrArg (fun x : Configuration => x.bindings[n].enabled) h1
  rw [hact, hen]
  split
  · rename_i hc
    exact .inl ⟨hc.1, hc.2, _, rfl, rfl, rfl⟩
  · exact .inr ⟨‹_›, rfl⟩

theorem State.HeldSound.refreshLine (h : s.HeldSound) (n : LineNo) : (s.refreshLine n).HeldSound := by
  rcases s.refreshLine_cases n with ⟨_, _, d, ho, hh, e⟩ | ⟨_, e⟩ <;> rw [e]
  · refine (h.freeRecord (lineHandle n)).makeLive_raise ?_ ?_
    · rw [State.freeRecord_record_at, if_pos rfl]
    · unfold Record.SuitsHandle
      dsimp only
      rw [if_neg (by show ¬ 60 + n.val < 60; omega), ho]
      exact ⟨rfl, hh, rfl⟩
  · exact h.freeRecord _

theorem State.HeldSound.settleLine (h : s.HeldSound) (n : LineNo) : (s.settleLine n).HeldSound :=
  (h.refreshLine n).congr rfl rfl

/-- The records on handles 0 to 59 are those of slots 0 to 10 (R7, R27). -/
theorem Record.SuitsHandle.ownedBy_lineSlot {r : Record} (h : r.SuitsHandle n) :
    r.ownedBy 11 = (decide (60 ≤ n.val) && !r.isFree) := by
  unfold Record.SuitsHandle at h
  cases r with
  | free => exact (Bool.and_false _).symm
  | live d time =>
    dsimp only at h
    split at h
    · have : d.owner ≠ 11 := fun e => by rw [e] at h; exact absurd h (by decide)
      rw [decide_eq_false (by omega), Bool.false_and]
      exact decide_eq_false this
    · obtain ⟨ho, _⟩ := h
      have : d.owner = 11 := Fin.ext ho
      rw [decide_eq_true (Nat.le_of_not_lt ‹_›)]
      exact decide_eq_true this
  | lapsed d g =>
    obtain ⟨h60, ho⟩ := h
    have : d.owner ≠ 11 := fun e => by rw [e] at ho; exact absurd ho (by decide)
    rw [decide_eq_false (by omega), Bool.false_and]
    exact decide_eq_false this

theorem Record.SuitsHandle.ownedBy_requesterSlot {r : Record} (h : r.SuitsHandle n) {m : SlotNo} (hm : m ≠ 11)
    (hn : 60 ≤ n.val) : r.ownedBy m = false := by
  unfold Record.SuitsHandle at h
  cases r with
  | free => rfl
  | live d time =>
    dsimp only at h
    rw [if_neg (by omega)] at h
    refine decide_eq_false fun e => hm ?_
    rw [← e]
    exact Fin.ext h.1
  | lapsed d g => exact absurd h.1 (by omega)

theorem State.HeldSound.retireAll (h : s.HeldSound) (m : SlotNo) (hrec : t.records = (s.freeAll (fun x => s.records[x].ownedBy m)).records)
    (hheld : t.held = s.held.set m 0) : t.HeldSound := by
  have hat (n : Handle) : t.records[n] = if s.records[n].ownedBy m then .free else s.records[n] := by
    rw [hrec, State.freeAll_record_at]
  refine ⟨fun j => ?_, fun n => ?_⟩
  · rw [hheld, vector_set_at]
    show _ = ownedCount t.records j
    split
    · subst j
      refine (List.countP_eq_zero.2 fun n _ => ?_).symm
      rw [hat]
      split
      · exact Bool.false_ne_true
      · assumption
    · rename_i hj
      refine (h.count j).trans (ownedCount_congr fun n => ?_).symm
      rw [hat]
      split
      · rename_i ho
        symm
        cases hr : s.records[n] with
        | free => rfl
        | live d time =>
          rw [hr] at ho
          exact decide_eq_false fun e => hj (e.symm.trans (of_decide_eq_true ho))
        | lapsed d g =>
          rw [hr] at ho
          exact decide_eq_false fun e => hj (e.symm.trans (of_decide_eq_true ho))
      · rfl
  · rw [hat]
    split
    · trivial
    · exact h.owners n

theorem State.HeldSound.restart (h : s.HeldSound) (hrec : t.records = (s.freeAll requesterHandle).records)
    (hheld : t.held = heldAfterRestart s.held) : t.HeldSound := by
  have hat (n : Handle) : t.records[n] = if n.val < 60 then .free else s.records[n] := by
    rw [hrec, State.freeAll_record_at]
    by_cases h : n.val < 60
    · rw [if_pos h, if_pos (show requesterHandle n = true from decide_eq_true h)]
    · rw [if_neg h, if_neg (fun e : requesterHandle n = true => h (of_decide_eq_true e))]
  refine ⟨fun j => ?_, fun n => ?_⟩
  · have hj : t.held[j] = if j.val = 11 then s.held[j] else 0 := by
      rw [hheld, heldAfterRestart, Fin.getElem_fin, Vector.getElem_ofFn]
    rw [hj]
    show _ = ownedCount t.records j
    split
    · rename_i h11
      have h11 : j = 11 := Fin.ext h11
      subst h11
      refine (h.count 11).trans (ownedCount_congr fun n => ?_).symm
      rw [hat]
      split
      · rw [(h.owners n).ownedBy_lineSlot, decide_eq_false (by omega), Bool.false_and]; rfl
      · rfl
    · rename_i h11
      refine (List.countP_eq_zero.2 fun n _ => ?_).symm
      rw [hat]
      split
      · exact Bool.false_ne_true
      · rw [(h.owners n).ownedBy_requesterSlot (fun e => h11 (congrArg Fin.val e)) (Nat.le_of_not_lt ‹_›)]
        exact Bool.false_ne_true
  · rw [hat]
    split
    · trivial
    · exact h.owners n

theorem Record.suits_live_of_lt (h60 : n.val < 60) (ho : d.owner.val ≤ 10) : (Record.live d time).SuitsHandle n := by
  unfold Record.SuitsHandle
  dsimp only
  rw [if_pos h60]
  exact ho

theorem State.Effect.heldSound {ok : Prop} {k : Drive.Scope} (he : State.Effect ok k s t) (h : s.HeldSound) :
    t.HeldSound := by
  cases he with
  | retimed r hr => exact h.retimed hr rfl
  | placed n d time h60 ho hf => exact (h.makeLive_raise hf (Record.suits_live_of_lt h60 ho)).congr rfl rfl
  | revived n d time g h60 hr =>
    have hn := h.owners n
    rw [hr] at hn
    exact (h.sameOwner (t := s.makeLive n d time) (Record.suits_live_of_lt h60 hn.2) (fun m => by rw [hr]; rfl) rfl
      rfl).congr rfl rfl
  | amended n d d' old time h60 hr hc ho =>
    have hn := h.owners n
    rw [hr] at hn
    unfold Record.SuitsHandle at hn
    dsimp only at hn
    rw [if_pos h60] at hn
    exact (h.sameOwner (t := (s.removeFrom d.channel n).makeLive n d' time)
      (Record.suits_live_of_lt h60 (by rw [ho]; exact hn))
      (fun m => by rw [hr]; show decide (d'.owner = m) = decide (d.owner = m); rw [ho]) rfl rfl).congr rfl rfl
  | freed n _ => exact (h.freeRecord n).congr rfl rfl
  | lapsed n d ms g dr hd hr =>
    have hn := h.owners n
    rw [hr] at hn
    unfold Record.SuitsHandle at hn
    dsimp only at hn
    have hs : n.val < 60 ∧ d.owner.val ≤ 10 := by
      split at hn
      · exact ⟨‹_›, hn⟩
      · exact absurd hn.2.2 (Option.some_ne_none _)
    exact (h.sameOwner (t := (s.putRecord n (.lapsed d g)).removeFrom d.channel n) (r := .lapsed d g) hs
      (fun m => by rw [hr]; rfl) rfl rfl).congr rfl rfl
  | retiredAll m => exact h.retireAll m rfl rfl
  | restarted => exact h.restart rfl rfl
  | lineTurned n l => exact State.HeldSound.settleLine (s := { s with lines := s.lines.set n l }) (h.congr rfl rfl) n
  | bound n b =>
    exact State.HeldSound.settleLine
      (s := { s with conf := { s.conf with bindings := s.conf.bindings.set n b } }) (h.congr rfl rfl) n
  | stored x =>
    obtain ⟨_, _, e⟩ := storeWriteCompletion_eq x s
    rw [e]
    exact h.congr rfl rfl
  | _ => exact h.congr rfl rfl

theorem State.HeldSound.start (hr : t.records = Vector.replicate 64 .free) (hh : t.held = Vector.replicate 12 0) :
    t.HeldSound := by
  have hat (n : Handle) : t.records[n] = .free := by rw [hr]; exact Vector.getElem_replicate ..
  refine ⟨fun m => ?_, fun n => by rw [hat]; trivial⟩
  rw [show t.held[m] = 0 by rw [hh]; exact Vector.getElem_replicate ..]
  exact (List.countP_eq_zero.2 fun n _ => by rw [hat]; exact Bool.false_ne_true).symm

theorem resetAssert_table (s : State) : (resetAssert s).records = s.records ∧ (resetAssert s).held = s.held ∧
    (resetAssert s).lists = s.lists ∧ (resetAssert s).lines = s.lines ∧ (resetAssert s).conf = s.conf ∧
    (resetAssert s).drive = s.drive ∧ (resetAssert s).monitors = s.monitors := by
  unfold resetAssert
  dsimp only
  rw [s.cutStore_eq]
  exact ⟨rfl, rfl, rfl, rfl, rfl, rfl, rfl⟩

theorem State.Ends.heldSound {ok : Prop} {k : Drive.Scope} (he : State.Ends ok k s t) (h : s.HeldSound) :
    t.HeldSound := by
  cases he with
  | quiet he => exact he.heldSound h
  | answers he => exact (he.heldSound h).congr rfl rfl
  | rises | falls => exact h.congr rfl rfl
  | resets =>
    obtain ⟨h1, h2, _⟩ := resetAssert_table s
    exact h.congr h1 h2
  | starts => exact .start rfl rfl

/-- Settles O24: every effect moves a held count by the share of the record it makes or frees. -/
theorem heldCountsMatchRecords : Obligations.HeldCountsMatchRecords := by
  unfold Obligations.HeldCountsMatchRecords
  intro s t h hs
  rcases step_cases hs with ⟨_, rfl⟩ | ⟨i, rest, _, hx⟩
  · refine h.retimed s.tick_records ?_
    unfold State.tick
    split <;> rfl
  · exact (exec_ends hx).heldSound (h.congr rfl rfl)

end

end Sys2Proof.Machine
end


section
/-!
Each line's record (O53): every effect leaves it as it is, or makes it what the line calls for.
-/

namespace Sys2Proof.Machine

section
variable {s t : State} {n m : LineNo}

theorem lineHandle_injective (h : lineHandle n = lineHandle m) : n = m := by
  have := congrArg Fin.val h
  change 60 + n.val = 60 + m.val at this
  exact Fin.ext (Nat.add_left_cancel this)

theorem lineHandle_ne_of_lt {h : Handle} (h60 : h.val < 60) : lineHandle n ≠ h := by
  intro e
  have : 60 + n.val = h.val := congrArg Fin.val e
  omega

/-- The line calls for a LIVE record: it is bound and active (R134). -/
abbrev State.CallsFor (s : State) (n : LineNo) : Prop := s.conf.bindings[n].enabled = true ∧ s.active n = true

/-- A record that follows its line: LIVE as slot 11's, with no hold, where the line calls for one, else FREE. -/
def Record.FollowsLine (r : Record) (called : Prop) : Prop :=
  (called → ∃ d : Demand, r = .live d none ∧ d.owner = 11 ∧ d.hold = 0) ∧ (¬ called → r = .free)

theorem State.linesSound_iff : s.LinesSound ↔ ∀ n : LineNo, s.records[lineHandle n].FollowsLine (s.CallsFor n) := by
  refine forall_congr' fun n => ?_
  show (if s.CallsFor n then ∃ d : Demand, s.records[lineHandle n] = .live d none ∧ d.owner = 11 ∧ d.hold = 0
    else s.records[lineHandle n] = .free) ↔ _
  by_cases h : s.CallsFor n
  · rw [if_pos h]
    exact ⟨fun hr => ⟨fun _ => hr, fun hn => absurd h hn⟩, fun hr => hr.1 h⟩
  · rw [if_neg h]
    exact ⟨fun hr => ⟨fun hc => absurd hc h, fun _ => hr⟩, fun hr => hr.2 h⟩

/-- A record that follows its line does not lapse and has no remaining time. -/
theorem Record.FollowsLine.cases {r : Record} {p : Prop} (h : r.FollowsLine p) :
    r = .free ∨ ∃ d : Demand, r = .live d none ∧ d.owner = 11 ∧ d.hold = 0 := by
  by_cases hp : p
  · exact .inr (h.1 hp)
  · exact .inl (h.2 hp)

theorem Record.FollowsLine.retimed {r r' : Record} {p : Prop} (h : r.FollowsLine p) (hr : Record.Retimed r r') :
    r'.FollowsLine p := by
  rcases h.cases with e | ⟨d, e, ho, hd⟩ <;> subst e
  · cases hr; exact h
  · cases hr with
    | refl => exact h
    | live _ _ time ht =>
      obtain rfl := ht rfl hd
      exact h

/-- Where neither bindings nor levels nor the line records change, the records still follow. -/
theorem State.LinesSound.congr (h : s.LinesSound) (hb : t.conf.bindings = s.conf.bindings) (hl : t.lines = s.lines)
    (hr : ∀ n : LineNo, t.records[lineHandle n] = s.records[lineHandle n]) : t.LinesSound := by
  refine State.linesSound_iff.2 fun n => ?_
  have hc : t.CallsFor n = s.CallsFor n := by
    unfold State.CallsFor State.active
    rw [hb, hl]
  rw [hc, hr]
  exact State.linesSound_iff.1 h n

theorem State.LinesSound.setRecord (h : s.LinesSound) (hb : t.conf.bindings = s.conf.bindings) (hl : t.lines = s.lines)
    {x : Handle} {r : Record} (hr : t.records = s.records.set x r) (hx : ∀ n : LineNo, lineHandle n ≠ x) :
    t.LinesSound :=
  h.congr hb hl fun n => by rw [hr, vector_set_at, if_neg (hx n)]

/-- Of a line's own record, LAPSED or with a remaining time, there is none. -/
theorem State.LinesSound.not_timed (h : s.LinesSound) {x : Handle} {d : Demand} {ms : Nat}
    (hr : s.records[x] = .live d (some ms) ∨ s.records[x] = .lapsed d ms) (n : LineNo) : lineHandle n ≠ x := by
  rintro rfl
  rcases (State.linesSound_iff.1 h n).cases with e | ⟨_, e, _⟩ <;> rw [e] at hr <;> rcases hr with hr | hr <;> cases hr

/-- A change of a line's filter or binding touches no other line's call. -/
theorem State.settleLine_record_at (s : State) (n : LineNo) (x : Handle) :
    (s.settleLine n).records[x] = (s.refreshLine n).records[x] := rfl

theorem State.settleLine_callsFor (s : State) (n m : LineNo) : (s.settleLine n).CallsFor m ↔ s.CallsFor m := by
  obtain ⟨_, _, _, _, e⟩ := s.settleLine_eq n
  rw [e]
  exact Iff.rfl

/-- The line's own record follows it, and no other record changes. -/
theorem State.settleLine_follows (s : State) (n m : LineNo)
    (h : m ≠ n → s.records[lineHandle m].FollowsLine (s.CallsFor m)) :
    (s.settleLine n).records[lineHandle m].FollowsLine ((s.settleLine n).CallsFor m) := by
  rw [State.settleLine_record_at, propext (s.settleLine_callsFor n m)]
  rcases s.refreshLine_cases n with ⟨hen, hact, d, ho, hh, e⟩ | ⟨hnot, e⟩
  · have hrec : (s.refreshLine n).records[lineHandle m] =
        if lineHandle m = lineHandle n then .live d none else (s.freeRecord (lineHandle n)).records[lineHandle m] := by
      rw [e]
      exact State.makeLive_record_at ..
    rw [hrec]
    by_cases hm : m = n
    · subst hm
      rw [if_pos rfl]
      exact ⟨fun _ => ⟨d, rfl, ho, hh⟩, fun hn => absurd ⟨hen, hact⟩ hn⟩
    · have hne : lineHandle m ≠ lineHandle n := fun e => hm (lineHandle_injective e)
      rw [if_neg hne, State.freeRecord_record_at, if_neg hne]
      exact h hm
  · rw [e, State.freeRecord_record_at]
    by_cases hm : m = n
    · subst hm
      rw [if_pos rfl]
      exact ⟨fun hc => absurd hc hnot, fun _ => rfl⟩
    · rw [if_neg (fun e => hm (lineHandle_injective e))]
      exact h hm

theorem State.lineFilter_callsFor (s : State) (l : Line) (hm : m ≠ n ∨ l.debounced = s.lines[n].debounced) :
    ({ s with lines := s.lines.set n l } : State).CallsFor m ↔ s.CallsFor m := by
  have hat : (s.lines.set n l)[m].debounced = s.lines[m].debounced := by
    rw [vector_set_at]
    split
    · rename_i he
      subst he
      exact hm.resolve_left (fun h => h rfl)
    · rfl
  unfold State.CallsFor State.active lineActive
  dsimp only
  rw [hat]

theorem State.bind_callsFor (s : State) (b : Binding) (hm : m ≠ n) :
    ({ s with conf := { s.conf with bindings := s.conf.bindings.set n b } } : State).CallsFor m ↔ s.CallsFor m := by
  have hat : (s.conf.bindings.set n b)[m] = s.conf.bindings[m] := by rw [vector_set_at, if_neg hm]
  unfold State.CallsFor State.active lineActive
  dsimp only
  rw [hat]

theorem Record.ownedBy_false_of_lineRecord {r : Record} {p : Prop} (h : r.FollowsLine p) {k : SlotNo} (hk : k.val ≤ 10) :
    r.ownedBy k = false := by
  rcases h.cases with rfl | ⟨d, rfl, ho, _⟩
  · rfl
  · refine decide_eq_false fun e => ?_
    rw [ho] at e
    subst e
    exact absurd hk (by decide)

theorem State.Effect.linesSound {ok : Prop} {k : Drive.Scope} (he : State.Effect ok k s t) (h : s.LinesSound) :
    t.LinesSound := by
  have hrec := State.linesSound_iff.1 h
  cases he with
  | configured x d hk hs hb hw => exact h.congr hb rfl fun _ => rfl
  | retimed r hr => exact State.linesSound_iff.2 fun n => (hrec n).retimed (hr _)
  | placed n d time h60 ho hf => exact h.setRecord rfl rfl (x := n) rfl fun _ => lineHandle_ne_of_lt h60
  | revived n d time g h60 hr => exact h.setRecord rfl rfl (x := n) rfl fun _ => lineHandle_ne_of_lt h60
  | amended n d d' old time h60 hr hc ho => exact h.setRecord rfl rfl (x := n) rfl fun _ => lineHandle_ne_of_lt h60
  | freed n hn =>
    have hne : ∀ m : LineNo, lineHandle m ≠ n := fun m =>
      hn.elim lineHandle_ne_of_lt fun ⟨_, _, hr⟩ => h.not_timed (.inr hr) m
    obtain ⟨r, m, l, e⟩ := s.freeRecord_eq n
    refine State.LinesSound.congr (s := s.freeRecord n) ?_ rfl rfl fun _ => rfl
    refine h.congr (by rw [e]) (by rw [e]) fun m => ?_
    rw [State.freeRecord_record_at, if_neg (hne m)]
  | lapsed n d ms g dr hd hr => exact h.setRecord rfl rfl (x := n) rfl (h.not_timed (.inl hr))
  | retiredAll m hm =>
    have hat := State.freeAll_record_at s (fun x => s.records[x].ownedBy m)
    obtain ⟨_, _, e⟩ := s.freeAll_eq (fun x => s.records[x].ownedBy m)
    rw [e] at hat ⊢
    refine h.congr rfl rfl fun n => (hat (lineHandle n)).trans (if_neg ?_)
    rw [Record.ownedBy_false_of_lineRecord (hrec n) hm]
    exact Bool.false_ne_true
  | restarted =>
    have hat := State.freeAll_record_at s requesterHandle
    obtain ⟨_, _, e⟩ := s.freeAll_eq requesterHandle
    rw [e] at hat ⊢
    refine h.congr rfl rfl fun n => (hat (lineHandle n)).trans (if_neg ?_)
    intro e
    have : 60 + n.val < 60 := of_decide_eq_true e
    omega
  | filtered n l hl =>
    refine State.linesSound_iff.2 fun m => ?_
    by_cases hm : m ≠ n ∨ l.debounced = s.lines[n].debounced
    · rw [propext (s.lineFilter_callsFor l hm)]
      exact hrec m
    · obtain ⟨hmn, hne⟩ := not_or.1 hm
      obtain rfl := not_not.1 hmn
      have hoff := hl.resolve_left hne
      have hnot : ¬ s.CallsFor m := fun hc => Bool.false_ne_true (hoff.symm.trans hc.1)
      have hnot' : ¬ ({ s with lines := s.lines.set m l } : State).CallsFor m :=
        fun hc => Bool.false_ne_true (hoff.symm.trans hc.1)
      exact ⟨fun hc => absurd hc hnot', fun _ => (hrec m).2 hnot⟩
  | lineTurned n l =>
    refine State.linesSound_iff.2 fun m => State.settleLine_follows _ n m fun hm => ?_
    rw [propext (s.lineFilter_callsFor l (.inl hm))]
    exact hrec m
  | bound n b =>
    refine State.linesSound_iff.2 fun m => State.settleLine_follows _ n m fun hm => ?_
    rw [propext (s.bind_callsFor b hm)]
    exact hrec m
  | stored x =>
    obtain ⟨_, _, e⟩ := storeWriteCompletion_eq x s
    rw [e]
    exact h.congr rfl rfl fun _ => rfl
  | _ => exact h.congr rfl rfl fun _ => rfl

/-- At power-on every line is inactive (R138). -/
theorem startLine_inactive (b : Binding) : lineActive b (startLine b) = false := by
  obtain ⟨enabled, polarity, load, level, cls⟩ := b
  cases polarity <;> rfl

theorem powerOn_inactive (s : State) (n : LineNo) : (powerOn s).active n = false := by
  unfold State.active
  have : (powerOn s).lines[n] = startLine (powerOn s).conf.bindings[n] := Vector.getElem_ofFn _
  rw [this]
  exact startLine_inactive _

theorem State.Ends.linesSound {ok : Prop} {k : Drive.Scope} (he : State.Ends ok k s t) (h : s.LinesSound) :
    t.LinesSound := by
  cases he with
  | quiet he => exact he.linesSound h
  | answers he => exact (he.linesSound h).congr rfl rfl fun _ => rfl
  | rises | falls => exact h.congr rfl rfl fun _ => rfl
  | resets =>
    obtain ⟨hr, _, _, hl, hc, _⟩ := resetAssert_table s
    exact h.congr (by rw [hc]) hl fun n => by rw [hr]
  | starts =>
    refine State.linesSound_iff.2 fun n => ⟨fun hc => ?_, fun _ => Vector.getElem_replicate ..⟩
    rw [State.CallsFor, powerOn_inactive] at hc
    exact absurd hc.2 Bool.false_ne_true

/-- Settles O53: an effect leaves a line's record and what the line calls for as they are, or settles both. -/
theorem lineRecordsFollowLines : Obligations.LineRecordsFollowLines := by
  unfold Obligations.LineRecordsFollowLines
  intro s t h hs
  rcases step_cases hs with ⟨_, rfl⟩ | ⟨i, rest, _, hx⟩
  · refine State.linesSound_iff.2 fun n => ?_
    have hc : s.tick.CallsFor n ↔ s.CallsFor n := by
      unfold State.tick
      split <;> exact Iff.rfl
    rw [propext hc]
    exact (State.linesSound_iff.1 h n).retimed (s.tick_records _)
  · exact (exec_ends hx).linesSound (s := { s with pending := rest }) (h.congr rfl rfl fun _ => rfl)

end

end Sys2Proof.Machine
end


section
/-!
SUPPORT. The demand lists (R36 to R40): what inserts, removes and freed records make of one list, and that every effect
keeps each list sound.
-/

namespace Sys2Proof.Machine

/-! ### One list -/

/-- The laws of one channel's list (R36, R37). -/
structure ListSound (records : Vector Record 64) (c : Ch) (l : List Handle) : Prop where
  holdsLive : ∀ h : Handle, h ∈ l ↔ records[h].liveOn c = true
  once      : l.Nodup
  capacity  : requesterCount l ≤ 6
  ordered   : l.Pairwise (fun x y => records[y].rank ≤ records[x].rank)

theorem State.listsSound_iff {s : State} : s.ListsSound ↔ ∀ c : Ch, ListSound s.records c s.lists[c] :=
  ⟨fun ⟨h1, h2, h3, h4⟩ c => ⟨h1 c, h2 c, h3 c, h4 c⟩,
    fun h => ⟨fun c => (h c).holdsLive, fun c => (h c).once, fun c => (h c).capacity, fun c => (h c).ordered⟩⟩

section
variable {records records' : Vector Record 64} {c : Ch} {l : List Handle} {x : Handle}

/-- Changes that leave each record on or off the list, and the classes along it, leave the list sound. -/
theorem ListSound.congr (h : ListSound records c l)
    (hlive : ∀ y : Handle, records'[y].liveOn c = records[y].liveOn c)
    (hrank : ∀ y ∈ l, records'[y].rank = records[y].rank) : ListSound records' c l :=
  ⟨fun y => by rw [hlive]; exact h.holdsLive y, h.once, h.capacity,
    h.ordered.imp_of_mem fun ha hb hab => by rw [hrank _ ha, hrank _ hb]; exact hab⟩

/-- Records that are no longer LIVE leave the list (R39). -/
theorem ListSound.filter (h : ListSound records c l) (keep : Handle → Bool)
    (hkeep : ∀ y : Handle, keep y = true → records'[y] = records[y])
    (hdrop : ∀ y : Handle, keep y = false → records'[y].liveOn c = false) : ListSound records' c (l.filter keep) := by
  refine ⟨fun y => ?_, h.once.filter _, (List.Sublist.countP_le List.filter_sublist).trans h.capacity, ?_⟩
  · rw [List.mem_filter, h.holdsLive]
    cases hk : keep y with
    | true => rw [hkeep y hk]; exact and_iff_left rfl
    | false => rw [hdrop y hk]; exact iff_of_false (fun e => Bool.false_ne_true e.2) Bool.false_ne_true
  · refine (List.Pairwise.sublist List.filter_sublist h.ordered).imp_of_mem fun ha hb hab => ?_
    rw [hkeep _ (List.mem_filter.1 ha).2, hkeep _ (List.mem_filter.1 hb).2]
    exact hab

theorem listInsert_perm (rank : Handle → Nat) (x : Handle) (l : List Handle) : (listInsert rank x l).Perm (x :: l) := by
  have h := List.takeWhile_append_dropWhile (p := fun y => decide (rank x < rank y)) (l := l)
  calc listInsert rank x l
      _ |>.Perm (x :: (l.takeWhile (fun y => decide (rank x < rank y)) ++
          l.dropWhile (fun y => decide (rank x < rank y)))) := List.perm_middle
      _ |>.Perm (x :: l) := by rw [h]

/-- An insert ahead of its class group keeps the class order (R38). -/
theorem InsertedInClass.ordered {k : Cls} {after : List Handle} (h : InsertedInClass records k x l after)
    (hx : records[x].rank = k.val) (hl : l.Pairwise (fun x y => records[y].rank ≤ records[x].rank)) :
    after.Pairwise (fun x y => records[y].rank ≤ records[x].rank) := by
  obtain ⟨ahead, behind, rfl, rfl, ha, hb⟩ := h
  obtain ⟨h1, h2, h3⟩ := List.pairwise_append.1 hl
  have hlow : ∀ y ∈ behind, records[y].rank ≤ records[x].rank := by
    rw [hx]
    cases behind with
    | nil => exact fun _ hy => absurd hy List.not_mem_nil
    | cons z behind =>
      intro y hy
      have hz := hb z rfl
      rcases List.mem_cons.1 hy with rfl | hy
      · exact hz
      · exact (List.rel_of_pairwise_cons h2 hy).trans hz
  refine List.pairwise_append.2 ⟨h1, List.pairwise_cons.2 ⟨hlow, h2⟩, fun y hy z hz => ?_⟩
  rcases List.mem_cons.1 hz with rfl | hz
  · rw [hx]; exact Nat.le_of_lt (ha y hy)
  · exact h3 y hy z hz

/-- A record made LIVE joins the list of its channel where it has room (R36, R38). -/
theorem ListSound.insert {d : Demand} {time : Option Nat} (h : ListSound records d.channel l)
    (hx : records[x].liveOn d.channel = false) (hrec : records' = records.set x (.live d time))
    (hroom : 60 ≤ x.val ∨ requesterCount l < 6) :
    ListSound records' d.channel (listInsert (fun y => records'[y].rank) x l) := by
  have hat (y : Handle) : records'[y] = if y = x then .live d time else records[y] := by rw [hrec, vector_set_at]
  have hself : records'[x] = .live d time := by rw [hat, if_pos rfl]
  have hnot : x ∉ l := fun hm => by
    rw [h.holdsLive, hx] at hm
    exact Bool.false_ne_true hm
  have hperm := listInsert_perm (fun y => records'[y].rank) x l
  refine ⟨fun y => ?_, ?_, ?_, ?_⟩
  · rw [hperm.mem_iff, List.mem_cons, hat]
    by_cases hy : y = x
    · rw [if_pos hy]
      exact iff_of_true (.inl hy) (decide_eq_true rfl)
    · rw [if_neg hy, ← h.holdsLive]
      exact or_iff_right hy
  · exact hperm.nodup_iff.2 (List.nodup_cons.2 ⟨hnot, h.once⟩)
  · unfold requesterCount
    rw [hperm.countP_eq, List.countP_cons]
    have hcap := h.capacity
    unfold requesterCount at hcap hroom
    split
    · rename_i hlt
      have := of_decide_eq_true hlt
      omega
    · exact hcap
  · refine (insertedInClass l hself).ordered (by rw [hself]; rfl) ?_
    refine h.ordered.imp_of_mem fun {a b} ha hb hab => ?_
    rw [hat, hat, if_neg (fun e : b = x => hnot (e ▸ hb)), if_neg (fun e : a = x => hnot (e ▸ ha))]
    exact hab

end

/-! ### The lists of a state -/

section
variable {s t : State} {n x : Handle} {d : Demand} {time : Option Nat}

theorem Record.not_liveOn_of_eq_free {r : Record} (h : r = .free ∨ ∃ d g, r = .lapsed d g) (c : Ch) :
    r.liveOn c = false := by
  rcases h with rfl | ⟨_, _, rfl⟩ <;> rfl

theorem State.ListsSound.congr (h : s.ListsSound) (hl : t.lists = s.lists)
    (hlive : ∀ (y : Handle) (c : Ch), t.records[y].liveOn c = s.records[y].liveOn c)
    (hrank : ∀ y : Handle, t.records[y].rank = s.records[y].rank) : t.ListsSound :=
  State.listsSound_iff.2 fun c => by
    rw [hl]
    exact (State.listsSound_iff.1 h c).congr (fun y => hlive y c) fun y _ => hrank y

theorem State.ListsSound.same (h : s.ListsSound) (hl : t.lists = s.lists) (hr : t.records = s.records) : t.ListsSound :=
  h.congr hl (fun _ _ => by rw [hr]) fun _ => by rw [hr]

theorem State.ListsSound.makeLive (h : s.ListsSound) (hx : ∀ c : Ch, s.records[x].liveOn c = false)
    (hroom : 60 ≤ x.val ∨ requesterCount s.lists[d.channel] < 6) : (s.makeLive x d time).ListsSound := by
  refine State.listsSound_iff.2 fun c => ?_
  have hc := State.listsSound_iff.1 h c
  by_cases hcd : c = d.channel
  · subst hcd
    have hlist : (s.makeLive x d time).lists[d.channel] =
        listInsert (fun y => (s.makeLive x d time).records[y].rank) x s.lists[d.channel] := by
      rw [State.makeLive_lists, vector_set_at, if_pos rfl]
      rfl
    rw [hlist]
    exact hc.insert (hx _) rfl hroom
  · have hlist : (s.makeLive x d time).lists[c] = s.lists[c] := s.makeLive_lists_ne x time hcd
    rw [hlist]
    have hlive : (Record.live d time).liveOn c = false := decide_eq_false fun e => hcd e.symm
    refine hc.congr (fun y => ?_) fun y hy => ?_
    · rw [State.makeLive_record_at]
      split
      · rename_i hy
        rw [hy, hx, hlive]
      · rfl
    · rw [State.makeLive_record_at, if_neg]
      rintro rfl
      rw [hc.holdsLive, hx] at hy
      exact Bool.false_ne_true hy

/-- A record that is no longer LIVE has left the list it stood on. -/
theorem State.ListsSound.unlive (h : s.ListsSound) {r : Record} (hr : ∀ c : Ch, r.liveOn c = false)
    (hrec : t.records = s.records.set x r)
    (hl : ∀ c : Ch, t.lists[c] = s.lists[c].filter (fun y => y ≠ x) ∨
      (t.lists[c] = s.lists[c] ∧ s.records[x].liveOn c = false)) : t.ListsSound := by
  refine State.listsSound_iff.2 fun c => ?_
  have hc := State.listsSound_iff.1 h c
  have hlist : t.lists[c] = s.lists[c].filter (fun y => y ≠ x) := by
    rcases hl c with e | ⟨e, hx⟩
    · exact e
    · refine e.trans (List.filter_eq_self.2 fun y hy => decide_eq_true ?_).symm
      rintro rfl
      rw [hc.holdsLive, hx] at hy
      exact Bool.false_ne_true hy
  rw [hlist, hrec]
  refine hc.filter _ (fun y hy => ?_) fun y hy => ?_
  · rw [vector_set_at, if_neg (of_decide_eq_true hy)]
  · rw [vector_set_at, if_pos (not_not.1 (of_decide_eq_false hy))]
    exact hr c

theorem State.removeFrom_list_at (s : State) (c c' : Ch) (n : Handle) :
    (s.removeFrom c n).lists[c'] = if c' = c then s.lists[c].filter (fun y => y ≠ n) else s.lists[c'] := vector_set_at ..

/-- Off the list of its channel alone, the record having stood on no other. -/
theorem State.removeFrom_left (hr : s.records[n] = .live d time) (c : Ch) :
    (s.removeFrom d.channel n).lists[c] = s.lists[c].filter (fun y => y ≠ n) ∨
      ((s.removeFrom d.channel n).lists[c] = s.lists[c] ∧ s.records[n].liveOn c = false) := by
  rw [State.removeFrom_list_at]
  by_cases hc : c = d.channel
  · subst hc; rw [if_pos rfl]; exact .inl rfl
  · rw [if_neg hc, hr]; exact .inr ⟨rfl, decide_eq_false fun e => hc e.symm⟩

theorem State.ListsSound.freeRecord (h : s.ListsSound) (n : Handle) : (s.freeRecord n).ListsSound := by
  cases hr : s.records[n] with
  | free => rw [State.freeRecord_free hr]; exact h
  | live d time =>
    rw [State.freeRecord_live hr]
    exact h.unlive (fun _ => rfl) rfl (State.removeFrom_left hr)
  | lapsed d g =>
    rw [State.freeRecord_lapsed hr]
    exact h.unlive (r := .free) (fun _ => rfl) rfl fun c => .inr ⟨rfl, by rw [hr]; rfl⟩

theorem State.freeAll_list_at (s : State) (p : Handle → Bool) (c : Ch) :
    (s.freeAll p).lists[c] = s.lists[c].filter (fun h => !p h) := by
  simp [State.freeAll]

theorem State.ListsSound.freeAll (h : s.ListsSound) (p : Handle → Bool)
    (hrec : ∀ m : Handle, t.records[m] = if p m then .free else s.records[m])
    (hl : ∀ c : Ch, t.lists[c] = s.lists[c].filter (fun h => !p h)) : t.ListsSound := by
  refine State.listsSound_iff.2 fun c => ?_
  rw [hl]
  refine (State.listsSound_iff.1 h c).filter _ (fun y hy => ?_) fun y hy => ?_
  · rw [hrec, if_neg (fun e => by rw [e] at hy; cases hy)]
  · rw [hrec, if_pos (by rwa [Bool.not_eq_false'] at hy)]
    rfl

theorem State.ListsSound.refreshLine (h : s.ListsSound) (n : LineNo) : (s.refreshLine n).ListsSound := by
  rcases s.refreshLine_cases n with ⟨_, _, d, _, _, e⟩ | ⟨_, e⟩ <;> rw [e]
  · refine ((h.freeRecord (lineHandle n)).makeLive (d := d) (time := none) (fun c => ?_) (.inl ?_)).same rfl rfl
    · rw [State.freeRecord_record_at, if_pos rfl]; rfl
    · exact Nat.le_add_right 60 n.val
  · exact h.freeRecord _

/-- A LIVE record repositioned is one taken off its list and made LIVE anew. -/
theorem State.reposition_eq (s : State) (c : Ch) (n : Handle) (d : Demand) (time : Option Nat) :
    ((s.putRecord n .free).removeFrom c n).makeLive n d time = (s.removeFrom c n).makeLive n d time := by
  unfold State.makeLive State.insertOn State.putRecord State.removeFrom
  dsimp only
  rw [Vector.set_set]

/-- The record itself leaves room for its own return. -/
theorem requesterCount_filter_lt {l : List Handle} (hm : n ∈ l) (h60 : n.val < 60) (hc : requesterCount l ≤ 6) :
    requesterCount (l.filter (fun y => y ≠ n)) < 6 := by
  refine Nat.lt_of_lt_of_le ?_ hc
  unfold requesterCount
  rw [List.countP_eq_countP_filter_add l _ (fun y => decide (y ≠ n))]
  refine Nat.lt_add_of_pos_right (List.countP_pos_iff.2 ⟨n, List.mem_filter.2 ⟨hm, ?_⟩, decide_eq_true h60⟩)
  simp

theorem Record.Retimed.liveOn {r r' : Record} (h : Record.Retimed r r') (c : Ch) : r'.liveOn c = r.liveOn c := by
  cases h <;> rfl

theorem Record.Retimed.rank {r r' : Record} (h : Record.Retimed r r') : r'.rank = r.rank := by
  cases h <;> rfl

theorem State.Effect.listsSound {ok : Prop} {k : Drive.Scope} (he : State.Effect ok k s t) (h : s.ListsSound) :
    t.ListsSound := by
  cases he with
  | retimed r hr => exact h.congr rfl (fun y c => (hr y).liveOn c) fun y => (hr y).rank
  | placed n d time h60 ho hf hroom =>
    exact (h.makeLive (fun c => by rw [hf]; rfl) (.inr hroom)).same rfl rfl
  | revived n d time g h60 hr hroom =>
    exact (h.makeLive (fun c => by rw [hr]; rfl) (.inr hroom)).same rfl rfl
  | amended n d d' old time h60 hr hc ho =>
    have hfreed : ((s.putRecord n .free).removeFrom d.channel n).ListsSound :=
      h.unlive (r := .free) (fun _ => rfl) rfl (State.removeFrom_left hr)
    have hmade : (((s.putRecord n .free).removeFrom d.channel n).makeLive n d' time).ListsSound := by
      refine hfreed.makeLive (fun c => ?_) (.inr ?_)
      · rw [State.removeFrom_records, State.putRecord_records, vector_set_at, if_pos rfl]; rfl
      · refine Nat.lt_of_le_of_lt (Nat.le_of_eq (congrArg (fun c : Ch => requesterCount
          ((s.putRecord n .free).removeFrom d.channel n).lists[c]) hc)) ?_
        rw [State.removeFrom_list_at, if_pos rfl]
        refine requesterCount_filter_lt ?_ h60 (h.capacity _)
        show n ∈ s.lists[d.channel]
        rw [h.holdsLive, hr]
        exact decide_eq_true rfl
    rw [State.reposition_eq] at hmade
    exact hmade.same rfl rfl
  | freed n _ => exact (h.freeRecord n).same rfl rfl
  | lapsed n d ms g dr hd hr =>
    exact h.unlive (x := n) (r := .lapsed d g) (fun _ => rfl) rfl (State.removeFrom_left hr)
  | retiredAll m hm =>
    have hrec := State.freeAll_record_at s (fun x => s.records[x].ownedBy m)
    have hlist := State.freeAll_list_at s (fun x => s.records[x].ownedBy m)
    obtain ⟨_, _, e⟩ := s.freeAll_eq (fun x => s.records[x].ownedBy m)
    rw [e] at hrec hlist ⊢
    exact h.freeAll _ hrec hlist
  | restarted =>
    have hrec := State.freeAll_record_at s requesterHandle
    have hlist := State.freeAll_list_at s requesterHandle
    obtain ⟨_, _, e⟩ := s.freeAll_eq requesterHandle
    rw [e] at hrec hlist ⊢
    exact h.freeAll _ hrec hlist
  | lineTurned n l =>
    exact (State.ListsSound.refreshLine (s := { s with lines := s.lines.set n l }) (h.same rfl rfl) n).same rfl rfl
  | bound n b =>
    exact (State.ListsSound.refreshLine
      (s := { s with conf := { s.conf with bindings := s.conf.bindings.set n b } }) (h.same rfl rfl) n).same rfl rfl
  | stored x =>
    obtain ⟨_, _, e⟩ := storeWriteCompletion_eq x s
    rw [e]
    exact h.same rfl rfl
  | _ => exact h.same rfl rfl

theorem State.ListsSound.start (hr : ∀ n : Handle, t.records[n] = .free) (hl : ∀ c : Ch, t.lists[c] = []) :
    t.ListsSound := by
  refine State.listsSound_iff.2 fun c => ?_
  rw [hl]
  refine ⟨fun y => ?_, List.nodup_nil, Nat.zero_le _, List.Pairwise.nil⟩
  rw [hr]
  exact iff_of_false List.not_mem_nil Bool.false_ne_true

theorem State.Ends.listsSound {ok : Prop} {k : Drive.Scope} (he : State.Ends ok k s t) (h : s.ListsSound) :
    t.ListsSound := by
  cases he with
  | quiet he => exact he.listsSound h
  | answers he => exact (he.listsSound h).same rfl rfl
  | rises | falls => exact h.same rfl rfl
  | resets =>
    obtain ⟨hr, _, hl, _⟩ := resetAssert_table s
    exact h.same hl hr
  | starts => exact .start (fun _ => Vector.getElem_replicate ..) fun _ => Vector.getElem_replicate ..

end

end Sys2Proof.Machine
end


section
/-!
O25: what the Channel Sequencers hold of their lists' winners. A command that changes a list hands its channel's pair on,
and no other command touches the pairs.
-/

namespace Sys2Proof.Machine

/-! ### Who keeps a channel's pair -/

/-- The pair of values that a Channel Sequencer holds (R41). -/
def Drive.pairHeld (d : Drive) (c : Ch) : Level × Option Cls := (d.chans[c].wanted, d.chans[c].cls)

section
variable {e : Env} {d d' : Drive} {k : Drive.Scope} {c c' : Ch}

theorem Drive.pairHeld_eq_of_chan (h : d'.chans[c].wanted = d.chans[c].wanted ∧ d'.chans[c].cls = d.chans[c].cls) :
    d'.pairHeld c = d.pairHeld c := Prod.ext h.1 h.2

/-- One channel's record changed, its pair as it was. -/
theorem Drive.pairHeld_eq_of_at {y : Channel} (hw : y.wanted = d.chans[c].wanted) (hc : y.cls = d.chans[c].cls)
    (h : d'.chans[c'] = if c' = c then y else d.chans[c']) : d'.pairHeld c' = d.pairHeld c' := by
  refine Drive.pairHeld_eq_of_chan ?_
  rw [h]
  split
  · rename_i he; rw [he]; exact ⟨hw, hc⟩
  · exact ⟨rfl, rfl⟩

theorem Drive.pairHeld_congr (h : d'.chans = d.chans) (c : Ch) : d'.pairHeld c = d.pairHeld c := by
  unfold Drive.pairHeld
  rw [h]

theorem Drive.shed_pairHeld (d : Drive) (e : Env) (v : Ch) (cause : ShedCause) (c : Ch) :
    (d.shed e v cause).pairHeld c = d.pairHeld c :=
  Drive.pairHeld_eq_of_at (c := v) (y := { d.chans[v].stopped (.waiting .budget) with lastShed := some cause }) rfl rfl
    (d.shed_chan_at e v c cause)

theorem Drive.letIn_pairHeld (d : Drive) (e : Env) (x : Entry) (c : Ch) : (d.letIn e x).pairHeld c = d.pairHeld c := by
  obtain ⟨hw, hc, _⟩ := d.letIn_keeps e x c
  exact Drive.pairHeld_eq_of_chan ⟨hw, hc⟩

theorem Drive.pass_pairHeld (d : Drive) (e : Env) (f : Fin 3) (c : Ch) : (d.pass e f).pairHeld c = d.pairHeld c :=
  Drive.pairHeld_eq_of_chan ⟨d.pass_wanted e f c, d.pass_cls e f c⟩

theorem Drive.passes_pairHeld (d : Drive) (e : Env) (due : List (Fin 3)) (c : Ch) :
    (d.passes e due).pairHeld c = d.pairHeld c :=
  Drive.passes_induct (P := fun d' => d'.pairHeld c = d.pairHeld c) (fun d' f h => (d'.pass_pairHeld e f c).trans h) due d rfl

/-- Only a hand-over touches a pair (R42). -/
theorem Drive.Move.pairHeld (h : Drive.Move e k d d') (hk : k ≠ .handed) (c' : Ch) : d'.pairHeld c' = d.pairHeld c' := by
  cases h with
  | side chans hch => exact Drive.pairHeld_eq_of_chan ⟨(hch c').wanted, (hch c').cls⟩
  | notice | turn | dead | testing | abort | pairs => rfl
  | start | tested => exact Drive.pairHeld_congr (Drive.visitFrom_chans ..) c'
  | opens | unlock => exact Drive.pairHeld_eq_of_at (by rfl) (by rfl) (Drive.modChan_at ..)
  | shed v cause => exact d.shed_pairHeld e v cause c'
  | letIn => exact d.letIn_pairHeld e _ c'
  | enterOn => exact Drive.pairHeld_eq_of_at (by rfl) (by rfl) (Drive.enterOn_chan_at ..)
  | lockOff => exact Drive.pairHeld_eq_of_at (by rfl) (by rfl) (Drive.lockOff_chan_at ..)
  | tripOff => exact Drive.pairHeld_eq_of_at (by rfl) (by rfl) (Drive.tripOff_chan_at ..)
  | @switchOn _ _ c =>
    obtain ⟨w, hw⟩ := d.switchOn_chan_at e c
    exact Drive.pairHeld_eq_of_at (by rfl) (by rfl) (hw c')
  | @goOn _ _ c =>
    obtain ⟨w, hw⟩ := (d.interlockTest_asks e c).chan_at
    exact Drive.pairHeld_eq_of_at (by rfl) (by rfl) (hw c')
  | takePair => exact absurd rfl hk
  | joinFresh => exact Drive.pairHeld_eq_of_at (by rfl) (by rfl) (Drive.joinFresh_chan_at ..)
  | displace c =>
    refine Drive.pairHeld_eq_of_chan ?_
    rw [Drive.displace_chan_at]
    split
    · rename_i he; rw [he.1]; exact ⟨rfl, rfl⟩
    · exact ⟨rfl, rfl⟩

theorem Drive.Moves.pairHeld (h : Drive.Moves e k d d') (hk : k ≠ .handed) (c : Ch) : d'.pairHeld c = d.pairHeld c := by
  induction h with
  | refl => rfl
  | tail _ hm ih => exact (hm.pairHeld hk c).trans ih

theorem Drive.sheds_pairHeld (e : Env) (cause : ShedCause) (l : List Ch) (d : Drive) (c : Ch) :
    (l.foldl (fun d v => d.shed e v cause) d).pairHeld c = d.pairHeld c := by
  induction l generalizing d with
  | nil => rfl
  | cons v l ih => exact (ih _).trans (d.shed_pairHeld e v cause c)

theorem Drive.shedAllLow_pairHeld (d : Drive) (e : Env) (c : Ch) : (d.shedAllLow e).1.pairHeld c = d.pairHeld c := by
  have key : ∀ (l : List (Fin 3)) (r : Drive × List (Fin 3)),
      (l.foldl (fun acc f => ((acc.1.shedLow e f).1, if (acc.1.shedLow e f).2 then f :: acc.2 else acc.2)) r).1.pairHeld c =
        r.1.pairHeld c := by
    intro l
    induction l with
    | nil => exact fun _ => rfl
    | cons f l ih => exact fun r => (ih _).trans (Drive.sheds_pairHeld e .undervolt _ r.1 c)
  exact key allFeeds (d, [])

/-! ### A pair is handed on -/

theorem Drive.takePair_pairHeld (d : Drive) (e : Env) (c : Ch) (wanted : Level) (cls : Option Cls) (c' : Ch) :
    (d.takePair e c wanted cls).1.pairHeld c' = if c' = c then (wanted, cls) else d.pairHeld c' := by
  have hrec : (d.record c wanted cls).pairHeld c' = if c' = c then (wanted, cls) else d.pairHeld c' := by
    unfold Drive.pairHeld
    rw [Drive.record_chan_at]
    split <;> rfl
  have ht := d.takePair_takes e c wanted cls
  generalize (d.takePair e c wanted cls).1 = d' at ht ⊢
  rw [← hrec]
  cases ht with
  | recorded => rfl
  | goesOff => exact Drive.pairHeld_eq_of_at (by rfl) (by rfl) (Drive.goOff_chan_at ..)
  | shed => exact Drive.shed_pairHeld ..
  | requeued => exact Drive.pairHeld_congr (Drive.requeue_chans ..) c'
  | switchesOn =>
    obtain ⟨w, hw⟩ := (d.record c wanted cls).switchOn_chan_at e c
    exact Drive.pairHeld_eq_of_at (by rfl) (by rfl) (hw c')
  | levels =>
    obtain ⟨_, _, _, _, hw⟩ := (d.record c wanted cls).levelInOn_chan_at e c
    exact Drive.pairHeld_eq_of_at (by rfl) (by rfl) (hw c')

/-- Several channels hold their new pairs after they have taken them, and every other channel the one it held. -/
theorem Drive.takePairs_pairHeld (d : Drive) (e : Env) (cs : List Ch) (g : Ch → Level × Option Cls) (c : Ch) :
    (d.takePairs e (cs.map (fun c => (c, g c)))).pairHeld c = if c ∈ cs then g c else d.pairHeld c := by
  have key : ∀ (cs : List Ch) (r : Drive × List (Fin 3)),
      ((cs.map (fun c => (c, g c))).foldl (fun (acc : Drive × List (Fin 3)) n =>
        ((acc.1.takePair e n.1 n.2.1 n.2.2).1,
          if (acc.1.takePair e n.1 n.2.1 n.2.2).2 then e.feedOf n.1 :: acc.2 else acc.2)) r).1.pairHeld c =
        if c ∈ cs then g c else r.1.pairHeld c := by
    intro cs
    induction cs with
    | nil => exact fun _ => (if_neg List.not_mem_nil).symm
    | cons v cs ih =>
      intro r
      refine (ih _).trans ?_
      by_cases hc : c ∈ cs
      · rw [if_pos hc, if_pos (List.mem_cons_of_mem _ hc)]
      · rw [if_neg hc]
        refine (Drive.takePair_pairHeld ..).trans ?_
        by_cases hv : c = v
        · rw [if_pos hv, if_pos (List.mem_cons.2 (.inl hv)), hv]
        · rw [if_neg hv, if_neg (fun h => (List.mem_cons.1 h).elim hv hc)]
  exact (Drive.passes_pairHeld ..).trans (key cs (d, []))

end

/-! ### The winners of a state -/

section
variable {s t u : State} {ok : Prop} {k : Drive.Scope} {n x : Handle} {d : Demand} {time : Option Nat}

theorem State.handOver_pairHeld (s : State) (cs : List Ch) (c : Ch) :
    (s.handOver cs).drive.pairHeld c = if c ∈ cs then s.winnerPair c else s.drive.pairHeld c :=
  Drive.takePairs_pairHeld ..

/-- Where each list whose winner may have changed is handed on, the Sequencers hold their winners. -/
theorem State.WinnersHeld.handOver (h : s.WinnersHeld) {cs : List Ch} (hd : ∀ c : Ch, t.drive.pairHeld c = s.drive.pairHeld c)
    (hw : ∀ c : Ch, c ∉ cs → t.winnerPair c = s.winnerPair c) : (t.handOver cs).WinnersHeld := by
  intro c
  show (t.handOver cs).drive.pairHeld c = t.winnerPair c
  rw [State.handOver_pairHeld]
  split
  · rfl
  · rw [hd, hw c ‹_›]
    exact h c

/-- The winner's record as far as its pair shows it. -/
def Record.shownPair : Record → Level × Option Cls
  | .live d _ => (d.level, some d.cls)
  | .free | .lapsed _ _ => (.off, none)

theorem State.winnerPair_eq (s : State) (c : Ch) :
    s.winnerPair c = (s.lists[c].head?.map (fun h => s.records[h].shownPair)).getD (.off, none) := by
  unfold State.winnerPair
  generalize s.lists[c] = l
  cases l <;> rfl

/-- A list as it was, with its records as they were, has the winner it had. -/
theorem State.winnerPair_congr {c : Ch} (hl : t.lists[c] = s.lists[c])
    (hr : ∀ y ∈ s.lists[c], t.records[y].shownPair = s.records[y].shownPair) : t.winnerPair c = s.winnerPair c := by
  rw [State.winnerPair_eq, State.winnerPair_eq, hl]
  generalize s.lists[c] = l at hr
  cases l with
  | nil => rfl
  | cons y l => exact hr y List.mem_cons_self

theorem State.WinnersHeld.congr (h : s.WinnersHeld) (hd : ∀ c : Ch, t.drive.pairHeld c = s.drive.pairHeld c)
    (hl : t.lists = s.lists) (hr : ∀ y : Handle, t.records[y].shownPair = s.records[y].shownPair) : t.WinnersHeld := by
  intro c
  show t.drive.pairHeld c = t.winnerPair c
  rw [hd, State.winnerPair_congr (by rw [hl]) fun y _ => hr y]
  exact h c

theorem Record.Retimed.shownPair {r r' : Record} (h : Record.Retimed r r') : r'.shownPair = r.shownPair := by
  cases h <;> rfl

/-- A record on no list of a channel may change and leaves the channel its winner. -/
theorem State.winnerPair_set {c : Ch} {r : Record} (hs : s.ListsSound) (hx : s.records[x].liveOn c = false)
    (hr : t.records = s.records.set x r) (hl : t.lists[c] = s.lists[c]) : t.winnerPair c = s.winnerPair c := by
  refine State.winnerPair_congr hl fun y hy => ?_
  rw [hr, vector_set_at, if_neg]
  rintro rfl
  rw [hs.holdsLive, hx] at hy
  exact Bool.false_ne_true hy

theorem Record.liveOn_of_live {c : Ch} (h : c ∉ [d.channel]) : (Record.live d time).liveOn c = false :=
  decide_eq_false fun e => h (List.mem_singleton.2 e.symm)

theorem State.makeLive_winnerPair {c : Ch} (hs : s.ListsSound) (hx : s.records[x].liveOn c = false) (hc : c ∉ [d.channel]) :
    (s.makeLive x d time).winnerPair c = s.winnerPair c :=
  State.winnerPair_set hs hx rfl (s.makeLive_lists_ne x time fun e => hc (List.mem_singleton.2 e))

theorem State.removeFrom_list_ne (s : State) {c c' : Ch} (n : Handle) (h : c ∉ [c']) :
    (s.removeFrom c' n).lists[c] = s.lists[c] := by
  rw [State.removeFrom_list_at, if_neg (fun e => h (List.mem_singleton.2 e))]

theorem State.freeRecord_winnerPair {c : Ch} (hs : s.ListsSound) (hc : c ∉ s.records[n].liveChannel) :
    (s.freeRecord n).winnerPair c = s.winnerPair c := by
  cases hr : s.records[n] with
  | free => rw [State.freeRecord_free hr]
  | live d time =>
    rw [hr] at hc
    rw [State.freeRecord_live hr]
    exact State.winnerPair_set hs (by rw [hr]; exact Record.liveOn_of_live hc) rfl (State.removeFrom_list_ne _ n hc)
  | lapsed d g =>
    rw [State.freeRecord_lapsed hr]
    exact State.winnerPair_set (r := .free) hs (by rw [hr]; rfl) rfl rfl

/-- Every channel that a line's record leaves or joins hands on its pair (R43). -/
theorem State.WinnersHeld.settleLine (h : s.WinnersHeld) (hs : s.ListsSound) (n : LineNo) : (s.settleLine n).WinnersHeld := by
  obtain ⟨_, _, _, e⟩ := s.refreshLine_eq n
  refine State.WinnersHeld.handOver (t := s.refreshLine n) h (fun c => by rw [e]) fun c hc => ?_
  have hmem := (not_congr List.mem_filter).1 hc
  rw [not_and] at hmem
  have hout := hmem (mem_allChans c)
  rw [Bool.or_eq_true, not_or, List.contains_iff_mem, List.contains_iff_mem] at hout
  obtain ⟨hbefore, hafter⟩ := hout
  have hfreed := State.freeRecord_winnerPair hs hbefore
  rcases s.refreshLine_cases n with ⟨_, _, d, _, _, e⟩ | ⟨_, e⟩ <;> rw [e] at hafter ⊢
  · have hrec : (((s.freeRecord (lineHandle n)).makeLive (lineHandle n) d none).raiseHeld d.owner).records[lineHandle n] =
        .live d none := (State.makeLive_record_at ..).trans (if_pos rfl)
    rw [hrec] at hafter
    refine Eq.trans ?_ hfreed
    exact State.makeLive_winnerPair (hs.freeRecord _) (by rw [State.freeRecord_record_at, if_pos rfl]; rfl) hafter
  · exact hfreed

/-- An effect that is no hand-over and leaves the pairs, or a hand-over, keeps the winners held. -/
theorem State.Effect.winnersHeld (he : State.Effect ok k s t) (hs : s.ListsSound) (h : s.WinnersHeld)
    (hk : k ≠ .handed → ∀ c : Ch, t.drive.pairHeld c = s.drive.pairHeld c) : t.WinnersHeld := by
  cases he with
  | same => exact h
  | drive d hn => exact h.congr (hk hn) rfl fun _ => rfl
  | sensed c sense d hn => exact h.congr (hk hn) rfl fun _ => rfl
  | supplied x d hn => exact h.congr (hk hn) rfl fun _ => rfl
  | configured x d hn => exact h.congr (hk hn) rfl fun _ => rfl
  | pwm hn => exact h.congr (hk hn) rfl fun _ => rfl
  | stored x hn =>
    have hp := hk hn
    obtain ⟨_, _, e⟩ := storeWriteCompletion_eq x s
    rw [e] at hp ⊢
    exact h.congr hp rfl fun _ => rfl
  | storing => exact h.congr (fun _ => rfl) rfl fun _ => rfl
  | filtered => exact h.congr (fun _ => rfl) rfl fun _ => rfl
  | retimed r hr => exact h.congr (fun _ => rfl) rfl fun y => (hr y).shownPair
  | placed n d time h60 ho hf =>
    refine h.handOver (fun _ => rfl) fun c hc => ?_
    exact State.makeLive_winnerPair hs (by rw [hf]; rfl) hc
  | revived n d time g h60 hr =>
    refine h.handOver (fun _ => rfl) fun c hc => ?_
    exact State.makeLive_winnerPair hs (by rw [hr]; rfl) hc
  | amended n d d' old time h60 hr hch ho =>
    refine h.handOver (fun _ => rfl) fun c hc => ?_
    refine State.winnerPair_set hs (x := n) (by rw [hr]; exact Record.liveOn_of_live hc) rfl ?_
    refine Eq.trans ?_ (State.removeFrom_list_ne s n hc)
    exact State.makeLive_lists_ne _ n time fun e => hc (List.mem_singleton.2 (e.trans hch))
  | freed n hn =>
    obtain ⟨_, _, _, e⟩ := s.freeRecord_eq n
    exact h.handOver (fun c => by rw [e]) fun c hc => State.freeRecord_winnerPair hs hc
  | lapsed n d ms g dr hd hr =>
    refine h.handOver (fun c => Drive.pairHeld_congr hd c) fun c hc => ?_
    exact State.winnerPair_set hs (x := n) (by rw [hr]; exact Record.liveOn_of_live hc) rfl
      (State.removeFrom_list_ne s n hc)
  | retiredAll m hm =>
    obtain ⟨_, _, e⟩ := s.freeAll_eq (fun x => s.records[x].ownedBy m)
    rw [e]
    exact h.handOver (fun _ => rfl) fun c hc => absurd (mem_allChans c) hc
  | restarted =>
    obtain ⟨_, _, e⟩ := s.freeAll_eq requesterHandle
    rw [e]
    exact h.handOver (fun _ => rfl) fun c hc => absurd (mem_allChans c) hc
  | lineTurned n l =>
    exact State.WinnersHeld.settleLine (s := { s with lines := s.lines.set n l })
      (h.congr (fun _ => rfl) rfl fun _ => rfl) (hs.same rfl rfl) n
  | bound n b =>
    exact State.WinnersHeld.settleLine (s := { s with conf := { s.conf with bindings := s.conf.bindings.set n b } })
      (h.congr (fun _ => rfl) rfl fun _ => rfl) (hs.same rfl rfl) n

theorem State.WinnersHeld.start {conf : Configuration} {valid : Bool} (hd : t.drive = startDrive conf valid)
    (hl : ∀ c : Ch, t.lists[c] = []) : t.WinnersHeld := by
  intro c
  rw [State.winnerPair_eq, hl, hd, startDrive_chans]
  rfl

theorem powerOn_drive (s : State) : (powerOn s).drive = startDrive (powerOn s).conf s.cutStore.store.image.agrees := rfl

theorem powerOn_lists (s : State) : (powerOn s).lists = Vector.replicate 16 [] := rfl

/-- A command that hands no pair on leaves the pairs, or is power-on. -/
theorem State.DriveChange.pairHeld (h : State.DriveChange k s t) (hk : k ≠ .handed) :
    (∀ c : Ch, t.drive.pairHeld c = s.drive.pairHeld c) ∨ t.WinnersHeld := by
  cases h with
  | moves h => exact .inl (h.moves.pairHeld hk)
  | configured _ _ _ _ hd => exact .inl fun c => by rw [hd]
  | lowered f budget _ _ hd =>
    refine .inl fun c => ?_
    rw [hd]
    exact Drive.shedDown_induct (P := fun d' => d'.pairHeld c = s.drive.pairHeld c)
      (fun d' v h _ => (d'.shed_pairHeld t.env v .budget c).trans h) _ s.drive rfl
  | supplyLow _ _ hd =>
    refine .inl fun c => ?_
    rw [hd]
    refine (Drive.pairHeld_congr (Drive.setKind_chans _ .supply) c).trans ?_
    exact (Drive.passes_pairHeld ..).trans (Drive.shedAllLow_pairHeld ..)
  | powerOn valid hd hl => exact .inr (.start hd hl)

theorem exec_winnersHeld {i : Instr} (hx : exec i s = .next t) (hs : s.ListsSound) (h : s.WinnersHeld) : t.WinnersHeld := by
  by_cases hkept : scopeOf i ≠ .handed → ∀ c : Ch, t.drive.pairHeld c = s.drive.pairHeld c
  · have he := exec_ends hx
    generalize scopeOf i = k at he hkept
    cases he with
    | quiet he => exact he.winnersHeld hs h hkept
    | answers he => exact (he.winnersHeld hs h hkept).congr (fun _ => rfl) rfl fun _ => rfl
    | rises | falls => exact h.congr (fun _ => rfl) rfl fun _ => rfl
    | resets =>
      obtain ⟨hr, _, hl, _, _, hd, _⟩ := resetAssert_table s
      exact h.congr (fun _ => by rw [hd]) hl fun _ => by rw [hr]
    | starts => exact .start (powerOn_drive s) fun _ => powerOn_lists s ▸ Vector.getElem_replicate ..
  · obtain ⟨hk, hne⟩ := Classical.not_imp.1 hkept
    exact ((exec_driveChange hx).pairHeld hk).resolve_left hne

/-- Settles O25: an effect inserts and removes list by list, and hands on every list that it touches. -/
theorem listsHoldLiveRecords : Obligations.ListsHoldLiveRecords := by
  unfold Obligations.ListsHoldLiveRecords
  intro s t h hs
  rcases step_cases hs with ⟨_, rfl⟩ | ⟨i, rest, _, hx⟩
  · have hr := s.tick_records
    have hl : s.tick.lists = s.lists := by
      unfold State.tick
      split <;> rfl
    refine ⟨h.congr hl (fun y c => (hr y).liveOn c) fun y => (hr y).rank, fun hw => ?_⟩
    exact hw.congr (s.tick_moves.moves.pairHeld (k := .inner) nofun) hl fun y => (hr y).shownPair
  · have h' : ({ s with pending := rest } : State).ListsSound := h.same rfl rfl
    exact ⟨(exec_ends hx).listsSound h', fun hw =>
      exec_winnersHeld hx h' (State.WinnersHeld.congr (s := s) hw (fun _ => rfl) rfl fun _ => rfl)⟩

end

end Sys2Proof.Machine
end


section
/-!
O40: the retry count, the heat accumulator and the open-load counter stay in their bounds; and the induction over what a
command does to the drive side that the laws of the generator and of the check unit use too.
-/

namespace Sys2Proof.Machine

/-! ### Laws that every move and every shed keep -/

section
variable {e : Env} {d d' : Drive} {k : Drive.Scope} {s t : State} {c : Ch}

theorem Drive.sheds_induct {P : Drive → Prop} {cause : ShedCause} (hs : ∀ (d : Drive) (v : Ch), P d → P (d.shed e v cause))
    (l : List Ch) (d : Drive) (hd : P d) : P (l.foldl (fun d v => d.shed e v cause) d) :=
  List.foldlRecOn l _ (motive := P) hd fun d hd v _ => hs d v hd

/-- What every shed keeps, the sheds of R117 step 1 keep. -/
theorem Drive.shedAllLow_induct {P : Drive → Prop} (hs : ∀ (d : Drive) (v : Ch), P d → P (d.shed e v .undervolt))
    (d : Drive) (hd : P d) : P (d.shedAllLow e).1 := by
  have key : ∀ (l : List (Fin 3)) (r : Drive × List (Fin 3)), P r.1 →
      P (l.foldl (fun acc f => ((acc.1.shedLow e f).1, if (acc.1.shedLow e f).2 then f :: acc.2 else acc.2)) r).1 := by
    intro l
    induction l with
    | nil => exact fun _ hr => hr
    | cons f l ih => exact fun r hr => ih _ (Drive.sheds_induct hs _ r.1 hr)
  exact key allFeeds (d, []) hd

theorem Drive.Moves.induct {P : Drive → Prop} (hmove : ∀ d d' : Drive, P d → Drive.Move e k d d' → P d')
    (h : Drive.Moves e k d d') (hd : P d) : P d' := by
  induction h with
  | refl => exact hd
  | tail _ hm ih => exact hmove _ _ ih hm

/-- A law of the drive side that every move and every shed keep, and that holds at power-on, every command keeps. The
settings of a channel change under the law in DISABLED alone. -/
theorem State.DriveChange.induct {P : Drive → Prop} (hmove : ∀ d d' : Drive, P d → Drive.Move t.env k d d' → P d')
    (hshed : ∀ (d : Drive) (v : Ch) (cause : ShedCause), P d → P (d.shed t.env v cause))
    (hstart : ∀ valid, P (startDrive t.conf valid)) (h : State.DriveChange k s t)
    (hs : (∀ c : Ch, t.conf.channels[c] = s.conf.channels[c] ∨ s.drive.chans[c].state = .disabled) → P s.drive) :
    P t.drive := by
  cases h with
  | moves h => exact h.moves.induct hmove (hs fun c => .inl (by rw [h.channels]))
  | configured c cfg hdis hconf hd =>
    rw [hd]
    refine hs fun c' => ?_
    have hat : t.conf.channels[c'] = if c' = c then cfg else s.conf.channels[c'] := by rw [hconf]; exact vector_set_at ..
    rw [hat]
    by_cases hc : c' = c
    · subst hc; exact .inr hdis
    · rw [if_neg hc]; exact .inl rfl
  | lowered f budget hb hconf hd =>
    rw [hd]
    exact Drive.shedDown_induct (fun d v hd _ => hshed d v .budget hd) _ _ (hs fun c => .inl (by rw [hconf]))
  | supplyLow hconf hl hd =>
    rw [hd]
    have hsheds : P (s.drive.shedAllLow t.env).1 :=
      Drive.shedAllLow_induct (fun d v hd => hshed d v .undervolt hd) _ (hs fun c => .inl (by rw [hconf]))
    exact Drive.Moves.induct hmove ((Drive.Moves.passes (k := k) .refl _).tail (.notice _)) hsheds
  | powerOn valid hd => rw [hd]; exact hstart valid

/-! ### The retry count (R66, R72) -/

/-- The retry count is within the limit, and 0 in DISABLED. -/
def Channel.RetriesOk (cfg : ChannelConfig) (x : Channel) : Prop :=
  x.retries ≤ cfg.retryLimit ∧ (x.state = .disabled → x.retries = 0)

theorem Channel.Turn.retriesOk {cfg : ChannelConfig} {x y : Channel} (h : Channel.Turn e cfg x y) (hx : x.RetriesOk cfg) :
    y.RetriesOk cfg := by
  obtain ⟨hle, hdis⟩ := hx
  cases h with
  | side h =>
    unfold Channel.RetriesOk
    rw [h.state]
    rcases h.retries with hr | hr <;> rw [hr]
    · exact ⟨hle, hdis⟩
    · exact ⟨Nat.zero_le _, fun _ => rfl⟩
  | stops _ _ _ hr hz =>
    refine ⟨?_, hz⟩
    rcases hr with hr | hr | ⟨hlt, hr⟩ <;> rw [hr]
    · exact hle
    · exact Nat.zero_le _
    · exact hlt
  | unlocks _ hy => rw [hy]; exact ⟨Nat.zero_le _, fun _ => rfl⟩
  | opens _ _ _ _ _ hy => rw [hy]; exact ⟨hle, hdis⟩
  | records _ _ hy => rw [hy]; exact ⟨hle, hdis⟩
  | levels _ _ _ _ _ _ _ hy => rw [hy]; exact ⟨hle, hdis⟩
  | upgraded _ _ _ hy => rw [hy]; exact ⟨hle, hdis⟩
  | waits _ _ _ _ hy => rw [hy]; exact ⟨hle, fun h => ChanState.noConfusion h⟩
  | admitted hy => rw [hy]; exact ⟨hle, fun h => ChanState.noConfusion h⟩
  | admittedOn hy => rw [hy]; exact ⟨hle, fun h => ChanState.noConfusion h⟩
  | enters _ _ _ _ hy => rw [hy]; exact ⟨hle, fun h => ChanState.noConfusion h⟩

/-- A shed leaves every channel's retries, and no channel DISABLED. -/
theorem Drive.shed_retriesOk {cfg : ChannelConfig} (v : Ch) (cause : ShedCause) (h : d.chans[c].RetriesOk cfg) :
    (d.shed e v cause).chans[c].RetriesOk cfg := by
  rw [Drive.shed_chan_at]
  split
  · rename_i hc
    subst hc
    exact ⟨h.1, fun h => ChanState.noConfusion h⟩
  · exact h

theorem State.DriveChange.retriesBounded (h : State.DriveChange k s t) (hs : s.RetriesBounded) : t.RetriesBounded := by
  refine h.induct (P := fun d => ∀ c : Ch, d.chans[c].RetriesOk t.conf.channels[c])
    (fun d d' hd hm c => (hm.chanTurn c).retriesOk (hd c)) (fun d v cause hd c => Drive.shed_retriesOk v cause (hd c))
    (fun valid c => ?_) fun hconf c => ?_
  · rw [startDrive_chans]
    exact ⟨Nat.zero_le _, fun _ => rfl⟩
  · rcases hconf c with he | hdis
    · rw [he]; exact hs c
    · have := (hs c).2 hdis
      exact ⟨by rw [this]; exact Nat.zero_le _, fun _ => this⟩

/-! ### Open load (R96, R97) -/

/-- How a move can change a channel's state where it is driven afterwards: an admission takes a queued channel up, and
an INRUSH ends. -/
theorem Drive.Move.drivenState (h : Drive.Move e k d d') (c : Ch) (hd : d'.chans[c].state.driven = true) :
    d'.chans[c].state = d.chans[c].state ∨ (d.chans[c].state = .inrush ∧ d'.chans[c].state = .on) ∨
      (d' = d.letIn e ⟨c, .fresh⟩ ∧ ∃ f : Fin 3, ⟨c, .fresh⟩ ∈ d.feeds[f].queue) := by
  have same (hch : d'.chans[c] = d.chans[c]) : d'.chans[c].state = d.chans[c].state := by rw [hch]
  -- One channel's record changes, and a driven one keeps its state.
  have one {c0 : Ch} {y : Channel} (hat : d'.chans[c] = if c = c0 then y else d.chans[c])
      (hy : y.state.driven = true → y.state = d.chans[c0].state) : d'.chans[c].state = d.chans[c].state := by
    rw [hat] at hd ⊢
    split
    · rename_i hc
      rw [if_pos hc] at hd
      rw [hc]
      exact hy hd
    · rfl
  -- A channel taken to WAITING is not driven.
  have waits {c0 : Ch} {w : WaitCause} (hat : d'.chans[c] =
      if c = c0 then { d.chans[c0] with state := .waiting w } else d.chans[c]) :
      d'.chans[c].state = d.chans[c].state := one hat fun h => Bool.noConfusion h
  cases h with
  | side chans hch => exact .inl (hch c).state
  | notice | turn | dead | testing | abort | pairs => exact .inl rfl
  | start | tested => exact .inl (congrArg Channel.state (congrArg (fun v : Vector Channel 16 => v[c]) (Drive.visitFrom_chans ..)))
  | opens => exact .inl (one (Drive.modChan_at ..) fun _ => rfl)
  | shed v cause => exact .inl (one (Drive.shed_chan_at ..) fun h => Bool.noConfusion h)
  | @letIn _ _ f x hx =>
    obtain ⟨c0, kind⟩ := x
    cases kind with
    | upgrade => exact .inl (one (Drive.admitUpgrade_chan_at ..) fun _ => rfl)
    | fresh =>
      by_cases hc : c = c0
      · subst hc; exact .inr (.inr ⟨rfl, f, hx⟩)
      · exact .inl (same (d.letIn_chan_ne e ⟨c0, .fresh⟩ hc))
  | @enterOn _ _ c0 hs =>
    by_cases hc : c = c0
    · subst hc
      exact .inr (.inl ⟨hs, by rw [Drive.enterOn_chan_at, if_pos rfl]⟩)
    · exact .inl (same (by rw [Drive.enterOn_chan_at, if_neg hc]))
  | lockOff => exact .inl (one (Drive.lockOff_chan_at ..) fun h => Bool.noConfusion h)
  | unlock => exact .inl (one (Drive.modChan_at ..) fun h => Bool.noConfusion h)
  | tripOff =>
    refine .inl (one (Drive.tripOff_chan_at ..) fun h => ?_)
    unfold Channel.afterTrip Channel.stopped at h
    dsimp only at h
    split at h <;> exact Bool.noConfusion h
  | @switchOn _ _ c0 =>
    obtain ⟨w, hw⟩ := d.switchOn_chan_at e c0
    exact .inl (waits (hw c))
  | @goOn _ _ c0 =>
    obtain ⟨w, hw⟩ := (d.interlockTest_asks e c0).chan_at
    exact .inl (waits (hw c))
  | joinFresh => exact .inl (waits (Drive.joinFresh_chan_at ..))
  | displace c0 =>
    refine .inl ?_
    rw [Drive.displace_chan_at] at hd ⊢
    split
    · rename_i h
      rw [if_pos h] at hd
      exact Bool.noConfusion hd
    · rfl
  | takePair c0 wanted cls =>
    have hrec : (d.record c0 wanted cls).chans[c] =
        if c = c0 then { d.chans[c0] with wanted := wanted, cls := cls } else d.chans[c] := d.record_chan_at ..
    have hself : (d.record c0 wanted cls).chans[c0].state = d.chans[c0].state := by
      rw [Drive.record_chan_at, if_pos rfl]
    have hst : (d.record c0 wanted cls).chans[c].state = d.chans[c].state := by
      rw [hrec]
      split
      · rename_i hc; rw [hc]
      · rfl
    have ht := d.takePair_takes e c0 wanted cls
    generalize (d.takePair e c0 wanted cls).1 = d' at *
    refine .inl (Eq.trans ?_ hst)
    have one {y : Channel} (hat : d'.chans[c] = if c = c0 then y else (d.record c0 wanted cls).chans[c])
        (hy : y.state.driven = true → y.state = (d.record c0 wanted cls).chans[c0].state) :
        d'.chans[c].state = (d.record c0 wanted cls).chans[c].state := by
      rw [hat] at hd ⊢
      split
      · rename_i hc
        rw [if_pos hc] at hd
        rw [hc]
        exact hy hd
      · rfl
    cases ht with
    | recorded => rfl
    | goesOff => exact one (Drive.goOff_chan_at ..) fun h => Bool.noConfusion h
    | shed => exact one (Drive.shed_chan_at ..) fun h => Bool.noConfusion h
    | requeued => rw [Drive.requeue_chans]
    | switchesOn =>
      obtain ⟨w, hw⟩ := (d.record c0 wanted cls).switchOn_chan_at e c0
      exact one (hw c) fun h => Bool.noConfusion h
    | levels =>
      obtain ⟨_, _, _, _, hw⟩ := (d.record c0 wanted cls).levelInOn_chan_at e c0
      exact one (hw c) fun _ => rfl

/-- The open-load counter is below 100, and it or the flag stands in ON alone, where the load is watched. -/
def Channel.OpenOk (cfg : ChannelConfig) (x : Channel) : Prop :=
  x.openCount ≤ 99 ∧ (x.openFlag = true ∨ x.openCount ≠ 0 → x.state = .on ∧ cfg.openLoadLevel ≠ 0)

theorem Channel.OpenOk.of_clear {cfg : ChannelConfig} {x : Channel} (hf : x.openFlag = false) (hn : x.openCount = 0) :
    x.OpenOk cfg := by
  refine ⟨by rw [hn]; exact Nat.zero_le _, fun h => ?_⟩
  rw [hf, hn] at h
  exact absurd h (by decide)

theorem Channel.OpenOk.clear {cfg : ChannelConfig} {x : Channel} (h : x.OpenOk cfg) (hs : x.state ≠ .on) :
    x.openFlag = false ∧ x.openCount = 0 := by
  by_contra hne
  refine hs (h.2 ?_).1
  by_cases hf : x.openFlag = true
  · exact .inl hf
  · exact .inr fun hn => hne ⟨Bool.eq_false_iff.2 hf, hn⟩

theorem Channel.Turn.openOk {cfg : ChannelConfig} {x y : Channel} (h : Channel.Turn e cfg x y) (hx : x.OpenOk cfg)
    (hin : y.state = .inrush → x.state ≠ .on) : y.OpenOk cfg := by
  have undriven (hs : x.state.driven = false) : x.openFlag = false ∧ x.openCount = 0 :=
    hx.clear fun h => by rw [h] at hs; exact Bool.noConfusion hs
  cases h with
  | side h =>
    unfold Channel.OpenOk
    rw [h.openCount, h.openFlag, h.state]
    exact hx
  | opens flag n hs hl hn hy => rw [hy]; exact ⟨hn, fun _ => ⟨hs, hl⟩⟩
  | stops _ _ ho => exact .of_clear ho.1 ho.2
  | waits _ _ _ hd hy =>
    obtain ⟨hf, hn⟩ := undriven hd
    rw [hy]
    exact .of_clear hf hn
  | unlocks hs hy =>
    obtain ⟨hf, hn⟩ := undriven (by rw [hs]; rfl)
    rw [hy]
    exact .of_clear hf hn
  | records _ _ hy => rw [hy]; exact hx
  | levels _ _ _ _ _ _ _ hy => rw [hy]; exact hx
  | upgraded _ _ _ hy => rw [hy]; exact hx
  | admitted hy =>
    obtain ⟨hf, hn⟩ := hx.clear (hin (by rw [hy]; rfl))
    rw [hy]
    exact .of_clear hf hn
  | admittedOn hy => rw [hy]; exact .of_clear rfl rfl
  | enters _ _ _ _ hy => rw [hy]; exact .of_clear rfl rfl

/-- A queued fresh entry's channel is not in ON, so an admission finds its open load clear. -/
theorem Drive.Move.openOk (h : Drive.Move e k d d') (hf : d.FeedsSound e.conf) {cfg : ChannelConfig} (hcfg : e.cfg c = cfg)
    (hd : d.chans[c].OpenOk cfg) : d'.chans[c].OpenOk cfg := by
  subst hcfg
  refine (h.chanTurn c).openOk hd fun hs hon => ?_
  rcases h.drivenState c (by rw [hs]; rfl) with he | ⟨he, _⟩ | ⟨_, f, hq⟩
  · rw [hs, hon] at he; cases he
  · rw [hon] at he; cases he
  · have := ((hf.queue f _).1 hq).2
    unfold Channel.entryKind at this
    rw [hon] at this
    dsimp only at this
    split at this <;> cases this

theorem Drive.shed_openOk {cfg : ChannelConfig} (v : Ch) (cause : ShedCause) (h : d.chans[c].OpenOk cfg) :
    (d.shed e v cause).chans[c].OpenOk cfg := by
  rw [Drive.shed_chan_at]
  split
  · exact .of_clear rfl rfl
  · exact h

theorem Drive.Moves.openOk (hm : Drive.Moves e k d d') (hf : d.FeedsSound e.conf) (hcfg : ∀ c : Ch, (e.cfg c).WellFormed)
    (hd : ∀ c : Ch, d.chans[c].OpenOk (e.cfg c)) : ∀ c : Ch, d'.chans[c].OpenOk (e.cfg c) := by
  induction hm with
  | refl => exact hd
  | tail hm hm' ih => exact fun c => hm'.openOk (hf.moves hcfg hm) rfl (ih c)

theorem State.DriveChange.openFlagsInOn (hc : s.ConfSound) (hf : s.FeedsSound) (h : State.DriveChange k s t)
    (hs : s.OpenFlagsInOn) : t.OpenFlagsInOn := by
  cases h with
  | moves h =>
    have hcfg (c : Ch) : t.env.cfg c = s.conf.channels[c] :=
      congrArg (fun v : Vector ChannelConfig 16 => v[c]) h.channels
    refine h.moves.openOk (hf.conf_mono h.channels h.budgets) (fun c => by rw [hcfg]; exact hc.channel c) fun c => ?_
    rw [hcfg]
    exact hs c
  | configured c cfg hdis hconf hd =>
    intro c'
    show t.drive.chans[c'].OpenOk t.conf.channels[c']
    have hat : t.conf.channels[c'] = if c' = c then cfg else s.conf.channels[c'] := by rw [hconf]; exact vector_set_at ..
    rw [hd, hat]
    have hold : s.drive.chans[c'].OpenOk s.conf.channels[c'] := hs c'
    split
    · rename_i hcc
      subst hcc
      obtain ⟨h1, h2⟩ := hold.clear (by rw [hdis]; exact ChanState.noConfusion)
      exact .of_clear h1 h2
    · exact hold
  | lowered f budget hb hconf hd =>
    intro c
    rw [hd]
    have hold : s.drive.chans[c].OpenOk t.conf.channels[c] := by rw [hconf]; exact hs c
    exact Drive.shedDown_induct (P := fun d => d.chans[c].OpenOk t.conf.channels[c])
      (fun d v hd _ => Drive.shed_openOk v .budget hd) _ _ hold
  | supplyLow hconf hl hd =>
    have hf' : s.drive.FeedsSound t.env.conf := hf.conf_mono (congrArg _ hconf)
      (fun f => Nat.le_of_eq (congrArg (fun x : Configuration => x.budgets[f]) hconf).symm)
    have hcfg (c : Ch) : t.env.cfg c = s.conf.channels[c] :=
      congrArg (fun x : Configuration => x.channels[c]) hconf
    have hm := hf'.setLow (k := k)
    rw [← hd] at hm
    refine hm.openOk hf' (fun c => by rw [hcfg]; exact hc.channel c) fun c => ?_
    rw [hcfg]
    exact hs c
  | powerOn valid hd =>
    intro c
    rw [hd, startDrive_chans]
    exact Channel.OpenOk.of_clear (cfg := t.conf.channels[c]) rfl rfl

/-! ### Heat (R87) -/

theorem heatStep_le {k target heat bound : Nat} (ht : target ≤ bound) (hh : heat ≤ bound) : heatStep k target heat ≤ bound := by
  unfold heatStep
  split
  · have := Nat.div_le_self (target - heat) (2 ^ k)
    omega
  · split <;> omega

theorem Channel.effectiveSquare_le (x : Channel) (i : Nat) : x.effectiveSquare i ≤ i * i := by
  unfold Channel.effectiveSquare
  split
  · rename_i d _
    split
    · refine Nat.div_le_of_le_mul ?_
      rw [Nat.mul_comm 64]
      exact Nat.mul_le_mul_left _ (Nat.le_of_lt d.isLt)
    · exact Nat.le_refl _
  all_goals exact Nat.le_refl _

theorem takeSample_heat_le {sense : Nat} (h : s.monitors[c].heat ≤ maxHeat) : (takeSample s c sense).monitor.heat ≤ maxHeat := by
  refine heatStep_le ?_ h
  have hi : (if s.drive.onTick c = true then min maxCurrent sense else 0) ≤ 1023 := by
    split
    · exact Nat.min_le_left _ _
    · exact Nat.zero_le _
  calc s.drive.chans[c].effectiveSquare (if s.drive.onTick c = true then min maxCurrent sense else 0) * 256
      ≤ 1023 * 1023 * 256 := Nat.mul_le_mul_right _ ((Channel.effectiveSquare_le ..).trans (Nat.mul_le_mul hi hi))
    _ = maxHeat := rfl

theorem State.HeatBounded.congr (h : s.HeatBounded) (hm : t.monitors = s.monitors) : t.HeatBounded :=
  fun c => by rw [hm]; exact h c

theorem State.Effect.heatBounded {ok : Prop} (he : State.Effect ok k s t) (h : s.HeatBounded) : t.HeatBounded := by
  cases he with
  | sensed c sense =>
    intro c'
    show (s.monitors.set c (takeSample s c sense).monitor)[c'].heat ≤ maxHeat
    rw [vector_set_at]
    split
    · exact takeSample_heat_le (h c)
    · exact h c'
  | freed n =>
    obtain ⟨_, _, _, e⟩ := s.freeRecord_eq n
    rw [e]
    exact h.congr rfl
  | retiredAll m =>
    obtain ⟨_, _, e⟩ := s.freeAll_eq (fun h => s.records[h].ownedBy m)
    rw [e]
    exact h.congr rfl
  | restarted =>
    obtain ⟨_, _, e⟩ := s.freeAll_eq requesterHandle
    rw [e]
    exact h.congr rfl
  | lineTurned n l =>
    obtain ⟨_, _, _, _, e⟩ := ({ s with lines := s.lines.set n l } : State).settleLine_eq n
    rw [e]
    exact h.congr rfl
  | bound n b =>
    obtain ⟨_, _, _, _, e⟩ :=
      ({ s with conf := { s.conf with bindings := s.conf.bindings.set n b } } : State).settleLine_eq n
    rw [e]
    exact h.congr rfl
  | stored x =>
    obtain ⟨_, _, e⟩ := storeWriteCompletion_eq x s
    rw [e]
    exact h.congr rfl
  | _ => exact h.congr rfl

theorem powerOn_monitors (s : State) : (powerOn s).monitors = Vector.replicate 16 startMonitor := rfl

theorem State.Ends.heatBounded {ok : Prop} (he : State.Ends ok k s t) (h : s.HeatBounded) : t.HeatBounded := by
  cases he with
  | quiet he => exact he.heatBounded h
  | answers he => exact (he.heatBounded h).congr rfl
  | rises | falls => exact h.congr rfl
  | resets =>
    obtain ⟨_, _, _, _, _, _, hm⟩ := resetAssert_table s
    exact h.congr hm
  | starts =>
    intro c
    rw [powerOn_monitors, Fin.getElem_fin, Vector.getElem_replicate]
    exact Nat.zero_le _

theorem State.tick_monitors (s : State) : s.tick.monitors = s.monitors := by
  unfold State.tick
  split <;> rfl

/-- Settles O40: channel by channel over the moves, and the monitor over the sample completion alone. -/
theorem countersStayBounded : Obligations.CountersStayBounded := by
  unfold Obligations.CountersStayBounded
  intro s t h
  obtain ⟨_, hd⟩ := step_driveChange h
  refine ⟨fun hs => hd.retriesBounded hs, fun hs => ?_, fun hc hf hs => hd.openFlagsInOn hc hf hs⟩
  rcases step_cases h with ⟨_, rfl⟩ | ⟨i, rest, _, hx⟩
  · exact hs.congr s.tick_monitors
  · exact (exec_ends hx).heatBounded (State.HeatBounded.congr (s := s) hs rfl)

end

end Sys2Proof.Machine
end


section
/-!
O50: the Flash Generator runs exactly while it has a member. Every change of what is driven or applied ends by telling
the generator, and what it is told changes the generator alone.
-/

namespace Sys2Proof.Machine

section
variable {e : Env} {d d' : Drive} {k : Drive.Scope} {s t : State} {c : Ch}

/-! ### What the generator is told (R124, R125) -/

theorem Channel.flashes_iff {x : Channel} : x.flashes = true ↔ x.state.driven = true ∧ x.applied = .flash := by
  rw [Channel.flashes, Bool.and_eq_true, decide_eq_true_eq]

theorem Channel.flashes_of_undriven {x : Channel} (h : x.state.driven = false) : x.flashes = false := by
  rw [Channel.flashes, h, Bool.false_and]

theorem Drive.mem_members : c ∈ d.members ↔ d.chans[c].flashes = true := by
  rw [Drive.members, List.mem_filter]
  exact and_iff_right (mem_allChans c)

theorem Drive.members_isEmpty_iff : d.members.isEmpty = true ↔ ∀ c : Ch, d.chans[c].flashes = false := by
  rw [List.isEmpty_iff, List.eq_nil_iff_forall_not_mem]
  exact forall_congr' fun c => by rw [Drive.mem_members, Bool.not_eq_true]

theorem Drive.mem_outages : c ∈ d.outages e ↔
    d.chans[c].flashes = true ∧ (e.cfg c).outageWatch = true ∧ d.chans[c].openFlag = true := by
  rw [Drive.outages, List.mem_filter, Drive.mem_members, Bool.and_eq_true]

theorem Drive.syncFlash_none (hf : d.flash = none) (hm : d.members.isEmpty = true) : d.syncFlash e = d := by
  simp only [Drive.syncFlash, hf, hm]

theorem Drive.syncFlash_starts (hf : d.flash = none) (hm : d.members.isEmpty = false) :
    d.syncFlash e = { d with flash := some (newCycle e d) } := by
  simp only [Drive.syncFlash, hf, hm]

theorem Drive.syncFlash_stops {cy : Cycle} (hf : d.flash = some cy) (hm : d.members.isEmpty = true) :
    d.syncFlash e = { d with flash := none } := by
  simp only [Drive.syncFlash, hf, hm]

theorem Drive.syncFlash_goesOn {cy : Cycle} (hf : d.flash = some cy) (hm : d.members.isEmpty = false) :
    d.syncFlash e = d := by
  simp only [Drive.syncFlash, hf, hm]

/-- The cycle that a first member starts (R124, R126). -/
theorem newCycle_normal (h : ∀ c : Ch, c ∉ d.outages e) :
    newCycle e d = { phase := .on, timer := 10 * e.conf.period / 2, rate := .normal,
                     onLen := 10 * e.conf.period / 2, offLen := 10 * e.conf.period - 10 * e.conf.period / 2 } := by
  have : (d.outages e).isEmpty = true := List.isEmpty_iff.2 (List.eq_nil_iff_forall_not_mem.2 h)
  simp only [newCycle, this, if_true, onLength, offLength]

theorem newCycle_fast (h : c ∈ d.outages e) :
    newCycle e d = { phase := .on, timer := 10 * e.conf.period / 2 / 2, rate := .fast,
                     onLen := 10 * e.conf.period / 2 / 2,
                     offLen := 10 * e.conf.period / 2 - 10 * e.conf.period / 2 / 2 } := by
  have : (d.outages e).isEmpty = false := by
    rw [Bool.eq_false_iff]
    exact fun he => List.not_mem_nil (List.isEmpty_iff.1 he ▸ h)
  simp only [newCycle, this, Bool.false_eq_true, if_false, onLength, offLength]

/-- What the generator is told makes it follow its members (R124, R125). -/
theorem Drive.syncFlash_follows (d : Drive) (e : Env) : (d.syncFlash e).FlashFollows e.conf d.flash := by
  have hmem (c : Ch) : ((d.syncFlash e).chans[c].state.driven = true ∧ (d.syncFlash e).chans[c].applied = .flash) ↔
      d.chans[c].flashes = true := by
    rw [Drive.syncFlash_chans, Channel.flashes_iff]
  unfold Drive.FlashFollows
  simp only [hmem]
  refine ⟨fun hnone => ?_, fun hsome => ?_⟩
  · have hm : d.members.isEmpty = true := Drive.members_isEmpty_iff.2 fun c => Bool.eq_false_iff.2 (hnone c)
    cases hf : d.flash with
    | none => rw [Drive.syncFlash_none hf hm]; exact hf
    | some cy => rw [Drive.syncFlash_stops hf hm]
  · have hm : d.members.isEmpty = false := by
      obtain ⟨c, hc⟩ := hsome
      rw [Bool.eq_false_iff]
      exact fun he => Bool.noConfusion ((Drive.members_isEmpty_iff.1 he c).symm.trans hc)
    refine ⟨fun cy hf => ?_, fun hf hout => ?_, fun hf hout => ?_⟩
    · rw [Drive.syncFlash_goesOn hf hm]; exact hf
    · rw [Drive.syncFlash_starts hf hm]
      refine congrArg some (newCycle_normal fun c hc => hout ?_)
      obtain ⟨h1, h2, h3⟩ := Drive.mem_outages.1 hc
      exact ⟨c, h1, h2, by rw [Drive.syncFlash_chans]; exact h3⟩
    · rw [Drive.syncFlash_starts hf hm]
      obtain ⟨c, h1, h2, h3⟩ := hout
      rw [Drive.syncFlash_chans] at h3
      exact congrArg some (newCycle_fast (Drive.mem_outages.2 ⟨h1, h2, h3⟩))

/-! ### The generator runs with its members -/

/-- RUNNING exactly while there is a member (R122). -/
def Drive.FlashSound (d : Drive) : Prop := d.flash.isSome = !d.members.isEmpty

theorem State.flashSound_iff : s.FlashSound ↔ s.drive.FlashSound := by
  have hmem : (∃ c : Ch, s.drive.chans[c].state.driven = true ∧ s.drive.chans[c].applied = .flash) ↔
      (!s.drive.members.isEmpty) = true := by
    rw [Bool.not_eq_true', Bool.eq_false_iff, ne_eq, Drive.members_isEmpty_iff, not_forall]
    exact exists_congr fun c => by rw [Bool.not_eq_false, Channel.flashes_iff]
  unfold State.FlashSound Drive.FlashSound
  rw [hmem]
  exact Bool.eq_iff_iff.symm

/-- Where no channel's membership changes nor the generator's run state, it stays right. -/
theorem Drive.FlashSound.congr (h : d.FlashSound) (hf : d'.flash.isSome = d.flash.isSome)
    (hm : ∀ c : Ch, d'.chans[c].flashes = d.chans[c].flashes) : d'.FlashSound := by
  have : d'.members = d.members := List.filter_congr fun c _ => hm c
  unfold Drive.FlashSound
  rw [hf, this]
  exact h

theorem Drive.FlashSound.syncFlash (d : Drive) (e : Env) : (d.syncFlash e).FlashSound := by
  have : (d.syncFlash e).members = d.members := List.filter_congr fun c _ => by rw [Drive.syncFlash_chans]
  unfold Drive.FlashSound
  rw [this]
  exact d.syncFlash_running e

/-- One channel's record changes, and not what makes it a member. -/
theorem Drive.FlashSound.at {y : Channel} (h : d.FlashSound) (hf : d'.flash = d.flash)
    (hat : ∀ c' : Ch, d'.chans[c'] = if c' = c then y else d.chans[c']) (hy : y.flashes = d.chans[c].flashes) :
    d'.FlashSound := by
  refine h.congr (by rw [hf]) fun c' => ?_
  rw [hat]
  split
  · rename_i hc; rw [hc]; exact hy
  · rfl

theorem Drive.FlashSound.modChan (h : d.FlashSound) (c : Ch) {g : Channel → Channel}
    (hg : (g d.chans[c]).flashes = d.chans[c].flashes) : (d.modChan c g).FlashSound :=
  h.at rfl (fun _ => Drive.modChan_at ..) hg

theorem Drive.FlashSound.undrive (d : Drive) (e : Env) (c : Ch) (target : ChanState) : (d.undrive e c target).FlashSound :=
  .syncFlash _ e

theorem Drive.FlashSound.enterOn (d : Drive) (e : Env) (c : Ch) : (d.enterOn e c).FlashSound := .syncFlash _ e

theorem Drive.FlashSound.releasePair (h : d.FlashSound) (c : Ch) : (d.releasePair e c).FlashSound :=
  h.congr (by rw [Drive.releasePair_flash]) fun _ => by rw [Drive.releasePair_chans]

theorem Drive.FlashSound.shed (d : Drive) (e : Env) (c : Ch) (cause : ShedCause) : (d.shed e c cause).FlashSound :=
  ((Drive.FlashSound.undrive d e c (.waiting .budget)).modChan c (g := fun x => { x with lastShed := some cause })
    rfl).congr rfl fun _ => rfl

theorem Drive.FlashSound.admitFresh (d : Drive) (e : Env) (c : Ch) : (d.admitFresh e c).FlashSound := by
  unfold Drive.admitFresh
  dsimp only
  split
  · exact .enterOn _ e c
  · exact (Drive.FlashSound.syncFlash _ e).congr (by rw [Drive.abandonTest_flash]) fun _ => by rw [Drive.abandonTest_chans]

theorem Drive.FlashSound.letIn (d : Drive) (e : Env) (x : Entry) : (d.letIn e x).FlashSound := by
  unfold Drive.letIn
  split
  · exact .admitFresh d e x.ch
  · exact .syncFlash _ e

theorem Drive.FlashSound.goOff (d : Drive) (e : Env) (c : Ch) : (d.goOff e c).1.FlashSound :=
  (Drive.FlashSound.undrive _ e c .off).releasePair c

theorem Drive.tripOff_flash (d : Drive) (e : Env) (c : Ch) (kind : FaultKind) :
    (d.tripOff e c kind).flash =
      (d.undrive e c (if d.chans[c].retries < (e.cfg c).retryLimit then .tripped else .latched)).flash := by
  unfold Drive.tripOff
  by_cases hr : d.chans[c].retries < (e.cfg c).retryLimit
  · simp only [hr, decide_true, if_true]
    rfl
  · simp only [hr, decide_false, Bool.false_eq_true, if_false, Drive.noteChanged_flash, Drive.releasePair_flash]
    rfl

theorem Channel.afterTrip_undriven (x : Channel) (limit : Nat) (kind : FaultKind) :
    (x.afterTrip limit kind).state.driven = false := by
  unfold Channel.afterTrip Channel.stopped
  dsimp only
  split <;> rfl

theorem Drive.FlashSound.tripOff (d : Drive) (e : Env) (c : Ch) (kind : FaultKind) : (d.tripOff e c kind).FlashSound := by
  refine (Drive.FlashSound.undrive d e c
    (if d.chans[c].retries < (e.cfg c).retryLimit then .tripped else .latched)).at (d.tripOff_flash e c kind)
    (c := c) (y := d.chans[c].afterTrip (e.cfg c).retryLimit kind) (fun c' => ?_) ?_
  · rw [Drive.tripOff_chan_at]
    split
    · rfl
    · rename_i hc
      rw [Drive.undrive_chan_at, if_neg hc]
  · rw [Channel.flashes_of_undriven (Channel.afterTrip_undriven ..), Drive.undrive_chan_at, if_pos rfl,
      Channel.flashes_of_undriven]
    exact Channel.afterTrip_undriven d.chans[c] (e.cfg c).retryLimit kind

theorem Drive.FlashSound.levelInOn (h : d.FlashSound) (c : Ch) : (d.levelInOn e c).1.FlashSound := by
  unfold Drive.levelInOn
  dsimp only
  split
  · exact .syncFlash _ e
  · exact (Drive.FlashSound.modChan (d := d.leaveQueue e c) (h.congr rfl fun _ => rfl) c
      (g := fun x => { x with upgrade := true }) rfl).congr rfl fun _ => rfl

/-- An undriven channel that waits is no member, as before. -/
theorem Drive.FlashSound.waits {w : WaitCause} (h : d.FlashSound) (hs : d.chans[c].state.driven = false)
    (hf : d'.flash = d.flash)
    (hat : ∀ c' : Ch, d'.chans[c'] = if c' = c then { d.chans[c] with state := .waiting w } else d.chans[c']) :
    d'.FlashSound :=
  h.at hf hat (by rw [Channel.flashes_of_undriven hs]; rfl)

theorem Drive.Asks.flash (h : Drive.Asks e d c d') : d'.flash = d.flash := by
  cases h <;> rfl

theorem Drive.switchOn_flash (d : Drive) (e : Env) (c : Ch) : (d.switchOn e c).1.flash = d.flash := by
  rcases d.switchOn_cases e c with ⟨_, h⟩ | h
  · rw [h]; rfl
  · exact h.flash

theorem Drive.FlashSound.switchOn (h : d.FlashSound) (hs : d.chans[c].state.driven = false) : (d.switchOn e c).1.FlashSound := by
  obtain ⟨w, hw⟩ := d.switchOn_chan_at e c
  exact h.waits hs (d.switchOn_flash e c) hw

theorem Drive.FlashSound.record (h : d.FlashSound) (c : Ch) (wanted : Level) (cls : Option Cls) :
    (d.record c wanted cls).FlashSound :=
  h.modChan c (g := fun x => { x with wanted := wanted, cls := cls }) rfl

theorem Drive.FlashSound.takePair (h : d.FlashSound) (c : Ch) (wanted : Level) (cls : Option Cls) :
    (d.takePair e c wanted cls).1.FlashSound := by
  have ht := d.takePair_takes e c wanted cls
  generalize (d.takePair e c wanted cls).1 = d' at ht ⊢
  have hr := h.record c wanted cls
  cases ht with
  | recorded => exact hr
  | goesOff => exact .goOff _ e c
  | shed => exact .shed _ e c _
  | requeued => exact hr.congr (by rw [Drive.requeue_flash]) fun _ => by rw [Drive.requeue_chans]
  | switchesOn _ hs => exact hr.switchOn (by rw [Drive.record_chan_at, if_pos rfl, hs]; rfl)
  | levels => exact hr.levelInOn c

theorem ChanState.undriven_of_waitsForPair {x : ChanState} (h : x.waitsForPair = true) : x.driven = false := by
  unfold ChanState.waitsForPair at h
  split at h
  · rfl
  · cases h

theorem Drive.displace_flash (d : Drive) (e : Env) (c : Ch) : (d.displace e c).flash = d.flash := by
  unfold Drive.displace
  split <;> rfl

theorem Drive.FlashSound.move (h : d.FlashSound) (hm : Drive.Move e k d d') : d'.FlashSound := by
  cases hm with
  | side chans hch =>
    refine h.congr rfl fun c => ?_
    unfold Channel.flashes
    rw [show chans[c].state = _ from (hch c).state, show chans[c].applied = _ from (hch c).applied]
  | notice | dead | testing | abort | pairs => exact h.congr rfl fun _ => rfl
  | turn cy hf => exact h.congr hf.symm fun _ => rfl
  | start => exact h.congr (by rw [Drive.visitFrom_flash]) fun _ => by rw [Drive.visitFrom_chans]
  | tested => exact h.congr (by rw [Drive.endTest, Drive.visitFrom_flash]) fun _ => by rw [Drive.endTest, Drive.visitFrom_chans]
  | @opens _ _ c => exact h.modChan c rfl
  | shed c cause => exact .shed d e c cause
  | letIn => exact .letIn d e _
  | enterOn => exact .enterOn d e _
  | lockOff => exact (Drive.FlashSound.undrive _ e _ .disabled).releasePair _
  | @unlock _ _ c hs =>
    exact h.modChan c (by rw [Channel.flashes_of_undriven (x := d.chans[c]) (by rw [hs]; rfl)]; rfl)
  | tripOff kind => exact .tripOff d e _ kind
  | switchOn hs => exact h.switchOn hs.undriven.1
  | @goOn _ _ c hs =>
    obtain ⟨w, hw⟩ := (d.interlockTest_asks e c).chan_at
    exact h.waits (by rw [hs]; rfl) (d.interlockTest_asks e c).flash hw
  | takePair c wanted cls => exact h.takePair c wanted cls
  | @joinFresh _ c hs =>
    exact h.waits (ChanState.undriven_of_waitsForPair hs) rfl fun c' => d.joinFresh_chan_at e c c'
  | displace c =>
    refine h.congr (by rw [Drive.displace_flash]) fun c' => ?_
    rw [Drive.displace_chan_at]
    split
    · rename_i hc
      rw [hc.1, Channel.flashes_of_undriven (x := d.chans[c]) (by rw [hc.2]; rfl)]
      rfl
    · rfl

theorem startDrive_flashSound (conf : Configuration) (valid : Bool) : (startDrive conf valid).FlashSound := by
  have hm : (startDrive conf valid).members.isEmpty = true := Drive.members_isEmpty_iff.2 fun c => by
    rw [startDrive_chans]
    exact Channel.flashes_of_undriven (startState_undriven _).1
  unfold Drive.FlashSound
  rw [hm]
  rfl

/-- Settles O50: the generator is told after every change of a member, and what it is told is R124 and R125. -/
theorem flashRunsWhileMembers : Obligations.FlashRunsWhileMembers := by
  unfold Obligations.FlashRunsWhileMembers
  refine ⟨fun s t hs h => ?_, fun d e => ⟨d.syncFlash_eq e, d.syncFlash_follows e⟩⟩
  obtain ⟨_, hd⟩ := step_driveChange h
  exact State.flashSound_iff.2 (hd.induct (fun _ _ hd hm => hd.move hm) (fun d v cause _ => .shed d t.env v cause)
    (fun valid => startDrive_flashSound _ valid) fun _ => State.flashSound_iff.1 hs)

end

end Sys2Proof.Machine
end


section
/-!
O55: the channel under test is an undriven member, and the untested count matches the results. A run visits undriven
members alone, and an admission abandons the test of the channel it takes up.
-/

namespace Sys2Proof.Machine

section
variable {e : Env} {d d' : Drive} {k : Drive.Scope} {s t : State} {c : Ch} {selection : ChSet}

/-- The number of members of a selection without a result. -/
def Check.untestedOf (x : Check) (selection : ChSet) : Nat :=
  allChans.countP (fun c => selection.getLsbD c.val && decide (x.results[c] = .notTested))

/-- The laws of a run in progress (R141, R145). -/
def Drive.CheckSound (d : Drive) : Prop :=
  ∀ r, d.check.run = some r →
    d.chans[r.test.ch].state.driven = false ∧ r.selection.getLsbD r.test.ch.val = true ∧
    (∀ c : Ch, r.test.ch ≤ c → d.check.results[c] = .notTested) ∧ d.check.untested = d.check.untestedOf r.selection

/-- No channel that was undriven is driven. -/
def Drive.NoneDriven (d d' : Drive) : Prop := ∀ c : Ch, d.chans[c].state.driven = false → d'.chans[c].state.driven = false

theorem Drive.CheckSound.kept (h : d.CheckSound) (hc : d'.check = d.check) (hu : Drive.NoneDriven d d') : d'.CheckSound := by
  unfold Drive.CheckSound
  rw [hc]
  intro r hr
  obtain ⟨h1, h2, h3, h4⟩ := h r hr
  exact ⟨hu _ h1, h2, h3, h4⟩

theorem Drive.CheckSound.of_idle (h : d.check.run = none) : d.CheckSound := fun r hr => by
  rw [h] at hr
  cases hr

/-- A visit finds an undriven member with no result, or ends the run (R141). -/
theorem Drive.visitFrom_checkSound {start : Nat} (hres : ∀ c : Ch, start ≤ c.val → d.check.results[c] = .notTested)
    (hn : d.check.untested = d.check.untestedOf selection) : (d.visitFrom selection start).CheckSound := by
  unfold Drive.visitFrom
  split
  · rename_i c hc
    have hfound := List.find?_some hc
    rw [Bool.and_eq_true, Bool.and_eq_true, decide_eq_true_eq, Bool.not_eq_true'] at hfound
    obtain ⟨⟨hstart, hsel⟩, hdriven⟩ := hfound
    rintro r hr
    cases hr
    exact ⟨hdriven, hsel, fun c' hc' => hres c' (Nat.le_trans hstart hc'), hn⟩
  · exact .of_idle rfl

/-- One thing of a list that no longer counts takes one from the count. -/
theorem countP_flip {α : Type} {p q : α → Bool} {l : List α} {x : α} (hl : l.Nodup) (hx : x ∈ l) (hp : p x = true)
    (hq : q x = false) (hrest : ∀ y, y ≠ x → q y = p y) : l.countP p = l.countP q + 1 := by
  induction l with
  | nil => exact absurd hx List.not_mem_nil
  | cons y l ih =>
    obtain ⟨hy, hl⟩ := List.nodup_cons.1 hl
    rw [List.countP_cons, List.countP_cons]
    by_cases hyx : y = x
    · subst hyx
      have : l.countP q = l.countP p := List.countP_congr fun z hz => by rw [hrest z fun e => hy (e ▸ hz)]
      rw [this, if_pos hp, hq]
      rfl
    · rw [ih hl ((List.mem_cons.1 hx).resolve_left fun e => hyx e.symm), hrest y hyx]
      omega

theorem allChans_nodup : allChans.Nodup := by decide

theorem Drive.CheckSound.endTest {r : Run} {result : CheckResult} (h : d.CheckSound) (hr : d.check.run = some r)
    (hne : result ≠ .notTested) : (d.endTest r result).CheckSound := by
  obtain ⟨hu, hsel, hres, hn⟩ := h r hr
  have hat (c : Ch) : (d.check.results.set r.test.ch result)[c] = if c = r.test.ch then result else d.check.results[c] :=
    vector_set_at ..
  refine Drive.visitFrom_checkSound (fun c hc => ?_) ?_
  · have hne : c ≠ r.test.ch := fun e => by rw [e] at hc; omega
    exact (hat c).trans ((if_neg hne).trans (hres c (Nat.le_of_succ_le hc)))
  · have hcount : d.check.untestedOf r.selection = Check.untestedOf
        { d.check with results := d.check.results.set r.test.ch result } r.selection + 1 := by
      refine countP_flip (x := r.test.ch) allChans_nodup (mem_allChans _) ?_ ?_ fun c hc => ?_
      · rw [hsel, hres _ (Nat.le_refl _)]; rfl
      · rw [hat, if_pos rfl, decide_eq_false hne, Bool.and_false]
      · rw [hat, if_neg hc]
    show d.check.untested - 1 = _
    rw [hn, hcount]
    rfl

theorem Drive.CheckSound.start (d : Drive) (selection : ChSet) :
    (({ d with check := { run := none, results := Vector.replicate 16 .notTested,
                          untested := setSize selection } } : Drive).visitFrom selection 0).CheckSound := by
  have hres (c : Ch) : (Vector.replicate 16 CheckResult.notTested)[c] = .notTested := Vector.getElem_replicate ..
  refine Drive.visitFrom_checkSound (fun c _ => hres c) ?_
  refine List.countP_congr fun c _ => ?_
  show selection.getLsbD c.val = true ↔
    (selection.getLsbD c.val && decide ((Vector.replicate 16 CheckResult.notTested)[c] = .notTested)) = true
  rw [hres, decide_eq_true rfl, Bool.and_true]

/-- The channel taken up, if it was under test, leaves its test, and any other test goes on (R143). -/
theorem Drive.CheckSound.abandonTest (h : d.CheckSound) (hc : d'.check = d.check)
    (hu : ∀ c' : Ch, c' ≠ c → d.chans[c'].state.driven = false → d'.chans[c'].state.driven = false) :
    (d'.abandonTest c).CheckSound := by
  unfold Drive.abandonTest
  split
  · exact .of_idle ‹_›
  · rename_i r hr
    obtain ⟨hun, hsel, hres, hn⟩ := h r (by rw [← hc]; exact hr)
    split
    · rename_i hrc
      refine Drive.visitFrom_checkSound (fun c' hc' => ?_) (by rw [hc]; exact hn)
      rw [hc]
      refine hres c' ?_
      rw [hrc]
      exact Nat.le_of_succ_le hc'
    · rename_i hrc
      rintro r' hr'
      rw [hr] at hr'
      cases hr'
      rw [hc]
      exact ⟨hu _ hrc hun, hsel, hres, hn⟩

theorem Drive.CheckSound.admitFresh (h : d.CheckSound) (c : Ch) : (d.admitFresh e c).CheckSound := by
  have taken (c' : Ch) : (((((d.leaveQueue e c).modFeed (e.feedOf c) (fun f => { f with admitted := f.admitted ++ [c] })).modChan
      c (fun x => { x with state := .inrush, applied := levelToApply (e.cfg c) d.chans[c].wanted, pwmSettled := false
                           inrushTimer := some ((e.cfg c).inrushWindow * 10)
                           stallTimer := stallReload (e.cfg c) })).setReservation e c
      (inrushReservation (e.cfg c))).syncFlash e).chans[c'].state = if c' = c then .inrush else d.chans[c'].state := by
    simp only [Drive.syncFlash_chans, Drive.setReservation_chan_at, Drive.modChan_at, Drive.modFeed_chans,
      Drive.leaveQueue_chans]
    by_cases hc : c' = c <;> simp only [hc, if_true, if_false]
  unfold Drive.admitFresh
  dsimp only
  generalize hd1 : Drive.syncFlash _ e = d1 at *
  have hcheck : d1.check = d.check := by
    rw [← hd1]
    simp only [Drive.syncFlash_check, Drive.setReservation_check, Drive.modChan_check, Drive.modFeed_check,
      Drive.leaveQueue_check]
  have hab : (d1.abandonTest c).CheckSound := h.abandonTest hcheck fun c' hc hun => by rw [taken, if_neg hc]; exact hun
  split
  · refine hab.kept (by rw [Drive.enterOn_check]) fun c' hun => ?_
    rw [Drive.abandonTest_chans] at hun
    have hc : c' ≠ c := by
      rintro rfl
      rw [taken, if_pos rfl] at hun
      exact Bool.noConfusion hun
    rw [Drive.enterOn_chan_at, if_neg hc, Drive.abandonTest_chans]
    exact hun
  · exact hab

theorem Drive.CheckSound.letIn (h : d.CheckSound) (x : Entry) : (d.letIn e x).CheckSound := by
  unfold Drive.letIn
  split
  · exact h.admitFresh x.ch
  · refine h.kept (by rw [Drive.admitUpgrade_check]) fun c hun => ?_
    rw [Drive.admitUpgrade_chan_at]
    split
    · rename_i hc
      rw [hc] at hun
      exact hun
    · exact hun

theorem Drive.Asks.check (h : Drive.Asks e d c d') : d'.check = d.check := by
  cases h <;> rfl

theorem Drive.switchOn_check (d : Drive) (e : Env) (c : Ch) : (d.switchOn e c).1.check = d.check := by
  rcases d.switchOn_cases e c with ⟨_, h⟩ | h
  · rw [h]; rfl
  · exact h.check

theorem Drive.tripOff_check (d : Drive) (e : Env) (c : Ch) (kind : FaultKind) : (d.tripOff e c kind).check = d.check := by
  unfold Drive.tripOff
  dsimp only
  split <;> simp

theorem Drive.levelInOn_check (d : Drive) (e : Env) (c : Ch) : (d.levelInOn e c).1.check = d.check := by
  unfold Drive.levelInOn
  dsimp only
  split <;> simp

theorem Drive.takePair_check (d : Drive) (e : Env) (c : Ch) (wanted : Level) (cls : Option Cls) :
    (d.takePair e c wanted cls).1.check = d.check := by
  have ht := d.takePair_takes e c wanted cls
  generalize (d.takePair e c wanted cls).1 = d' at ht ⊢
  cases ht with
  | recorded => rfl
  | goesOff => simp [Drive.goOff]
  | shed => rw [Drive.shed_check]; rfl
  | requeued => rw [Drive.requeue_check]; rfl
  | switchesOn => exact Drive.switchOn_check ..
  | levels => exact Drive.levelInOn_check ..

theorem Drive.displace_check (d : Drive) (e : Env) (c : Ch) : (d.displace e c).check = d.check := by
  unfold Drive.displace
  split <;> rfl

theorem Drive.CheckSound.move (h : d.CheckSound) (hm : Drive.Move e k d d') : d'.CheckSound := by
  by_cases hl : ∃ x, d' = d.letIn e x
  · obtain ⟨x, rfl⟩ := hl
    exact h.letIn x
  -- No other move takes a channel up.
  have hu : Drive.NoneDriven d d' := fun c hun => by
    by_contra hd
    rw [Bool.not_eq_false] at hd
    rcases hm.drivenState c hd with he | ⟨he, _⟩ | ⟨he, _⟩
    · rw [he, hun] at hd; cases hd
    · rw [he] at hun; cases hun
    · exact hl ⟨_, he⟩
  cases hm with
  | side | notice | turn | dead | pairs => exact h.kept rfl hu
  | @testing _ _ r t hr hc =>
    obtain ⟨ch, step, timer⟩ := t
    obtain rfl : ch = r.test.ch := hc
    rintro r' hr'
    cases hr'
    exact h r hr
  | abort => exact .of_idle rfl
  | start selection => exact .start d selection
  | tested result hr hne => exact h.endTest hr hne
  | opens | unlock => exact h.kept rfl hu
  | shed => exact h.kept (Drive.shed_check ..) hu
  | letIn => exact absurd ⟨_, rfl⟩ hl
  | enterOn => exact h.kept (Drive.enterOn_check ..) hu
  | lockOff => exact h.kept (by simp [Drive.lockOff]) hu
  | tripOff => exact h.kept (Drive.tripOff_check ..) hu
  | switchOn => exact h.kept (Drive.switchOn_check ..) hu
  | goOn => exact h.kept (Drive.interlockTest_asks d e _).check hu
  | takePair => exact h.kept (Drive.takePair_check ..) hu
  | joinFresh => exact h.kept rfl hu
  | displace => exact h.kept (Drive.displace_check ..) hu

/-- Settles O55: by the moves of a run, and the admissions that abandon a test. -/
theorem checkNeverTestsDrivenChannel : Obligations.CheckNeverTestsDrivenChannel := by
  unfold Obligations.CheckNeverTestsDrivenChannel
  intro s t hs h
  obtain ⟨_, hd⟩ := step_driveChange h
  refine hd.induct (P := Drive.CheckSound) (fun _ _ hd hm => hd.move hm) (fun d v cause hd => ?_)
    (fun _ => .of_idle rfl) fun _ => hs
  refine hd.kept (Drive.shed_check ..) fun c hun => ?_
  rw [Drive.shed_chan_at]
  split
  · rfl
  · exact hun

end

end Sys2Proof.Machine
end

section
/-!
PROOFS. A refusal changes nothing but the pending response (Conventions; R152): every block that answers with a status
other than OK answers with a bare refusal and hands back the state it was given.
-/

namespace Sys2Proof.Machine

/-- A block's answer `r` to a request that found the part in `s`: with a status other than OK it is a refusal, and the
state is handed back. -/
def RefusesFrom (s : State) (r : State × Answer) : Prop := r.2.status ≠ .ok → r = (s, refuse r.2.status)

theorem refusesFrom_refuse (s : State) (status : Status) : RefusesFrom s (s, refuse status) := fun _ => rfl

/-- An answer with status OK is no refusal. -/
theorem refusesFrom_ok (s t : State) (flags : Byte) (items : List Byte) : RefusesFrom s (t, ⟨.ok, flags, items⟩) :=
  fun h => absurd rfl h

theorem refusesFrom_taken (s t : State) (items : List Byte) : RefusesFrom s (t, taken items) :=
  refusesFrom_ok s t 0#8 items

theorem RefusesFrom.ite {s : State} {p : Prop} [Decidable p] {a b : State × Answer} (ha : p → RefusesFrom s a)
    (hb : ¬ p → RefusesFrom s b) : RefusesFrom s (if p then a else b) := by
  split
  case isTrue h => exact ha h
  case isFalse h => exact hb h

theorem unlessStoring_refusesFrom {body : State → State × Answer} {s : State} (hb : RefusesFrom s (body s)) :
    RefusesFrom s (unlessStoring body s) :=
  .ite (fun _ => refusesFrom_refuse s _) fun _ => hb

/-! ### The blocks -/

section
variable (s : State)

theorem placeBody_refusesFrom (slot : SlotNo) (load : Byte) (level : LevelParam) (cls : Byte) (hold : Word16) :
    RefusesFrom s (placeBody slot load level cls hold s) := by
  unfold placeBody
  split
  · exact refusesFrom_refuse s _
  · refine .ite (fun _ => refusesFrom_refuse s _) fun _ => .ite (fun _ => refusesFrom_refuse s _) fun _ => ?_
    split
    · exact refusesFrom_refuse s _
    · refine .ite (fun _ => refusesFrom_refuse s _) fun _ => ?_
      split
      · exact refusesFrom_refuse s _
      · exact .ite (fun _ => refusesFrom_refuse s _) fun _ => refusesFrom_ok s _ _ _

theorem renewBody_refusesFrom (slot : SlotNo) (handle : Byte) : RefusesFrom s (renewBody slot handle s) := by
  unfold renewBody
  split
  · exact refusesFrom_refuse s _
  · split
    · exact .ite (fun _ => refusesFrom_refuse s _) fun _ => refusesFrom_taken s _ _
    all_goals exact refusesFrom_taken s _ _

theorem amendBody_refusesFrom (slot : SlotNo) (handle : Byte) (level : LevelParam) (cls : Byte) (hold : Word16) :
    RefusesFrom s (amendBody slot handle level cls hold s) := by
  unfold amendBody
  split
  · exact refusesFrom_refuse s _
  · refine .ite (fun _ => refusesFrom_refuse s _) fun _ => ?_
    dsimp only
    split
    · exact refusesFrom_refuse s _
    · exact refusesFrom_ok s _ _ _

theorem retireBody_refusesFrom (slot : SlotNo) (handle : Byte) : RefusesFrom s (retireBody slot handle s) := by
  unfold retireBody
  split
  · exact refusesFrom_refuse s _
  · exact refusesFrom_taken s _ _

theorem renewAllBody_refusesFrom (slot : SlotNo) (target : Byte) : RefusesFrom s (renewAllBody slot target s) := by
  unfold renewAllBody
  split
  · exact refusesFrom_refuse s _
  · exact refusesFrom_taken s _ _

theorem retireAllBody_refusesFrom (slot : SlotNo) (target : Byte) : RefusesFrom s (retireAllBody slot target s) := by
  unfold retireAllBody
  split
  · exact refusesFrom_refuse s _
  · exact refusesFrom_taken s _ _

theorem setRequesterBody_refusesFrom (target enabled quota ceiling : Byte) :
    RefusesFrom s (setRequesterBody target enabled quota ceiling s) := by
  unfold setRequesterBody
  split
  · exact refusesFrom_refuse s _
  · refine .ite (fun _ => refusesFrom_refuse s _) fun _ => .ite (fun _ => refusesFrom_taken s _ _) fun _ => ?_
    split
    · exact refusesFrom_refuse s _
    · exact .ite (fun _ => refusesFrom_refuse s _) fun _ => refusesFrom_taken s _ _

theorem addQuotaBody_refusesFrom (target n : Byte) : RefusesFrom s (addQuotaBody target n s) := by
  unfold addQuotaBody
  split
  · exact refusesFrom_refuse s _
  · exact .ite (fun _ => refusesFrom_refuse s _) fun _ => refusesFrom_taken s _ _

theorem mapLoadBody_refusesFrom (load enabled channel : Byte) (permitted : Word16) :
    RefusesFrom s (mapLoadBody load enabled channel permitted s) := by
  unfold mapLoadBody
  split
  · exact refusesFrom_refuse s _
  · split
    · exact .ite (fun _ => refusesFrom_refuse s _) fun _ => .ite (fun _ => refusesFrom_refuse s _) fun _ =>
        refusesFrom_taken s _ _
    · exact refusesFrom_refuse s _

theorem configureBody_refusesFrom (channel : Byte) (fields : ChannelConfig → Option ChannelConfig) :
    RefusesFrom s (configureBody channel fields s) := by
  unfold configureBody
  split
  · exact refusesFrom_refuse s _
  · refine .ite (fun _ => refusesFrom_refuse s _) fun _ => ?_
    split
    · exact refusesFrom_refuse s _
    · exact refusesFrom_taken s _ _

theorem lockBody_refusesFrom (channel : Byte) : RefusesFrom s (lockBody channel s) := by
  unfold lockBody
  split
  · exact refusesFrom_refuse s _
  · exact .ite (fun _ => refusesFrom_taken s _ _) fun _ => refusesFrom_taken s _ _

theorem unlockBody_refusesFrom (channel : Byte) : RefusesFrom s (unlockBody channel s) := by
  unfold unlockBody
  split
  · exact refusesFrom_refuse s _
  · exact .ite (fun _ => refusesFrom_refuse s _) fun _ => .ite (fun _ => refusesFrom_refuse s _) fun _ =>
      refusesFrom_taken s _ _

theorem clearFaultBody_refusesFrom (channel : Byte) : RefusesFrom s (clearFaultBody channel s) := by
  unfold clearFaultBody
  split
  · exact refusesFrom_refuse s _
  · exact .ite (fun _ => refusesFrom_refuse s _) fun _ => refusesFrom_taken s _ _

theorem setInterlockBody_refusesFrom (pair enabled a b : Byte) :
    RefusesFrom s (setInterlockBody pair enabled a b s) := by
  unfold setInterlockBody
  split
  · exact .ite (fun _ => refusesFrom_refuse s _) fun _ => .ite (fun _ => refusesFrom_refuse s _) fun _ =>
      .ite (fun _ => refusesFrom_refuse s _) fun _ => refusesFrom_taken s _ _
  · exact refusesFrom_refuse s _

theorem setBudgetBody_refusesFrom (feed : Byte) (budget : Word16) : RefusesFrom s (setBudgetBody feed budget s) := by
  unfold setBudgetBody
  split
  · exact refusesFrom_refuse s _
  · exact .ite (fun _ => refusesFrom_refuse s _) fun _ => refusesFrom_taken s _ _

theorem setSupplyLimitsBody_refusesFrom (uv recovery : Word16) :
    RefusesFrom s (setSupplyLimitsBody uv recovery s) :=
  .ite (fun _ => refusesFrom_refuse s _) fun _ => .ite (fun _ => refusesFrom_refuse s _) fun _ =>
    refusesFrom_taken s _ _

theorem setFlashPeriodBody_refusesFrom (period : Byte) : RefusesFrom s (setFlashPeriodBody period s) :=
  .ite (fun _ => refusesFrom_refuse s _) fun _ => refusesFrom_taken s _ _

theorem bindLineBody_refusesFrom (line enabled polarity load : Byte) (level : LevelParam) (cls : Byte) :
    RefusesFrom s (bindLineBody line enabled polarity load level cls s) := by
  unfold bindLineBody
  split
  · split
    · exact refusesFrom_refuse s _
    · exact refusesFrom_taken s _ _
  · exact refusesFrom_refuse s _

theorem checkOutputsBody_refusesFrom (selection : Word16) : RefusesFrom s (checkOutputsBody selection s) :=
  .ite (fun _ => refusesFrom_refuse s _) fun _ => .ite (fun _ => refusesFrom_refuse s _) fun _ =>
    refusesFrom_taken s _ _

/-! ### The readings of a numbered thing -/

theorem lookupAnswer_refusesFrom (handle : Byte) : RefusesFrom s (s, lookupAnswer handle s) := by
  unfold lookupAnswer
  split
  · exact refusesFrom_refuse s _
  · exact refusesFrom_taken s _ _

theorem loadAnswer_refusesFrom (load : Byte) : RefusesFrom s (s, loadAnswer load s) := by
  unfold loadAnswer
  split
  · exact refusesFrom_refuse s _
  · exact refusesFrom_taken s _ _

theorem listAnswer_refusesFrom (channel : Byte) : RefusesFrom s (s, listAnswer channel s) := by
  unfold listAnswer
  split
  · exact refusesFrom_refuse s _
  · exact refusesFrom_taken s _ _

theorem requesterAnswer_refusesFrom (target : Byte) : RefusesFrom s (s, requesterAnswer target s) := by
  unfold requesterAnswer
  split
  · exact refusesFrom_refuse s _
  · exact refusesFrom_taken s _ _

theorem statusAnswer_refusesFrom (channel : Byte) : RefusesFrom s (s, statusAnswer channel s) := by
  unfold statusAnswer
  split
  · exact refusesFrom_refuse s _
  · exact refusesFrom_taken s _ _

theorem pairAnswer_refusesFrom (pair : Byte) : RefusesFrom s (s, pairAnswer pair s) := by
  unfold pairAnswer
  split
  · exact refusesFrom_refuse s _
  · exact refusesFrom_taken s _ _

theorem feedAnswer_refusesFrom (feed : Byte) : RefusesFrom s (s, feedAnswer feed s) := by
  unfold feedAnswer
  split
  · exact refusesFrom_refuse s _
  · exact refusesFrom_taken s _ _

theorem lineAnswer_refusesFrom (line : Byte) : RefusesFrom s (s, lineAnswer line s) := by
  unfold lineAnswer
  split
  · exact refusesFrom_refuse s _
  · exact refusesFrom_taken s _ _

end

/-! ### Every request -/

/-- Whatever the request, its block hands back the state with which it refuses. -/
theorem exec_request_refusesFrom {i : Instr} {k : Kind} {h : Header} {bytes : List Byte}
    (hi : requestParts i = some (k, h, bytes)) :
    ∃ block : State → State × Answer, ∀ s, exec i s = .next (request k h block s) ∧ RefusesFrom s (block s) := by
  cases i with
  | poll | readNotices | clearNotices | describe | readLapsed | checkResults =>
    cases hi; exact ⟨_, fun s => ⟨rfl, refusesFrom_taken s _ _⟩⟩
  | setNoticeEnable | storeConfiguration | restart =>
    cases hi; exact ⟨_, fun s => ⟨rfl, unlessStoring_refusesFrom (refusesFrom_taken s _ _)⟩⟩
  | place => cases hi; exact ⟨_, fun s => ⟨rfl, placeBody_refusesFrom s _ _ _ _ _⟩⟩
  | renew => cases hi; exact ⟨_, fun s => ⟨rfl, renewBody_refusesFrom s _ _⟩⟩
  | amend => cases hi; exact ⟨_, fun s => ⟨rfl, amendBody_refusesFrom s _ _ _ _ _⟩⟩
  | retire => cases hi; exact ⟨_, fun s => ⟨rfl, retireBody_refusesFrom s _ _⟩⟩
  | renewAll => cases hi; exact ⟨_, fun s => ⟨rfl, renewAllBody_refusesFrom s _ _⟩⟩
  | retireAll => cases hi; exact ⟨_, fun s => ⟨rfl, retireAllBody_refusesFrom s _ _⟩⟩
  | lookup => cases hi; exact ⟨_, fun s => ⟨rfl, lookupAnswer_refusesFrom s _⟩⟩
  | mapLoad => cases hi; exact ⟨_, fun s => ⟨rfl, unlessStoring_refusesFrom (mapLoadBody_refusesFrom s _ _ _ _)⟩⟩
  | readLoad => cases hi; exact ⟨_, fun s => ⟨rfl, loadAnswer_refusesFrom s _⟩⟩
  | list => cases hi; exact ⟨_, fun s => ⟨rfl, listAnswer_refusesFrom s _⟩⟩
  | setRequester =>
    cases hi; exact ⟨_, fun s => ⟨rfl, unlessStoring_refusesFrom (setRequesterBody_refusesFrom s _ _ _ _)⟩⟩
  | addQuota => cases hi; exact ⟨_, fun s => ⟨rfl, unlessStoring_refusesFrom (addQuotaBody_refusesFrom s _ _)⟩⟩
  | readRequester => cases hi; exact ⟨_, fun s => ⟨rfl, requesterAnswer_refusesFrom s _⟩⟩
  | setChannelLimits | setChannelProfile =>
    cases hi; exact ⟨_, fun s => ⟨rfl, unlessStoring_refusesFrom (configureBody_refusesFrom s _ _)⟩⟩
  | lock => cases hi; exact ⟨_, fun s => ⟨rfl, lockBody_refusesFrom s _⟩⟩
  | unlock => cases hi; exact ⟨_, fun s => ⟨rfl, unlockBody_refusesFrom s _⟩⟩
  | clearFault => cases hi; exact ⟨_, fun s => ⟨rfl, clearFaultBody_refusesFrom s _⟩⟩
  | channelStatus => cases hi; exact ⟨_, fun s => ⟨rfl, statusAnswer_refusesFrom s _⟩⟩
  | setInterlock =>
    cases hi; exact ⟨_, fun s => ⟨rfl, unlessStoring_refusesFrom (setInterlockBody_refusesFrom s _ _ _ _)⟩⟩
  | readInterlock => cases hi; exact ⟨_, fun s => ⟨rfl, pairAnswer_refusesFrom s _⟩⟩
  | setBudget => cases hi; exact ⟨_, fun s => ⟨rfl, unlessStoring_refusesFrom (setBudgetBody_refusesFrom s _ _)⟩⟩
  | feedStatus => cases hi; exact ⟨_, fun s => ⟨rfl, feedAnswer_refusesFrom s _⟩⟩
  | setSupplyLimits =>
    cases hi; exact ⟨_, fun s => ⟨rfl, unlessStoring_refusesFrom (setSupplyLimitsBody_refusesFrom s _ _)⟩⟩
  | setFlashPeriod =>
    cases hi; exact ⟨_, fun s => ⟨rfl, unlessStoring_refusesFrom (setFlashPeriodBody_refusesFrom s _)⟩⟩
  | bindLine =>
    cases hi; exact ⟨_, fun s => ⟨rfl, unlessStoring_refusesFrom (bindLineBody_refusesFrom s _ _ _ _ _ _)⟩⟩
  | readLine => cases hi; exact ⟨_, fun s => ⟨rfl, lineAnswer_refusesFrom s _⟩⟩
  | checkOutputs => cases hi; exact ⟨_, fun s => ⟨rfl, checkOutputsBody_refusesFrom s _⟩⟩
  | _ => cases hi

/-- Settles O7, by who refuses: the link, whose refusal leaves the state, or the request's block. -/
theorem refusalsChangeNothing : Obligations.RefusalsChangeNothing := by
  intro i k h bytes s t hi hs ht hstatus
  obtain ⟨block, hblock⟩ := exec_request_refusesFrom hi
  obtain ⟨hexec, hrefuses⟩ := hblock s
  obtain rfl : request k h block s = t := Host.Outcome.next.inj (hexec.symm.trans ht)
  cases hlink : linkRefusal s k h with
  | some status => rw [request_refused hs hlink]; rfl
  | none =>
    have hanswered : request k h block s = (block s).1.endFrame (respond k.code (headerByte h) (block s).2) := by
      simp [request, hs, hlink]
    rw [hanswered] at hstatus ⊢
    rw [hrefuses hstatus, respond_refuse]
    rfl

end Sys2Proof.Machine
end

section
/-!
PROOFS. POLL, DESCRIBE, READ NOTICES and CLEAR NOTICES (R155, R161, R162, R164), and the shared checks of the record
requests (R13).
-/

namespace Sys2Proof.Machine

/-! ### Counting -/

/-- A count over the channels is the size of the set counted. -/
theorem countP_allChans (p : Ch → Bool) : allChans.countP p = (Finset.univ.filter (fun c => p c = true)).card := by
  rw [show allChans = List.finRange 16 by rfl, ← List.toFinset_finRange, (List.nodup_finRange 16).card_eq_countP]
  simp

/-- A count over the handles is the size of the set counted. -/
theorem countP_allHandles (p : Handle → Bool) :
    allHandles.countP p = (Finset.univ.filter (fun y => p y = true)).card := by
  rw [show allHandles = List.finRange 64 by rfl, ← List.toFinset_finRange, (List.nodup_finRange 64).card_eq_countP]
  simp

theorem Drive.count_eq_card (d : Drive) (p : ChanState → Bool) :
    d.count p = (Finset.univ.filter (fun c : Ch => p d.chans[c].state = true)).card :=
  countP_allChans _

theorem ChanState.driven_eq (x : ChanState) : x.driven = decide (x = .inrush ∨ x = .on) := by
  cases x <;> rfl

theorem ChanState.faulted_eq (x : ChanState) : x.faulted = decide (x = .tripped ∨ x = .latched) := by
  cases x <;> rfl

/-! ### The answers -/

theorem exec_poll (h : Header) (s : State) : exec (.poll h) s = .next (reading .poll h pollAnswer s) := rfl

theorem exec_describe (h : Header) (s : State) : exec (.describe h) s = .next (reading .describe h describeAnswer s) := rfl

theorem exec_readNotices (h : Header) (s : State) :
    exec (.readNotices h) s = .next (reading .readNotices h noticesAnswer s) := rfl

/-- The part after the kinds of a mask are cleared (R162). -/
def State.clearKinds (s : State) (mask : Byte) : State :=
  { s with drive := { s.drive with notice := s.drive.notice.clear mask } }

theorem exec_clearNotices (h : Header) (mask : Byte) (s : State) :
    exec (.clearNotices h mask) s =
      .next (request .clearNotices h (fun s => (s.clearKinds mask, noticesAnswer s)) s) := rfl

theorem pollAnswer_eq (s : State) :
    let channelsIn (p : ChanState → Bool) : Byte :=
      BitVec.ofNat 8 (Finset.univ.filter (fun c : Ch => p s.drive.chans[c].state = true)).card
    pollAnswer s = taken
      [s.drive.notice.kinds, yesShown s.supply.low, channelsIn (fun x => decide (x = .inrush ∨ x = .on)),
        channelsIn ChanState.isWaiting, channelsIn (fun x => decide (x = .tripped ∨ x = .latched))] := by
  have hdriven : ChanState.driven = fun x => decide (x = .inrush ∨ x = .on) := funext ChanState.driven_eq
  have hfaulted : ChanState.faulted = fun x => decide (x = .tripped ∨ x = .latched) := funext ChanState.faulted_eq
  simp only [pollAnswer, hdriven, hfaulted, Drive.count_eq_card]
  rfl

/-- The items of READ NOTICES and CLEAR NOTICES (R161). -/
def State.noticeItems (s : State) : List Byte :=
  let n := s.drive.notice
  [n.kinds, s.conf.enable] ++ twoBytes n.changed.toNat ++ twoBytes n.warn.toNat ++ twoBytes n.openSet.toNat ++
    [yesShown s.supply.low, yesShown s.store.valid, storeCode s.store.result]

theorem noticesAnswer_eq (s : State) : noticesAnswer s = taken s.noticeItems := by
  simp only [noticesAnswer, wordBytes_eq_twoBytes]
  rfl

theorem State.noticeItems_length (s : State) : s.noticeItems.length = 11 := rfl

/-- A mask meets the bit of a kind exactly where it names the kind. -/
theorem and_kindBit_eq_zero (mask : Byte) :
    (mask &&& kindBit .channel = 0#8 ↔ mask.getLsbD 0 = false) ∧
    (mask &&& kindBit .warn = 0#8 ↔ mask.getLsbD 2 = false) ∧
    (mask &&& kindBit .openLoad = 0#8 ↔ mask.getLsbD 3 = false) := by
  revert mask
  decide

theorem Notice.clear_eq (n : Notice) (mask : Byte) :
    n.clear mask =
      { kinds := n.kinds &&& ~~~mask
        changed := if mask.getLsbD 0 then 0#16 else n.changed
        warn := if mask.getLsbD 2 then 0#16 else n.warn
        openSet := if mask.getLsbD 3 then 0#16 else n.openSet } := by
  obtain ⟨hchannel, hwarn, hopen⟩ := and_kindBit_eq_zero mask
  have hflip {α : Type} (b : Bool) (x y : α) : (if b = false then x else y) = if b = true then y else x := by
    cases b <;> rfl
  simp only [Notice.clear, hchannel, hwarn, hopen, hflip]

/-- Settles O12: the readings by their items, CLEAR NOTICES by what the clear leaves of the Notice Unit. -/
theorem pollsAndNoticesAnswer : Obligations.PollsAndNoticesAnswer := by
  intro h mask s n channelsIn items
  refine ⟨fun a => ⟨?poll, ?describe, ?notices⟩, fun a => ?clear⟩
  case poll => rw [exec_poll, reading_takes a rfl (by simp) (pollAnswer_eq s)]
  case describe => rw [exec_describe, reading_takes a rfl (by simp) rfl]; rfl
  case notices =>
    rw [exec_readNotices, reading_takes a rfl (by simp [State.noticeItems_length]) (noticesAnswer_eq s)]
    rfl
  case clear =>
    have hitems : s.noticeItems.length ≤ 15 := by simp [State.noticeItems_length]
    have hrequest : request .clearNotices h (fun s => (s.clearKinds mask, noticesAnswer s)) s =
        (s.clearKinds mask).endFrame (okResponse .clearNotices h s.noticeItems) := by
      rw [request_taken a.accepts (.inr a.slot)]
      dsimp only
      rw [noticesAnswer_eq, respond_taken _ _ hitems]
    refine ⟨_, (exec_clearNotices h mask s).trans (congrArg Host.Outcome.next hrequest), ?_, ?_⟩
    · rw [State.clearKinds, Notice.clear_eq]
      rfl
    · have hlow : ((s.clearKinds mask).endFrame (okResponse .clearNotices h s.noticeItems)).noticenLow = true ↔
          ∃ i : Fin 8, (n.kinds &&& ~~~mask).getLsbD i.val = true ∧ s.conf.enable.getLsbD i.val = true :=
        State.noticenLow_iff a.running
      rw [hlow]
      simp [and_assoc]

/-! ### The checks of R13 -/

section
variable {slot : SlotNo} {handle : Byte} {s : State} {status : Status}

theorem actOn_noHandle (hh : 64 ≤ handle.toNat) (slot : SlotNo) (s : State) : actOn slot handle s = .error .noRecord := by
  simp only [actOn, handleOf, numOf_of_ge hh]

theorem actOn_lineHandle (hh : 60 ≤ handle.toNat ∧ handle.toNat ≤ 63) (slot : SlotNo) (s : State) :
    actOn slot handle s = .error .notPermitted := by
  have hn : handle.toNat = (⟨handle.toNat, by omega⟩ : Handle).val := rfl
  simp only [actOn, handleOf, numOf_of_lt _ hn]
  exact if_pos hh.1

theorem actOn_free {n : Handle} (hn : handle.toNat = n.val) (h60 : n.val < 60) (hr : s.records[n] = .free)
    (slot : SlotNo) : actOn slot handle s = .error .noRecord := by
  simp only [actOn, handleOf, numOf_of_lt n hn, hr]
  exact if_neg (by omega)

/-- A record of another slot is hidden from a slot that is not the supervisor's. -/
theorem actOn_foreign {n : Handle} {d : Demand} (hn : handle.toNat = n.val) (h60 : n.val < 60)
    (hr : (∃ time, s.records[n] = .live d time) ∨ (∃ g, s.records[n] = .lapsed d g)) (howner : d.owner ≠ slot)
    (hslot : slot ≠ 0) : actOn slot handle s = .error .noRecord := by
  simp only [actOn, handleOf, numOf_of_lt n hn]
  rw [if_neg (by omega)]
  rcases hr with ⟨t, hr⟩ | ⟨t, hr⟩ <;> simp only [hr] <;> exact if_pos ⟨howner, hslot⟩

theorem renewBody_error (ha : actOn slot handle s = .error status) :
    renewBody slot handle s = (s, refuse status) := by
  simp only [renewBody, ha]

theorem amendBody_error (ha : actOn slot handle s = .error status) (level : LevelParam) (cls : Byte) (hold : Word16) :
    amendBody slot handle level cls hold s = (s, refuse status) := by
  simp only [amendBody, ha]

theorem retireBody_error (ha : actOn slot handle s = .error status) :
    retireBody slot handle s = (s, refuse status) := by
  simp only [retireBody, ha]

end

/-- Settles O16: a failed check of R13 is answered alike by the three requests. -/
theorem handleChecksOfRecordRequests : Obligations.HandleChecksOfRecordRequests := by
  intro h handle level cls hold s a refused
  have hrefused {status : Status} (ha : actOn (slotOf h) handle s = .error status) : refused status :=
    ⟨congrArg Host.Outcome.next (request_body_refuses a rfl (renewBody_error ha)),
      congrArg Host.Outcome.next (request_body_refuses a rfl (amendBody_error ha level cls hold)),
      congrArg Host.Outcome.next (request_body_refuses a rfl (retireBody_error ha))⟩
  refine ⟨fun hh => hrefused (actOn_noHandle hh _ s), fun hh => hrefused (actOn_lineHandle hh _ s),
    fun n hn h60 => ⟨fun hr => hrefused (actOn_free hn h60 hr _), fun d time hr howner hslot => ?_⟩⟩
  refine hrefused (actOn_foreign hn h60 ?_ howner (mt a.slotOf_eq_zero.1 hslot))
  exact hr.imp (fun hr => ⟨time, hr⟩) fun ⟨g, _, hr⟩ => ⟨g, hr⟩

end Sys2Proof.Machine
end

section
/-!
PROOFS. PLACE: the checks of R9 in their order, and what a PLACE that passes them leaves (R8 to R12).
-/

namespace Sys2Proof.Machine

theorem exec_place (h : Header) (load : Byte) (level : LevelParam) (cls : Byte) (hold : Word16) (s : State) :
    exec (.place h load level cls hold) s =
      .next (request .place h (placeBody (slotOf h) load level cls hold) s) := rfl

/-! ### The lowest FREE handle (R8) -/

theorem State.lowestFree_eq_none {s : State} (hf : ∀ n : Handle, n.val < 60 → s.records[n] ≠ .free) :
    s.lowestFree = none := by
  unfold State.lowestFree
  rw [List.find?_eq_none]
  intro n _ hp
  obtain ⟨h60, hr⟩ : n.val < 60 ∧ s.records[n].isFree = true := by simpa using hp
  refine hf n h60 ?_
  cases hn : s.records[n] with
  | free => rfl
  | live | lapsed => rw [hn] at hr; cases hr

theorem State.lowestFree_isSome {s : State} (hf : ∃ n : Handle, n.val < 60 ∧ s.records[n] = .free) :
    ∃ n, s.lowestFree = some n := by
  obtain ⟨n, h60, hr⟩ := hf
  rw [← Option.isSome_iff_exists]
  unfold State.lowestFree
  rw [List.find?_isSome]
  exact ⟨n, by simp [allHandles], by simp [h60, hr, Record.isFree]⟩

/-! ### The block's answer, check by check -/

section
variable {slot : SlotNo} {load : Byte} {level : LevelParam} {cls : Byte} {hold : Word16} {s : State} {l : LoadNo}

theorem placeBody_of_ge (hl : 32 ≤ load.toNat) : placeBody slot load level cls hold s = (s, refuse .noLoad) := by
  simp only [placeBody, loadOf, numOf_of_ge hl]

theorem placeBody_disabled (hl : load.toNat = l.val) (he : s.conf.loads[l].enabled = false) :
    placeBody slot load level cls hold s = (s, refuse .noLoad) := by
  simp only [placeBody, loadOf, numOf_of_lt l hl, if_pos he]

theorem placeBody_notPermitted (hl : load.toNat = l.val) (he : s.conf.loads[l].enabled = true)
    (hp : s.conf.loads[l].permitted.getLsbD slot.val = false) :
    placeBody slot load level cls hold s = (s, refuse .notPermitted) := by
  simp only [placeBody, loadOf, numOf_of_lt l hl, he, hp]
  rfl

theorem placeBody_badValue (hl : load.toNat = l.val) (he : s.conf.loads[l].enabled = true)
    (hp : s.conf.loads[l].permitted.getLsbD slot.val = true)
    (hb : BadDemand s.conf.channels[s.conf.loads[l].channel] (requesterOf s.conf slot).ceiling level cls hold) :
    placeBody slot load level cls hold s = (s, refuse .badValue) := by
  simp only [placeBody, loadOf, numOf_of_lt l hl, he, hp, (checkDemand_clampDemand _ _ _ _ _).1 hb]
  rfl

/-- The demand that a PLACE makes LIVE: the clamped values under the load's channel (R10, R12). -/
def State.placed (s : State) (slot : SlotNo) (l : LoadNo) (level : LevelParam) (cls : Byte) (hold : Word16) : Demand :=
  { owner := slot, load := l, channel := s.conf.loads[l].channel, level := levelAfterClamp level
    cls := classAfterClamp (requesterOf s.conf slot).ceiling cls, hold := min 3000 hold.toNat }

/-- Past the value checks come the quota, the table and the list (R9). -/
theorem placeBody_good (hl : load.toNat = l.val) (he : s.conf.loads[l].enabled = true)
    (hp : s.conf.loads[l].permitted.getLsbD slot.val = true)
    (hb : ¬ BadDemand s.conf.channels[s.conf.loads[l].channel] (requesterOf s.conf slot).ceiling level cls hold) :
    ((requesterOf s.conf slot).quota ≤ s.held[slot] →
      placeBody slot load level cls hold s = (s, refuse .quotaFull)) ∧
    (s.held[slot] < (requesterOf s.conf slot).quota →
      (s.lowestFree = none → placeBody slot load level cls hold s = (s, refuse .tableFull)) ∧
      ∀ n, s.lowestFree = some n →
        placeBody slot load level cls hold s =
          if 6 ≤ requesterCount s.lists[s.conf.loads[l].channel] then (s, refuse .listFull)
          else
            let d := s.placed slot l level cls hold
            (((s.makeLive n d (startedHold d.hold)).raiseHeld slot).handOver [d.channel],
              ⟨.ok, clampFlags (requesterOf s.conf slot).ceiling level cls hold, [numByte n.val]⟩)) := by
  obtain ⟨hc, hh, hf⟩ := (checkDemand_clampDemand _ _ _ _ _).2 hb
  refine ⟨fun hq => ?quota, fun hq => ⟨fun hn => ?table, fun n hn => ?list⟩⟩
  case quota =>
    simp only [placeBody, loadOf, numOf_of_lt l hl, he, hp, hc, if_pos hq]
    rfl
  case table =>
    simp only [placeBody, loadOf, numOf_of_lt l hl, he, hp, hc, if_neg (Nat.not_le.2 hq), hn]
    rfl
  case list =>
    simp only [placeBody, loadOf, numOf_of_lt l hl, he, hp, hc, if_neg (Nat.not_le.2 hq), hn, hh, hf]
    rfl

end

/-- The status with which PLACE is answered is its block's. -/
theorem State.Accepts.place_status {s : State} {h : Header} (a : s.Accepts h) (load : Byte) (level : LevelParam)
    (cls : Byte) (hold : Word16) :
    ∃ t, exec (.place h load level cls hold) s = .next t ∧
      t.link.response.status = (placeBody (slotOf h) load level cls hold s).2.status :=
  ⟨_, congrArg Host.Outcome.next (request_taken a (.inl rfl)), rfl⟩

/-- Settles O14: the block's answer at the first check that fails. -/
theorem placeReportsFirstFailingCheck : Obligations.PlaceReportsFirstFailingCheck := by
  intro h load level cls hold s a
  obtain ⟨t, ht, hstatus⟩ := a.place_status load level cls hold
  have answers {r : State × Answer} (hb : placeBody (slotOf h) load level cls hold s = r) :
      t.link.response.status = r.2.status := hb ▸ hstatus
  refine ⟨t, ht, fun hl => answers (placeBody_of_ge hl), fun l hl => ?_⟩
  rw [← a.slotOf_val]
  refine ⟨fun he => answers (placeBody_disabled hl he), fun he hp => answers (placeBody_notPermitted hl he hp),
    fun he hp => ⟨fun hb => answers (placeBody_badValue hl he hp hb), fun hb hq => ?_, fun hb hq => ⟨?_, ?_⟩⟩⟩
  · exact answers ((placeBody_good hl he hp hb).1 hq)
  · exact fun hfull => answers (((placeBody_good hl he hp hb).2 hq).1 (State.lowestFree_eq_none hfull))
  · intro hfree
    obtain ⟨n, hn⟩ := State.lowestFree_isSome hfree
    rw [answers (((placeBody_good hl he hp hb).2 hq).2 n hn)]
    split <;> rfl

/-- Settles O15: past every check the block makes the lowest FREE handle LIVE with `makeLive`. -/
theorem placeTakenMakesRecordLive : Obligations.PlaceTakenMakesRecordLive := by
  intro h load level cls hold s l n a hl he hp hb hq h60 hr hlow hroom ceiling c d
  rw [← a.slotOf_val] at hp
  have hbody := ((placeBody_good hl he hp hb).2 hq).2 n (State.lowestFree_eq_some h60 hr hlow)
  rw [if_neg (Nat.not_le.2 hroom)] at hbody
  rw [exec_place, request_taken a (.inl rfl), hbody, respond_ok _ _ _ (by simp)]
  exact ⟨_, rfl, rfl, s.makeLive_insertedInClass n d _, fun c' hc' => s.makeLive_lists_ne n (d := d) _ hc',
    (State.handOver_follows _ [c]).endFrame _⟩

end Sys2Proof.Machine
end

section
/-!
PROOFS. RENEW ALL and RETIRE ALL (R18, R19).
-/

namespace Sys2Proof.Machine

theorem exec_renewAll (h : Header) (target : Byte) (s : State) :
    exec (.renewAll h target) s = .next (request .renewAll h (renewAllBody (slotOf h) target) s) := rfl

theorem exec_retireAll (h : Header) (target : Byte) (s : State) :
    exec (.retireAll h target) s = .next (request .retireAll h (retireAllBody (slotOf h) target) s) := rfl

section
variable {slot n : SlotNo} {target : Byte} {s : State} {status : Status}

/-! ### The permission checks -/

theorem targetOf_of_ge (ht : 12 ≤ target.toNat) (slot : SlotNo) : targetOf slot target = .error .badValue := by
  simp only [targetOf, numOf_of_ge ht]

theorem targetOf_lines (ht : target.toNat = 11) (slot : SlotNo) : targetOf slot target = .error .notPermitted := by
  have hn : target.toNat = (11 : SlotNo).val := ht
  simp only [targetOf, numOf_of_lt _ hn]
  rfl

theorem targetOf_eq (ht : target.toNat = n.val) (hn : n.val ≤ 10) (slot : SlotNo) :
    targetOf slot target = if slot ≠ 0 ∧ n ≠ slot then .error .notPermitted else .ok n := by
  simp only [targetOf, numOf_of_lt _ ht]
  exact if_neg (by omega)

theorem renewAllBody_error (ht : targetOf slot target = .error status) :
    renewAllBody slot target s = (s, refuse status) := by
  simp only [renewAllBody, ht]

theorem retireAllBody_error (ht : targetOf slot target = .error status) :
    retireAllBody slot target s = (s, refuse status) := by
  simp only [retireAllBody, ht]

/-! ### The effects -/

/-- The part with the hold of each LIVE record of a slot started anew (R18). -/
def State.renewedFor (s : State) (n : SlotNo) : State :=
  { s with records := Vector.ofFn (fun y : Handle => s.records[y].renewFor n) }

theorem State.renewedFor_record (s : State) (n : SlotNo) (y : Handle) :
    (s.renewedFor n).records[y] = s.records[y].renewFor n := by
  simp [State.renewedFor]

theorem Record.renewFor_live {r : Record} {d : Demand} {time : Option Nat} (hr : r = .live d time)
    (howner : d.owner = n) : r.renewFor n = .live d (startedHold d.hold) := by
  subst hr
  simp only [Record.renewFor, if_pos howner]
  rfl

theorem Record.renewFor_other {r : Record} (hr : ∀ d time, r = .live d time → d.owner ≠ n) : r.renewFor n = r := by
  cases r with
  | free | lapsed => rfl
  | live d time => simp only [Record.renewFor, if_neg (hr d time rfl)]

/-- The part with every record of a slot freed and off its list (R19). -/
def State.retiredFor (s : State) (n : SlotNo) : State :=
  { s.freeAll (fun y => s.records[y].ownedBy n) with held := s.held.set n 0 }

/-- Nothing but the records, the lists and the slot's held count changes. -/
theorem State.retiredFor_eq (s : State) (n : SlotNo) :
    ∃ records lists, s.retiredFor n = { s with records := records, lists := lists, held := s.held.set n 0 } ∧
      (∀ y : Handle, records[y] = if s.records[y].ownedBy n then .free else s.records[y]) ∧
      ∀ c : Ch, lists[c] = s.lists[c].filter (fun y => !s.records[y].ownedBy n) := by
  have hrecord (y : Handle) := s.freeAll_record_at (fun y => s.records[y].ownedBy n) y
  have hlist (c : Ch) := s.freeAll_list_at (fun y => s.records[y].ownedBy n) c
  obtain ⟨records, lists, hfreed⟩ := s.freeAll_eq (fun y => s.records[y].ownedBy n)
  rw [hfreed] at hrecord hlist
  exact ⟨records, lists, by rw [State.retiredFor, hfreed], hrecord, hlist⟩

theorem renewAllBody_ok (ht : targetOf slot target = .ok n) (s : State) :
    renewAllBody slot target s = (s.renewedFor n, taken [BitVec.ofNat 8
      (Finset.univ.filter (fun y : Handle => s.records[y].liveOf n = true)).card]) := by
  simp only [renewAllBody, ht, countP_allHandles]
  rfl

theorem retireAllBody_ok (ht : targetOf slot target = .ok n) (s : State) :
    retireAllBody slot target s = ((s.retiredFor n).handOver allChans, taken [BitVec.ofNat 8
      (Finset.univ.filter (fun y : Handle => s.records[y].ownedBy n = true)).card]) := by
  simp only [retireAllBody, ht, countP_allHandles]
  rfl

end

/-- Settles O20: the checks are `targetOf`'s, alike for both; the record of each handle and the list of each channel
are read off what `renewedFor` and `freeAll` leave. -/
theorem requestsOnWholeSlot : Obligations.RequestsOnWholeSlot := by
  intro h target s a refused
  have hrefused {status : Status} (ht : targetOf (slotOf h) target = .error status) : refused status :=
    ⟨congrArg Host.Outcome.next (request_body_refuses a rfl (renewAllBody_error ht)),
      congrArg Host.Outcome.next (request_body_refuses a rfl (retireAllBody_error ht))⟩
  refine ⟨fun ht => hrefused (targetOf_of_ge ht _), fun ht => hrefused (targetOf_lines ht _),
    fun ht hslot hne => hrefused ?notPermitted, fun n ht hn hmay => ?taken⟩
  case notPermitted =>
    have htarget : target.toNat = (⟨target.toNat, by omega⟩ : SlotNo).val := rfl
    rw [targetOf_eq htarget ht, if_pos]
    refine ⟨mt a.slotOf_eq_zero.1 hslot, fun he => hne ?_⟩
    rw [htarget, he, a.slotOf_val]
  case taken =>
    have htarget : targetOf (slotOf h) target = .ok n := by
      rw [targetOf_eq ht hn, if_neg]
      rintro ⟨hslot, hne⟩
      rcases hmay with h0 | heq
      · exact hslot (a.slotOf_eq_zero.2 h0)
      · exact hne (Fin.ext (heq.trans a.slotOf_val.symm))
    obtain ⟨records, lists, hretired, hrecord, hlist⟩ := s.retiredFor_eq n
    have hretire := retireAllBody_ok htarget s
    rw [hretired] at hretire
    refine ⟨⟨_, congrArg Host.Outcome.next (request_body_takes a rfl (by simp) (renewAllBody_ok htarget s)), rfl,
        fun y d time hr howner => ?_, fun y hr => ?_⟩,
      ⟨_, congrArg Host.Outcome.next (request_body_takes a rfl (by simp) hretire), rfl,
        hrecord, hlist, (State.handOver_follows _ allChans).endFrame _⟩⟩
    · exact (s.renewedFor_record n y).trans (Record.renewFor_live hr howner)
    · exact (s.renewedFor_record n y).trans (Record.renewFor_other hr)

end Sys2Proof.Machine
end

section
/-!
PROOFS. LOOKUP, READ LAPSED and LIST: the items of R156 read back byte by byte (R25, R26, R46).
-/

namespace Sys2Proof.Machine

theorem exec_lookup (h : Header) (handle : Byte) (s : State) :
    exec (.lookup h handle) s = .next (reading .lookup h (lookupAnswer handle) s) := rfl

theorem exec_readLapsed (h : Header) (s : State) :
    exec (.readLapsed h) s = .next (reading .readLapsed h lapsedAnswer s) := rfl

theorem exec_list (h : Header) (channel : Byte) (s : State) :
    exec (.list h channel) s = .next (reading .list h (listAnswer channel) s) := rfl

section
variable {handle channel : Byte} {s : State} {n : Handle} {c : Ch} {d : Demand}

/-! ### LOOKUP -/

theorem lookupAnswer_of_ge (hn : 64 ≤ handle.toNat) (s : State) : lookupAnswer handle s = refuse .noRecord := by
  simp only [lookupAnswer, handleOf, numOf_of_ge hn]

theorem lookupAnswer_of_eq (hn : handle.toNat = n.val) (s : State) :
    lookupAnswer handle s = taken (lookupItems s n) := by
  simp only [lookupAnswer, handleOf, numOf_of_lt n hn]

/-- Bytes 5 to 12 of LOOKUP (R156). -/
theorem demandItems_eq (d : Demand) :
    demandItems d = [BitVec.ofNat 8 d.owner.val, BitVec.ofNat 8 d.load.val, BitVec.ofNat 8 d.channel.val] ++
      levelShown d.level ++ [BitVec.ofNat 8 d.cls.val] ++ twoBytes d.hold := by
  simp only [demandItems, levelItem_eq_levelShown, numWord_eq_twoBytes]
  rfl

theorem demandItems_length (d : Demand) : (demandItems d).length = 8 := by
  simp [demandItems_eq, levelShown_length, twoBytes_length]

theorem lookupItems_free (hr : s.records[n] = .free) :
    lookupItems s n = 0x00#8 :: List.replicate 12 0xFF#8 ++ [BitVec.ofNat 8 n.val] := by
  simp only [lookupItems, hr]
  rfl

/-- The time left of a LIVE record, all ones where it has none (R25). -/
def timeItems : Option Nat → List Byte
  | none => [0xFF#8, 0xFF#8]
  | some ms => twoBytes ((ms + 99) / 100)

theorem timeItems_length (time : Option Nat) : (timeItems time).length = 2 := by
  cases time <;> rfl

theorem lookupItems_live {time : Option Nat} (hr : s.records[n] = .live d time) :
    lookupItems s n = 0x01#8 :: demandItems d ++ timeItems time ++
      [BitVec.ofNat 8 (s.lists[d.channel].idxOf n), stateByte s.drive.chans[d.channel].state, BitVec.ofNat 8 n.val] := by
  cases time <;> (simp only [lookupItems, hr, numWord_eq_twoBytes]; rfl)

theorem lookupItems_lapsed {grace : Nat} (hr : s.records[n] = .lapsed d grace) :
    lookupItems s n = 0x02#8 :: demandItems d ++ twoBytes ((grace + 99) / 100) ++
      [0xFF#8, stateByte s.drive.chans[d.channel].state, BitVec.ofNat 8 n.val] := by
  simp only [lookupItems, hr, numWord_eq_twoBytes]
  rfl

theorem lookupItems_length_le (s : State) (n : Handle) : (lookupItems s n).length ≤ 15 := by
  cases hr : s.records[n] with
  | free => simp [lookupItems_free hr]
  | live => simp [lookupItems_live hr, demandItems_length, timeItems_length]
  | lapsed => simp [lookupItems_lapsed hr, demandItems_length, twoBytes_length]

theorem State.Accepts.lookup_taken {h : Header} (a : s.Accepts h) (hn : handle.toNat = n.val) :
    exec (.lookup h handle) s = .next (s.endFrame (okResponse .lookup h (lookupItems s n))) := by
  rw [exec_lookup, reading_takes a rfl (lookupItems_length_le s n) (lookupAnswer_of_eq hn s)]

/-! ### READ LAPSED -/

theorem Record.isLapsed_iff {r : Record} : r.isLapsed = true ↔ ∃ d grace, r = .lapsed d grace := by
  cases r <;> simp [Record.isLapsed]

theorem lapsedSet_getLsbD (s : State) (n : Handle) : (lapsedSet s).getLsbD n.val = s.records[n].isLapsed := by
  have hplace : (allHandles.map fun y => s.records[y].isLapsed).getD n.val false = s.records[n].isLapsed := by
    simp [allHandles, List.getD_eq_getElem?_getD]
  rw [lapsedSet, BitVec.getLsbD_ofNat, bitsOf_testBit, hplace]
  simp

/-! ### LIST -/

theorem listAnswer_of_ge (hc : 16 ≤ channel.toNat) (s : State) : listAnswer channel s = refuse .badValue := by
  simp only [listAnswer, chOf, numOf_of_ge hc]

theorem listAnswer_of_eq (hc : channel.toNat = c.val) (s : State) : listAnswer channel s = taken (listItems s c) := by
  simp only [listAnswer, chOf, numOf_of_lt c hc]

theorem listItems_length (s : State) (c : Ch) : (listItems s c).length = 15 := rfl

theorem Record.ownerNibble_lt (r : Record) : r.ownerNibble < 16 := by
  cases r with
  | free => exact Nat.lt_succ_self 15
  | live d | lapsed d => exact Nat.lt_of_lt_of_le d.owner.isLt (by decide)

theorem listOwner_lt (s : State) (l : List Handle) (rank : Nat) : listOwner s l rank < 16 := by
  unfold listOwner
  split
  · decide
  · exact Record.ownerNibble_lt _

theorem byteAt_listItems_entry (s : State) (c : Ch) {rank : Nat} (hr : rank < 10) :
    byteAt (listItems s c) rank = listEntry s s.lists[c] rank := by
  interval_cases rank <;> rfl

theorem byteAt_listItems_owners (s : State) (c : Ch) {j : Nat} (hj : j < 5) :
    byteAt (listItems s c) (10 + j) =
      nibbles (listOwner s s.lists[c] (2 * j)) (listOwner s s.lists[c] (2 * j + 1)) := by
  interval_cases j <;> rfl

/-- The owner of an even rank is a high nibble, of an odd rank a low one. -/
theorem nibbleAt_listItems (s : State) (c : Ch) {rank : Nat} (hr : rank < 10) :
    nibbleAt (byteAt (listItems s c) (10 + rank / 2)) rank = listOwner s s.lists[c] rank := by
  have heven := listOwner_lt s s.lists[c] (2 * (rank / 2))
  have hodd := listOwner_lt s s.lists[c] (2 * (rank / 2) + 1)
  rw [byteAt_listItems_owners s c (by omega), nibbleAt, nibbles_toNat heven hodd]
  split
  case isTrue h =>
    have hplace : 2 * (rank / 2) = rank := by omega
    rw [hplace] at heven hodd ⊢
    omega
  case isFalse h =>
    have hplace : 2 * (rank / 2) + 1 = rank := by omega
    rw [hplace] at hodd ⊢
    omega

theorem listEntry_none {l : List Handle} {rank : Nat} (hr : l.length ≤ rank) : listEntry s l rank = 0xFF#8 := by
  simp only [listEntry, List.getElem?_eq_none hr]

theorem listOwner_none {l : List Handle} {rank : Nat} (hr : l.length ≤ rank) : listOwner s l rank = 15 := by
  simp only [listOwner, List.getElem?_eq_none hr]

theorem listEntry_live {l : List Handle} {rank : Nat} {time : Option Nat} (hy : l[rank]? = some n)
    (hr : s.records[n] = .live d time) : (listEntry s l rank).toNat = n.val * 4 + d.cls.val := by
  simp only [listEntry, hy, hr, Record.rank]
  exact Nat.mod_eq_of_lt (by omega)

theorem listOwner_live {l : List Handle} {rank : Nat} {time : Option Nat} (hy : l[rank]? = some n)
    (hr : s.records[n] = .live d time) : listOwner s l rank = d.owner.val := by
  simp only [listOwner, hy, hr, Record.ownerNibble]

end

/-- Settles O22, by the request and the state of the record, or the rank on the list. -/
theorem recordsAreShown : Obligations.RecordsAreShown := by
  intro h handle channel s a answers fields units
  have hfields (d : Demand) : fields d = demandItems d := (demandItems_eq d).symm
  have hlookup {n : Handle} {items : List Byte} (hn : handle.toNat = n.val) (hi : lookupItems s n = items) :
      answers items := hi ▸ a.lookup_taken hn
  refine ⟨fun hn => ?noHandle, fun n hn => ⟨fun hr => ?free, fun d time hr => ?live, fun d grace hr => ?lapsed⟩,
    ⟨lapsedSet s, fun n => ?flag, ?lapsedFlags⟩, fun hc => ?noChannel,
    fun c hc => ⟨listItems s c, listItems_length s c, ?list, fun rank hrank =>
      ⟨fun hl => ?beyond, fun y d time hy hr => ?shown⟩⟩⟩
  case noHandle => rw [exec_lookup, reading_refuses a rfl (lookupAnswer_of_ge hn s)]
  case free => exact hlookup hn (by rw [lookupItems_free hr, ofNat_of_toNat hn])
  case live =>
    have hitems := lookupItems_live hr
    rw [ofNat_of_toNat hn] at hitems
    rw [hfields]
    cases time <;> exact hlookup hn hitems
  case lapsed =>
    have hitems := lookupItems_lapsed hr
    rw [ofNat_of_toNat hn] at hitems
    rw [hfields]
    exact hlookup hn hitems
  case flag => rw [lapsedSet_getLsbD, Record.isLapsed_iff]
  case lapsedFlags => rw [exec_readLapsed, reading_takes a rfl (by simp) rfl]; rfl
  case noChannel => rw [exec_list, reading_refuses a rfl (listAnswer_of_ge hc s)]
  case list => rw [exec_list, reading_takes a rfl (listItems_length s c).le (listAnswer_of_eq hc s)]
  case beyond =>
    rw [byteAt_listItems_entry s c hrank, nibbleAt_listItems s c hrank]
    exact ⟨listEntry_none hl, listOwner_none hl⟩
  case shown =>
    rw [byteAt_listItems_entry s c hrank, nibbleAt_listItems s c hrank]
    exact ⟨listEntry_live hy hr, listOwner_live hy hr⟩

end Sys2Proof.Machine
end

section
/-!
PROOFS. SET REQUESTER, ADD QUOTA and READ REQUESTER (R3, R5, R6), after the settings of a slot read back from a
configuration that has been written.
-/

namespace Sys2Proof.Machine

theorem exec_setRequester (h : Header) (target enabled quota ceiling : Byte) (s : State) :
    exec (.setRequester h target enabled quota ceiling) s =
      .next (request .setRequester h (unlessStoring (setRequesterBody target enabled quota ceiling)) s) := rfl

theorem exec_addQuota (h : Header) (target n : Byte) (s : State) :
    exec (.addQuota h target n) s = .next (request .addQuota h (unlessStoring (addQuotaBody target n)) s) := rfl

theorem exec_readRequester (h : Header) (target : Byte) (s : State) :
    exec (.readRequester h target) s = .next (reading .readRequester h (requesterAnswer target) s) := rfl

section
variable {x : Configuration} {j n : SlotNo} {r : Requester} {target quota ceiling : Byte} {s : State}

/-! ### The settings of a slot -/

theorem requesterOf_zero (hn : n.val = 0) : requesterOf x n = ⟨true, x.quota0, 3⟩ := if_pos hn

theorem withRequester_zero (hn : n.val = 0) : withRequester x n r = { x with quota0 := r.quota } := if_pos hn

/-- Slots 1 to 10 have all their settings written. -/
theorem withRequester_slot (h0 : n.val ≠ 0) (h10 : n.val ≤ 10) :
    withRequester x n r = { x with slots := x.slots.set (n.val - 1) r (by omega) } := by
  rw [withRequester, if_neg h0, dif_pos (by omega)]

theorem requesterOf_withRequester (h10 : n.val ≤ 10) (h0 : n.val = 0 → r.enabled = true ∧ r.ceiling = 3) :
    requesterOf (withRequester x n r) n = r := by
  by_cases hn : n.val = 0
  · obtain ⟨henabled, hceiling⟩ := h0 hn
    rw [requesterOf_zero hn, withRequester_zero hn, ← henabled, ← hceiling]
  · rw [withRequester_slot hn h10, requesterOf, if_neg hn, dif_pos (by omega)]
    exact Vector.getElem_set_self _

theorem requesterOf_withRequester_ne (hj : j ≠ n) : requesterOf (withRequester x n r) j = requesterOf x j := by
  have hne : j.val ≠ n.val := fun h => hj (Fin.ext h)
  unfold withRequester
  split
  case isTrue hn =>
    rw [requesterOf, requesterOf, if_neg (by omega), if_neg (by omega)]
  case isFalse hn =>
    split
    case isTrue h10 =>
      simp only [requesterOf]
      split
      · rfl
      · split
        · exact Vector.getElem_set_ne _ _ (by omega)
        · rfl
    case isFalse => rfl

theorem withRequester_eq (x : Configuration) (n : SlotNo) (r : Requester) :
    withRequester x n r =
      { x with quota0 := (withRequester x n r).quota0, slots := (withRequester x n r).slots } := by
  unfold withRequester
  split
  · rfl
  · split <;> rfl

/-! ### The checks -/

theorem settableSlot_lines (ht : target.toNat = 11) : settableSlot target = .error .notPermitted := by
  have hn : target.toNat = (11 : SlotNo).val := ht
  simp only [settableSlot, numOf_of_lt _ hn]
  rfl

theorem settableSlot_of_ge (ht : 12 ≤ target.toNat) : settableSlot target = .error .badValue := by
  simp only [settableSlot, numOf_of_ge ht]

theorem settableSlot_of_le (ht : target.toNat = n.val) (h10 : n.val ≤ 10) : settableSlot target = .ok n := by
  simp only [settableSlot, numOf_of_lt n ht]
  exact if_neg (by omega)

theorem setRequesterBody_error {status : Status} (ht : settableSlot target = .error status) (enabled : Byte) :
    setRequesterBody target enabled quota ceiling s = (s, refuse status) := by
  simp only [setRequesterBody, ht]

theorem addQuotaBody_error {status : Status} (ht : settableSlot target = .error status) (n : Byte) :
    addQuotaBody target n s = (s, refuse status) := by
  simp only [addQuotaBody, ht]

/-! ### The effects -/

/-- The part with the settings of a slot written (R3, R5). -/
def State.withSettings (s : State) (n : SlotNo) (r : Requester) : State := { s with conf := withRequester s.conf n r }

theorem setRequesterBody_quota (ht : settableSlot target = .ok n) (hq : 60 < quota.toNat) (enabled : Byte) :
    setRequesterBody target enabled quota ceiling s = (s, refuse .badValue) := by
  simp only [setRequesterBody, ht, maxQuota, if_pos hq]

theorem setRequesterBody_zero (ht : settableSlot target = .ok n) (hq : quota.toNat ≤ 60) (hn : n.val = 0)
    (enabled : Byte) :
    setRequesterBody target enabled quota ceiling s =
      (s.withSettings n ⟨true, quota.toNat, 3⟩,
        taken (requesterItems (s.withSettings n ⟨true, quota.toNat, 3⟩) n)) := by
  simp only [setRequesterBody, ht, maxQuota, if_neg (Nat.not_lt.2 hq), if_pos hn]
  rfl

theorem setRequesterBody_ceiling (ht : settableSlot target = .ok n) (hq : quota.toNat ≤ 60) (hn : n.val ≠ 0)
    (hc : 3 < ceiling.toNat) (enabled : Byte) :
    setRequesterBody target enabled quota ceiling s = (s, refuse .badValue) := by
  simp only [setRequesterBody, ht, maxQuota, if_neg (Nat.not_lt.2 hq), if_neg hn, clsOf, numOf_of_ge hc]

/-- Past the value checks, a slot is not disabled while it holds records (R3). -/
theorem setRequesterBody_slot (ht : settableSlot target = .ok n) (hq : quota.toNat ≤ 60) (hn : n.val ≠ 0)
    (hc : ceiling.toNat ≤ 3) (enabled : Byte) :
    setRequesterBody target enabled quota ceiling s =
      if yes enabled = false ∧ (requesterOf s.conf n).enabled = true ∧ s.held[n] ≠ 0 then (s, refuse .wrongState)
      else (s.withSettings n ⟨yes enabled, quota.toNat, Fin.ofNat 4 ceiling.toNat⟩,
        taken (requesterItems (s.withSettings n ⟨yes enabled, quota.toNat, Fin.ofNat 4 ceiling.toNat⟩) n)) := by
  have hcls : clsOf ceiling = some (Fin.ofNat 4 ceiling.toNat) :=
    numOf_of_lt _ (Nat.mod_eq_of_lt (Nat.lt_succ_of_le hc)).symm
  simp only [setRequesterBody, ht, maxQuota, if_neg (Nat.not_lt.2 hq), if_neg hn, hcls]
  rfl

theorem addQuotaBody_badValue {m : Byte} (ht : settableSlot target = .ok n) (hm : m = 0#8 ∨ 60 < m.toNat) :
    addQuotaBody target m s = (s, refuse .badValue) := by
  simp only [addQuotaBody, ht, maxQuota]
  exact if_pos hm

theorem addQuotaBody_taken {m : Byte} (ht : settableSlot target = .ok n) (h0 : m ≠ 0#8) (hm : m.toNat ≤ 60) :
    addQuotaBody target m s =
      (s.withSettings n { requesterOf s.conf n with quota := min 60 ((requesterOf s.conf n).quota + m.toNat) },
        taken [numByte (min 60 ((requesterOf s.conf n).quota + m.toNat))]) := by
  have hin : ¬ (m = 0#8 ∨ 60 < m.toNat) := not_or.2 ⟨h0, Nat.not_lt.2 hm⟩
  simp only [addQuotaBody, ht, maxQuota]
  exact if_neg hin

theorem requesterAnswer_of_ge (ht : 12 ≤ target.toNat) : requesterAnswer target s = refuse .badValue := by
  simp only [requesterAnswer, numOf_of_ge ht]

theorem requesterAnswer_of_eq (ht : target.toNat = n.val) : requesterAnswer target s = taken (requesterItems s n) := by
  simp only [requesterAnswer, numOf_of_lt n ht]

theorem requesterItems_length (s : State) (n : SlotNo) : (requesterItems s n).length = 4 := rfl

end

/-! ### What a request of the supervisor comes to -/

section
variable {s : State} {h : Header} {k : Kind} {body : State → State × Answer}

theorem State.Supervised.refuses {status : Status} (a : s.Supervised h) (hb : body s = (s, refuse status)) :
    request k h body s = s.endFrame (refusalResponse k h status) := by
  rw [request_taken a.accepts (.inr a.slot), hb, respond_refuse]

theorem State.Supervised.takes {t : State} {items : List Byte} (a : s.Supervised h) (hl : items.length ≤ 15)
    (hb : body s = (t, taken items)) : request k h body s = t.endFrame (okResponse k h items) := by
  rw [request_taken a.accepts (.inr a.slot), hb, respond_taken k h hl]

end

/-- Settles O23: each request by its checks in order, its effect by the settings read back. -/
theorem requesterSettings : Obligations.RequesterSettings := by
  intro h target enabled quota ceiling n s a items refusesSet refusesAdd
  have hlen (t : State) (k : SlotNo) : (requesterItems t k).length ≤ 15 := by simp [requesterItems_length]
  refine ⟨fun ht => ?noSlot, fun k ht => ?read, fun hw => ?settings⟩
  case noSlot =>
    exact congrArg Host.Outcome.next (a.refuses (by rw [requesterAnswer_of_ge ht]))
  case read =>
    exact congrArg Host.Outcome.next (a.takes (hlen s k) (by rw [requesterAnswer_of_eq ht]; rfl))
  case settings =>
    have setRefused {status : Status} (hb : setRequesterBody target enabled quota ceiling s = (s, refuse status)) :
        refusesSet status := congrArg Host.Outcome.next (a.unlessStoring_refuses hw hb)
    have addRefused {status : Status} (hb : addQuotaBody target n s = (s, refuse status)) : refusesAdd status :=
      congrArg Host.Outcome.next (a.unlessStoring_refuses hw hb)
    have refused {status : Status} (ht : settableSlot target = .error status) :
        refusesSet status ∧ refusesAdd status :=
      ⟨setRefused (setRequesterBody_error ht enabled), addRefused (addQuotaBody_error ht n)⟩
    refine ⟨fun ht => refused (settableSlot_lines ht), fun ht => refused (settableSlot_of_ge ht), fun k ht h10 => ?_⟩
    have hslot := settableSlot_of_le ht h10
    refine ⟨fun hq => setRefused (setRequesterBody_quota hslot hq enabled),
      fun hm => addRefused (addQuotaBody_badValue hslot hm), fun h0 hm => ?added, fun hq h0 => ?supervisor,
      fun hq h0 => ⟨fun hc => setRefused (setRequesterBody_ceiling hslot hq h0 hc enabled),
        fun hc he hon hheld => ?inUse, fun hc hmay => ?written⟩⟩
    case added =>
      have hread : requesterOf (withRequester s.conf k { requesterOf s.conf k with
          quota := min 60 ((requesterOf s.conf k).quota + n.toNat) }) k = _ :=
        requesterOf_withRequester h10 fun hk => by simp [requesterOf_zero hk]
      refine ⟨_, ?_, withRequester_eq _ _ _, hread, fun j hj => requesterOf_withRequester_ne hj⟩
      rw [exec_addQuota, a.unlessStoring_takes hw (by simp) (addQuotaBody_taken hslot h0 hm), hread]
      rfl
    case supervisor =>
      rw [exec_setRequester, a.unlessStoring_takes hw (hlen _ k) (setRequesterBody_zero hslot hq h0 enabled),
        State.withSettings, withRequester_zero h0]
      rfl
    case inUse =>
      have hbody := setRequesterBody_slot (s := s) hslot hq h0 hc enabled
      rw [if_pos ⟨by simp [yes, he], hon, hheld⟩] at hbody
      exact setRefused hbody
    case written =>
      have hbody := setRequesterBody_slot (s := s) hslot hq h0 hc enabled
      have hfree : ¬ (yes enabled = false ∧ (requesterOf s.conf k).enabled = true ∧ s.held[k] ≠ 0) := by
        rintro ⟨hoff, hon, hheld⟩
        rcases hmay with hmay | hmay | hmay
        · exact hmay (by simpa [yes] using hoff)
        · exact absurd (hmay.symm.trans hon) (by decide)
        · exact hheld hmay
      rw [if_neg hfree] at hbody
      refine ⟨_, ?_, ?_, requesterOf_withRequester h10 fun hk => absurd hk h0,
        fun j hj => requesterOf_withRequester_ne hj⟩
      · rw [exec_setRequester, a.unlessStoring_takes hw (hlen _ k) hbody]
        rfl
      · rw [withRequester_slot h0 h10]

end Sys2Proof.Machine
end

section
/-!
PROOFS. SET CHANNEL LIMITS and SET CHANNEL PROFILE (R50, R51).
-/

namespace Sys2Proof.Machine

theorem exec_setChannelLimits (h : Header) (channel : Byte) (p : LimitsParams) (s : State) :
    exec (.setChannelLimits h channel p) s =
      .next (request .setChannelLimits h (unlessStoring (configureBody channel (fun old => limitsOf old p))) s) := rfl

theorem exec_setChannelProfile (h : Header) (channel : Byte) (q : ProfileParams) (s : State) :
    exec (.setChannelProfile h channel q) s =
      .next (request .setChannelProfile h (unlessStoring (configureBody channel (fun old => profileOf old q))) s) := rfl

/-! ### The fields -/

/-- The fields of SET CHANNEL LIMITS are in range (R50 checks 4 and 5). -/
def LimitsInRange (p : LimitsParams) : Prop :=
  p.feed.toNat ≤ 2 ∧ (1 ≤ p.iNom.toNat ∧ p.iNom.toNat ≤ 1023) ∧ (1 ≤ p.iRate.toNat ∧ p.iRate.toNat ≤ 1023) ∧
  (8 ≤ p.k.toNat ∧ p.k.toNat ≤ 16) ∧ (1 ≤ p.peakLimit.toNat ∧ p.peakLimit.toNat ≤ p.inrushLimit.toNat) ∧
  p.inrushLimit.toNat ≤ 1023 ∧ (1 ≤ p.inrushFactor.toNat ∧ p.inrushFactor.toNat ≤ 16)

/-- The fields of SET CHANNEL PROFILE are in range, and outage watch is asked of LAMP alone (R51). -/
def ProfileInRange (q : ProfileParams) : Prop :=
  q.loadType.toNat ≤ 2 ∧ q.openLoadLevel.toNat ≤ 1023 ∧ (1 ≤ q.stallLevel.toNat ∧ q.stallLevel.toNat ≤ 1023) ∧
  1 ≤ q.stallTime.toNat ∧ q.retryLimit.toNat ≤ 7 ∧ (q.outageWatch = 0#8 ∨ q.loadType = 0#8)

theorem feedOfByte_of_index {b : Byte} {feed : Feed} (hb : b.toNat = feed.index.val) : feedOfByte b = some feed := by
  obtain rfl := ofNat_of_toNat hb
  cases feed <;> rfl

theorem limitsOf_inRange {p : LimitsParams} {feed : Feed} (hp : LimitsInRange p) (hf : p.feed.toNat = feed.index.val)
    (old : ChannelConfig) :
    limitsOf old p = some { old with
      feed := feed, iNom := p.iNom.toNat, iRate := p.iRate.toNat, k := p.k.toNat, peakLimit := p.peakLimit.toNat
      inrushLimit := p.inrushLimit.toNat, inrushFactor := p.inrushFactor.toNat
      inrushWindow := p.inrushWindow.toNat, configured := true } := by
  obtain ⟨-, hnom, hrate, hk, ⟨hpeak, hle⟩, hinrush, hfactor⟩ := hp
  simp only [limitsOf, feedOfByte_of_index hf]
  exact if_pos ⟨hnom, hrate, hk, ⟨hpeak, hle.trans hinrush⟩, ⟨hle, hinrush⟩, hfactor⟩

theorem limitsOf_outOfRange {p : LimitsParams} (hp : ¬ LimitsInRange p) (old : ChannelConfig) : limitsOf old p = none := by
  by_cases hf : 3 ≤ p.feed.toNat
  · simp only [limitsOf, feedOfByte_of_ge hf]
  · obtain ⟨feed, hfeed, -⟩ := feedOfByte_of_eq (n := p.feed) (f := ⟨p.feed.toNat, by omega⟩) rfl
    simp only [limitsOf, hfeed]
    refine if_neg fun ⟨hnom, hrate, hk, ⟨hpeak, _⟩, ⟨hle, hinrush⟩, hfactor⟩ => hp ?_
    exact ⟨by omega, hnom, hrate, hk, ⟨hpeak, hle⟩, hinrush, hfactor⟩

/-- The code of a load type (R153). -/
def loadTypeCode : LoadType → Byte
  | .lamp => 0x00#8
  | .motor => 0x01#8
  | .heater => 0x02#8

theorem loadTypeOf_code (x : LoadType) : loadTypeOf (loadTypeCode x) = some x := by
  cases x <;> rfl

theorem loadTypeCode_eq_zero {x : LoadType} : loadTypeCode x = 0#8 ↔ x = .lamp := by
  cases x <;> simp [loadTypeCode]

theorem loadTypeOf_of_ge {b : Byte} (hb : 3 ≤ b.toNat) : loadTypeOf b = none := by
  have hne (k : Byte) (hk : k.toNat < 3) : b ≠ k := fun he => absurd (he ▸ hb) (Nat.not_le.2 hk)
  rw [loadTypeOf, if_neg (hne _ (by decide)), if_neg (hne _ (by decide)), if_neg (hne _ (by decide))]

theorem loadTypeOf_of_lt {b : Byte} (hb : b.toNat < 3) : ∃ x, b = loadTypeCode x := by
  have hval : BitVec.ofNat 8 b.toNat = b := ofNat_of_toNat rfl
  generalize b.toNat = v at hb hval
  subst hval
  interval_cases v
  · exact ⟨.lamp, rfl⟩
  · exact ⟨.motor, rfl⟩
  · exact ⟨.heater, rfl⟩

theorem yes_eq_true {b : Byte} : yes b = true ↔ b ≠ 0#8 := by simp [yes]

theorem profileOf_inRange {q : ProfileParams} {loadType : LoadType} (hq : ProfileInRange q)
    (ht : q.loadType = loadTypeCode loadType) (old : ChannelConfig) :
    profileOf old q = some { old with
      loadType := loadType, openLoadLevel := q.openLoadLevel.toNat, stallLevel := q.stallLevel.toNat
      stallTime := q.stallTime.toNat, retryLimit := q.retryLimit.toNat, outageWatch := yes q.outageWatch
      lockAtStart := yes q.lockAtStart, configured := true } := by
  obtain ⟨-, hopen, hlevel, htime, hretry, hwatch⟩ := hq
  have htype : loadTypeOf q.loadType = some loadType := by rw [ht, loadTypeOf_code]
  simp only [profileOf, htype]
  refine if_pos ⟨hopen, hlevel, htime, hretry, fun hy => loadTypeCode_eq_zero.1 ?_⟩
  exact ht ▸ hwatch.resolve_left (yes_eq_true.1 hy)

theorem profileOf_outOfRange {q : ProfileParams} (hq : ¬ ProfileInRange q) (old : ChannelConfig) : profileOf old q = none := by
  by_cases ht : 3 ≤ q.loadType.toNat
  · simp only [profileOf, loadTypeOf_of_ge ht]
  · obtain ⟨x, hx⟩ := loadTypeOf_of_lt (Nat.not_le.1 ht)
    have htype : loadTypeOf q.loadType = some x := by rw [hx, loadTypeOf_code]
    simp only [profileOf, htype]
    refine if_neg fun ⟨hopen, hlevel, htime, hretry, hwatch⟩ => hq ⟨by omega, hopen, hlevel, htime, hretry, ?_⟩
    by_cases h0 : q.outageWatch = 0#8
    · exact .inl h0
    · exact .inr (hx.trans (loadTypeCode_eq_zero.2 (hwatch (yes_eq_true.2 h0))))

/-! ### The block -/

section
variable {channel : Byte} {fields : ChannelConfig → Option ChannelConfig} {s : State} {c : Ch}

theorem configureBody_of_ge (hc : 16 ≤ channel.toNat) : configureBody channel fields s = (s, refuse .badValue) := by
  simp only [configureBody, chOf, numOf_of_ge hc]

theorem configureBody_wrongState (hc : channel.toNat = c.val) (hs : s.drive.chans[c].state ≠ .disabled) :
    configureBody channel fields s = (s, refuse .wrongState) := by
  simp only [configureBody, chOf, numOf_of_lt c hc]
  exact if_pos hs

theorem configureBody_badValue (hc : channel.toNat = c.val) (hs : s.drive.chans[c].state = .disabled)
    (hf : fields s.conf.channels[c] = none) : configureBody channel fields s = (s, refuse .badValue) := by
  simp only [configureBody, chOf, numOf_of_lt c hc, hf]
  exact if_neg (not_not.2 hs)

/-- The part with the configuration of a channel written. -/
def State.withChannel (s : State) (c : Ch) (x : ChannelConfig) : State :=
  { s with conf := { s.conf with channels := s.conf.channels.set c x } }

theorem configureBody_taken {x : ChannelConfig} (hc : channel.toNat = c.val) (hs : s.drive.chans[c].state = .disabled)
    (hf : fields s.conf.channels[c] = some x) : configureBody channel fields s = (s.withChannel c x, taken []) := by
  simp only [configureBody, chOf, numOf_of_lt c hc, hf]
  exact if_neg (not_not.2 hs)

end

/-- Settles O28: both requests are `configureBody`, the fields of each decided by its range. -/
theorem channelConfigurationRequests : Obligations.ChannelConfigurationRequests := by
  intro h channel p q s a hw limits profile refusedLimits refusedProfile limitsInRange profileInRange
  have hlimits {status : Status} (hb : configureBody channel (fun old => limitsOf old p) s = (s, refuse status)) :
      refusedLimits status := congrArg Host.Outcome.next (a.unlessStoring_refuses hw hb)
  have hprofile {status : Status} (hb : configureBody channel (fun old => profileOf old q) s = (s, refuse status)) :
      refusedProfile status := congrArg Host.Outcome.next (a.unlessStoring_refuses hw hb)
  refine ⟨fun hc => ⟨hlimits (configureBody_of_ge hc), hprofile (configureBody_of_ge hc)⟩,
    fun c hc => ⟨fun hs => ⟨hlimits (configureBody_wrongState hc hs), hprofile (configureBody_wrongState hc hs)⟩,
      fun hs => ⟨fun hp => hlimits (configureBody_badValue hc hs (limitsOf_outOfRange hp _)),
        fun hq => hprofile (configureBody_badValue hc hs (profileOf_outOfRange hq _)),
        fun feed hp hf => ?limitsTaken, fun loadType hq ht => ?profileTaken⟩⟩⟩
  case limitsTaken =>
    have hb := configureBody_taken (fields := fun old => limitsOf old p) hc hs (limitsOf_inRange hp hf _)
    exact congrArg Host.Outcome.next (a.unlessStoring_takes hw (by simp) hb)
  case profileTaken =>
    have hcode : q.loadType = loadTypeCode loadType := by rw [ht]; cases loadType <;> rfl
    have hb := configureBody_taken (fields := fun old => profileOf old q) hc hs (profileOf_inRange hq hcode _)
    exact congrArg Host.Outcome.next (a.unlessStoring_takes hw (by simp) hb)

end Sys2Proof.Machine
end

section
/-!
PROOFS. The Configuration Store, power-on, and the machine right after reset (R167, R169, R171), and frames written out
byte by byte (R147, R149, R150).
-/

namespace Sys2Proof.Machine

/-- Settles O5, by reading each frame. -/
theorem knownFramesAreRead : Obligations.KnownFramesAreRead := by
  unfold Obligations.KnownFramesAreRead
  decide +kernel

/-! ### The Configuration Store -/

theorem exec_storeConfiguration (h : Header) (s : State) :
    exec (.storeConfiguration h) s = .next (request .storeConfiguration h (unlessStoring storeBody) s) := rfl

theorem exec_storeWriteCompletion (x : Configuration) (s : State) :
    exec (.storeWriteCompletion x) s = .next (event (storeWriteCompletion x) s) := rfl

/-- The end of a write: the image, its validity and the result (R169). -/
theorem storeWriteCompletion_writing {readBack x : Configuration} {s : State} (hw : s.store.writing = some x) :
    storeWriteCompletion readBack s =
      { s with
        store := { image := ⟨readBack, Config.checkValue x⟩
                   valid := decide (Config.checkValue readBack = Config.checkValue x)
                   writing := none
                   result := if Config.checkValue readBack = Config.checkValue x then .ok else .failed }
        drive := s.drive.setKind .store } := by
  simp only [storeWriteCompletion, hw, decide_eq_true_eq]

/-- Settles O56: the block takes the configuration, and the end of the write compares the check values. -/
theorem storeWritesConfiguration : Obligations.StoreWritesConfiguration := by
  refine ⟨fun h s a hw => ?store, fun readBack x s hrun hw => ?ends⟩
  case store =>
    rw [exec_storeConfiguration, a.unlessStoring_takes hw (by simp) rfl]
    rfl
  case ends =>
    rw [exec_storeWriteCompletion, event_running hrun, storeWriteCompletion_writing hw]
    exact ⟨_, rfl, rfl, rfl, rfl, fun ha => ⟨decide_eq_true ha, if_pos ha⟩, fun ha => ⟨decide_eq_false ha, if_neg ha⟩⟩

/-! ### Power-on -/

theorem exec_powerOn (s : State) : exec .powerOn s = .next (powerOn s) := rfl

theorem Image.agrees_iff (x : Image) : x.agrees = true ↔ Config.checkValue x.contents = x.check :=
  decide_eq_true_iff

/-- Power-on finds an image that agrees where no write was in flight and the check value agrees (R170, R171). -/
theorem State.cutStore_agrees (s : State) :
    s.cutStore.store.image.agrees = true ↔
      s.store.writing = none ∧ Config.checkValue s.store.image.contents = s.store.image.check := by
  rw [← Image.agrees_iff]
  cases hw : s.store.writing with
  | none => simp [State.cutStore, hw]
  | some x => simp [State.cutStore, hw, cutImage_disagrees]

theorem startState_eq (cfg : ChannelConfig) :
    startState cfg = if cfg.configured = true ∧ cfg.lockAtStart = false then .off else .disabled := by
  simp only [startState, Bool.and_eq_true, Bool.not_eq_true']

theorem powerOn_conf (s : State) :
    (powerOn s).conf = if s.cutStore.store.image.agrees then s.cutStore.store.image.contents else defaultConfiguration :=
  rfl

theorem powerOn_kinds (s : State) :
    (powerOn s).drive.notice.kinds = if s.cutStore.store.image.agrees then 0x00#8 else 0x80#8 := rfl

/-- Settles O58, block by block. -/
theorem powerOnStartsEveryBlock : Obligations.PowerOnStartsEveryBlock := by
  intro s agrees
  have hagrees := s.cutStore_agrees
  have hkept (hw : s.store.writing = none) : s.cutStore = s := by simp [State.cutStore, hw]
  refine ⟨_, exec_powerOn s, rfl, s.cutStore_pending, rfl, rfl, fun ha => ?valid, fun ha => ?invalid, fun hw => ?kept,
    fun hw => ?cut, rfl, rfl, fun y => ?record, fun n => ?held, fun c => ?list, fun c => ⟨?chan, ?monitor⟩,
    fun p => startDrive_pairs _ _ p, fun f => startDrive_feeds _ _ f, rfl, rfl, rfl, rfl, rfl, rfl, rfl,
    fun n => ⟨powerOn_inactive s n, ?counter⟩, rfl, fun r a => Csn.uncount_frame, fun hc => ?high, fun hc => ?low⟩
  case valid =>
    have hval := hagrees.2 ha
    refine ⟨?_, hval, ?_⟩
    · rw [powerOn_conf, if_pos hval, hkept ha.1]
    · rw [powerOn_kinds, if_pos hval]
  case invalid =>
    have hval : s.cutStore.store.image.agrees = false := Bool.eq_false_iff.2 (mt hagrees.1 ha)
    refine ⟨?_, hval, ?_⟩
    · rw [powerOn_conf, hval]; rfl
    · rw [powerOn_kinds, hval]; rfl
  case kept => exact congrArg (fun x => x.store.image) (hkept hw)
  case cut => exact fun he => hw (hagrees.1 ((Image.agrees_iff _).2 he)).1
  case record => exact Vector.getElem_replicate ..
  case held => exact Vector.getElem_replicate ..
  case list => exact Vector.getElem_replicate ..
  case chan =>
    rw [powerOn_drive, startDrive_chans, startChannel, startState_eq]
    rfl
  case monitor => exact Vector.getElem_replicate ..
  case counter =>
    have hline : (powerOn s).lines[n] = startLine (powerOn s).conf.bindings[n] := Vector.getElem_ofFn _
    rw [hline]
    rfl
  case high =>
    show s.cutStore.link.csn.uncount = .high
    rw [s.cutStore_link, hc]
    rfl
  case low =>
    show s.cutStore.link.csn.uncount = .lowUncounted
    rw [s.cutStore_link]
    cases hcsn : s.link.csn with
    | high => exact absurd hcsn hc
    | frame | lowUncounted => rfl

/-! ### Right after reset -/

theorem reset_drive : State.reset.drive = startDrive defaultConfiguration false := rfl

theorem reset_record (y : Handle) : State.reset.records[y] = .free := Vector.getElem_replicate ..

theorem reset_list (c : Ch) : State.reset.lists[c] = [] := Vector.getElem_replicate ..

theorem reset_chan (c : Ch) : State.reset.drive.chans[c] = startChannel State.reset.conf.channels[c] :=
  startDrive_chans _ _ c

theorem reset_undriven (c : Ch) : State.reset.drive.chans[c].state.driven = false := by
  rw [reset_chan]
  exact (startState_undriven _).1

theorem reset_confSound : State.reset.ConfSound where
  inForce := defaultConfiguration_wellFormed
  image _ := defaultConfiguration_wellFormed
  writing _ hx := by cases hx
  pending _ hi := absurd hi List.not_mem_nil

theorem reset_storeSound : State.reset.StoreSound where
  valid hv := by cases hv
  writing _ := iff_of_false StoreResult.noConfusion Bool.false_ne_true
  inForce _ hx := by cases hx

theorem reset_heldSound : State.reset.HeldSound where
  counts n := by
    have hheld : State.reset.held[n] = 0 := Vector.getElem_replicate ..
    rw [hheld, eq_comm, List.countP_eq_zero]
    intro y _
    rw [reset_record]
    exact Bool.false_ne_true
  owners y := by
    rw [reset_record]
    trivial

theorem reset_pairsSound : State.reset.PairsSound where
  holders p hp := by
    rw [show State.reset.conf.pairs[p] = _ from Vector.getElem_replicate ..] at hp
    cases hp
  deadTime p _ := by rw [reset_drive, startDrive_pairs]
  disabled p _ := startDrive_pairs _ _ p

theorem reset_linesSound : State.reset.LinesSound := by
  intro n
  have hline : State.reset.lines[n] = startLine State.reset.conf.bindings[n] := Vector.getElem_ofFn _
  have hidle : State.reset.active n = false := by
    rw [State.active, hline]
    exact startLine_inactive _
  rw [if_neg (by rw [hidle]; exact fun h => Bool.false_ne_true h.2)]
  exact reset_record _

/-- Settles O59, law by law; the default channel is unconfigured, so each channel is DISABLED. -/
theorem resetSatisfiesTheLaws : Obligations.ResetSatisfiesTheLaws := by
  have hdisabled (c : Ch) : State.reset.drive.chans[c].state = .disabled := by
    have hcfg : State.reset.conf.channels[c] = defaultChannel := Vector.getElem_replicate ..
    rw [reset_chan, hcfg]
    rfl
  refine ⟨⟨reset_confSound, reset_storeSound, reset_heldSound, .start reset_record reset_list,
      .start reset_drive reset_list, startDrive_feedsSound _ _, fun _ c hd => ?low, fun c => ?retries, fun c => ?opens,
      reset_pairsSound, fun c => ?heat, reset_linesSound, State.flashSound_iff.2 (startDrive_flashSound _ _),
      fun r hr => ?check, rfl, fun r a hc => ?frame⟩,
    rfl, rfl, rfl, ?noticen, rfl, rfl, rfl, rfl, rfl, fun c => ⟨hdisabled c, ?gate⟩, reset_record⟩
  case low => exact absurd (hd.symm.trans (reset_undriven c)) (by decide)
  case retries =>
    rw [reset_chan]
    exact ⟨Nat.zero_le _, fun _ => rfl⟩
  case opens =>
    rw [reset_chan]
    exact ⟨Nat.zero_le _, fun h => h.elim (fun h => by cases h) fun h => absurd rfl h⟩
  case heat =>
    rw [show State.reset.monitors[c] = startMonitor from Vector.getElem_replicate ..]
    exact Nat.zero_le _
  case check => cases hr
  case frame => cases hc
  case noticen => decide
  case gate =>
    simp only [State.gate, reset_undriven]
    rfl

end Sys2Proof.Machine
end

section
/-!
PROOFS. RESTART: what it frees, and what the channels that follow can still set (R29, R146, R165, R172).
-/

namespace Sys2Proof.Machine

theorem exec_restart (h : Header) (s : State) :
    exec (.restart h) s = .next (request .restart h (unlessStoring restartBody) s) := rfl

/-! ### A channel admitted, and the output check (R58, R143) -/

/-- What a fresh entry's admission does before any output check is abandoned (R58, R110). -/
def Drive.startInrush (d : Drive) (e : Env) (c : Ch) : Drive :=
  let d1 := d.leaveQueue e c
  let d2 := d1.modFeed (e.feedOf c) (fun f => { f with admitted := f.admitted ++ [c] })
  let d3 := d2.modChan c (fun x =>
    { x with state := .inrush, applied := levelToApply (e.cfg c) d.chans[c].wanted, pwmSettled := false
             inrushTimer := some ((e.cfg c).inrushWindow * 10), stallTimer := stallReload (e.cfg c) })
  (d3.setReservation e c (inrushReservation (e.cfg c))).syncFlash e

section
variable (d : Drive) (e : Env) (c : Ch)

theorem Drive.admitFresh_eq :
    d.admitFresh e c = if (e.cfg c).inrushWindow = 0 then ((d.startInrush e c).abandonTest c).enterOn e c
      else (d.startInrush e c).abandonTest c := rfl

@[simp] theorem Drive.startInrush_check : (d.startInrush e c).check = d.check := by
  simp [Drive.startInrush]

@[simp] theorem Drive.startInrush_notice : (d.startInrush e c).notice = d.notice := by
  simp [Drive.startInrush]

theorem Drive.admitFresh_check : (d.admitFresh e c).check = ((d.startInrush e c).abandonTest c).check := by
  rw [Drive.admitFresh_eq]
  split
  · exact Drive.enterOn_check ..
  · rfl

theorem Drive.admitFresh_notice : (d.admitFresh e c).notice = ((d.startInrush e c).abandonTest c).notice := by
  rw [Drive.admitFresh_eq]
  split
  · exact Drive.enterOn_notice ..
  · rfl

end

/-- A test of another channel, or none, is not abandoned. -/
theorem Drive.abandonTest_other {d : Drive} {c : Ch} (h : ∀ r, d.check.run = some r → r.test.ch ≠ c) :
    d.abandonTest c = d := by
  unfold Drive.abandonTest
  split
  · rfl
  · rename_i r hr
    exact if_neg (h r hr)

/-- The admission of a channel that is not under test touches neither the check nor the notices. -/
theorem Drive.admitFresh_apart {d : Drive} {e : Env} {c : Ch} (h : ∀ r, d.check.run = some r → r.test.ch ≠ c) :
    (d.admitFresh e c).check = d.check ∧ (d.admitFresh e c).notice = d.notice := by
  have habandon : (d.startInrush e c).abandonTest c = d.startInrush e c :=
    Drive.abandonTest_other fun r hr => h r (d.startInrush_check e c ▸ hr)
  rw [Drive.admitFresh_check, Drive.admitFresh_notice, habandon]
  exact ⟨d.startInrush_check e c, d.startInrush_notice e c⟩

/-! ### The notices of a pair taken -/

/-- Of the ways in which a pair is taken, the shed of R64 alone touches the Notice Unit. -/
theorem Drive.takePair_notice (d : Drive) (e : Env) (c : Ch) (wanted : Level) (cls : Option Cls) :
    (d.takePair e c wanted cls).1 = (d.record c wanted cls).shed e c .undervolt ∨
      (d.takePair e c wanted cls).1.notice = d.notice := by
  have ht := d.takePair_takes e c wanted cls
  generalize (d.takePair e c wanted cls).1 = d' at ht ⊢
  cases ht with
  | recorded => exact .inr rfl
  | goesOff => exact .inr (by simp [Drive.goOff, Drive.record])
  | shed => exact .inl rfl
  | requeued => exact .inr (Drive.requeue_notice ..)
  | switchesOn => exact .inr (Drive.switchOn_notice ..)
  | levels => exact .inr (Drive.levelInOn_notice ..)

/-! ### No output check in progress, and CHANNEL alone to be set -/

/-- The check unit stands as `x` does, no kind but CHANNEL is pending, and the warn set and the open set are empty. -/
structure Drive.OnlyChannel (x : Check) (d : Drive) : Prop where
  check   : d.check = x
  kinds   : d.notice.kinds &&& 0xFE#8 = 0#8
  warn    : d.notice.warn = 0#16
  openSet : d.notice.openSet = 0#16

section
variable {x : Check} {d d' : Drive} {e : Env}

theorem Drive.OnlyChannel.congr (h : Drive.OnlyChannel x d) (hc : d'.check = d.check) (hn : d'.notice = d.notice) :
    Drive.OnlyChannel x d' :=
  ⟨hc.trans h.check, hn ▸ h.kinds, hn ▸ h.warn, hn ▸ h.openSet⟩

/-- A shed sets CHANNEL and nothing else (R65). -/
theorem Drive.OnlyChannel.shed (h : Drive.OnlyChannel x d) (v : Ch) (cause : ShedCause) :
    Drive.OnlyChannel x (d.shed e v cause) where
  check := (d.shed_check e v cause).trans h.check
  kinds := by
    have hset : (d.shed e v cause).notice.kinds = d.notice.kinds ||| 0x01#8 := by simp [Drive.shed, kindBit]
    rw [hset, BitVec.and_or_distrib_right, h.kinds]
    rfl
  warn := by
    have hwarn : (d.shed e v cause).notice.warn = d.notice.warn := by simp [Drive.shed]
    exact hwarn.trans h.warn
  openSet := by
    have hopen : (d.shed e v cause).notice.openSet = d.notice.openSet := by simp [Drive.shed]
    exact hopen.trans h.openSet

theorem Drive.OnlyChannel.letIn (h : Drive.OnlyChannel x d) (hr : x.run = none) (y : Entry) :
    Drive.OnlyChannel x (d.letIn e y) := by
  unfold Drive.letIn
  split
  · obtain ⟨hcheck, hnotice⟩ := Drive.admitFresh_apart (e := e) (c := y.ch) (d := d) fun r hrun => by
      rw [h.check, hr] at hrun
      cases hrun
    exact h.congr hcheck hnotice
  · exact h.congr (d.admitUpgrade_check e y.ch) (d.admitUpgrade_notice e y.ch)

theorem Drive.OnlyChannel.pass (h : Drive.OnlyChannel x d) (hr : x.run = none) (f : Fin 3) :
    Drive.OnlyChannel x (d.pass e f) :=
  Drive.pass_induct (P := Drive.OnlyChannel x) (fun _ v _ hd _ _ _ => hd.shed v .budget)
    (fun _ y hd _ _ _ => hd.letIn hr y) d h

theorem Drive.OnlyChannel.takePair (h : Drive.OnlyChannel x d) (c : Ch) (wanted : Level) (cls : Option Cls) :
    Drive.OnlyChannel x (d.takePair e c wanted cls).1 := by
  rcases d.takePair_notice e c wanted cls with hshed | hnotice
  · rw [hshed]
    have hrecord : Drive.OnlyChannel x (d.record c wanted cls) := h.congr (d.record_check c wanted cls) rfl
    exact hrecord.shed c .undervolt
  · exact h.congr (d.takePair_check e c wanted cls) hnotice

end

theorem State.handOver_onlyChannel {s : State} {x : Check} (h : Drive.OnlyChannel x s.drive) (hr : x.run = none)
    (cs : List Ch) : Drive.OnlyChannel x (s.handOver cs).drive :=
  Drive.takePairs_induct (P := Drive.OnlyChannel x) (fun _ c wanted cls hd => hd.takePair c wanted cls)
    (fun _ f hd => hd.pass hr f) _ _ h

/-! ### The block -/

/-- The part as RESTART leaves it before any channel follows (R172). -/
def State.restarted (s : State) : State :=
  { s.freeAll requesterHandle with held := heldAfterRestart s.held, drive := s.drive.restartUnits }

theorem State.restarted_eq (s : State) :
    ∃ records lists, s.restarted =
        { s with records := records, lists := lists, held := heldAfterRestart s.held, drive := s.drive.restartUnits } ∧
      (∀ y : Handle, records[y] = if y.val < 60 then .free else s.records[y]) ∧
      ∀ c : Ch, lists[c] = s.lists[c].filter (fun y => decide (60 ≤ y.val)) := by
  have hrecord (y : Handle) := s.freeAll_record_at requesterHandle y
  have hlist (c : Ch) := s.freeAll_list_at requesterHandle c
  have hline (y : Handle) : (!requesterHandle y) = decide (60 ≤ y.val) := by
    rw [Bool.eq_iff_iff]; simp [requesterHandle]
  obtain ⟨records, lists, hfreed⟩ := s.freeAll_eq requesterHandle
  rw [hfreed] at hrecord hlist
  refine ⟨records, lists, by rw [State.restarted, hfreed], fun y => ?_, fun c => ?_⟩
  · rw [hrecord]
    simp only [requesterHandle, decide_eq_true_eq]
  · rw [hlist]
    simp only [hline]

theorem restartBody_eq (s : State) :
    restartBody s = (s.restarted.handOver allChans, taken [BitVec.ofNat 8
      (Finset.univ.filter (fun y : Handle => y.val < 60 ∧ s.records[y].isFree = false)).card]) := by
  have hcount : allHandles.countP (fun y => requesterHandle y && !s.records[y].isFree) =
      (Finset.univ.filter (fun y : Handle => y.val < 60 ∧ s.records[y].isFree = false)).card := by
    rw [countP_allHandles]
    simp only [requesterHandle, Bool.and_eq_true, decide_eq_true_eq, Bool.not_eq_true']
  rw [← hcount]
  rfl

/-- Settles O57: the records, lists and held counts are read off what `freeAll` leaves, and a channel that follows sets
no kind but CHANNEL while no check is in progress. -/
theorem restartFreesRequesterRecords : Obligations.RestartFreesRequesterRecords := by
  intro h s a hw
  obtain ⟨records, lists, hrestarted, hrecord, hlist⟩ := s.restarted_eq
  have hbody := restartBody_eq s
  rw [hrestarted] at hbody
  have hstart : Drive.OnlyChannel { s.drive.check with run := none } s.drive.restartUnits :=
    ⟨rfl, by simp [Drive.restartUnits], rfl, rfl⟩
  have hunits := State.handOver_onlyChannel
    (s := { s with records := records, lists := lists, held := heldAfterRestart s.held, drive := s.drive.restartUnits })
    hstart rfl allChans
  refine ⟨_, congrArg Host.Outcome.next (a.unlessStoring_takes hw (by simp) hbody), rfl, hrecord, fun n => ?held, hlist,
    hunits.check, (State.handOver_follows _ allChans).endFrame _, hunits.kinds, hunits.warn, hunits.openSet⟩
  case held =>
    show (heldAfterRestart s.held)[n] = _
    simp [heldAfterRestart]

end Sys2Proof.Machine
end

section
/-!
PROOFS. SET FLASH PERIOD and the expiry of a phase (R123, R126, R127).
-/

namespace Sys2Proof.Machine

theorem exec_setFlashPeriod (h : Header) (period : Byte) (s : State) :
    exec (.setFlashPeriod h period) s =
      .next (request .setFlashPeriod h (unlessStoring (setFlashPeriodBody period)) s) := rfl

theorem exec_onPhaseExpiry (s : State) : exec .onPhaseExpiry s = .next (event onPhaseExpiry s) := rfl

theorem exec_onPhaseStart (s : State) : exec .onPhaseStart s = .next (event onPhaseStart s) := rfl

/-! ### SET FLASH PERIOD -/

/-- The part with another flash period set. -/
def State.withPeriod (s : State) (n : Nat) : State := { s with conf := { s.conf with period := n } }

theorem setFlashPeriodBody_outOfRange {period : Byte} (hp : period.toNat < 40 ∨ 200 < period.toNat) (s : State) :
    setFlashPeriodBody period s = (s, refuse .badValue) := if_pos hp

theorem setFlashPeriodBody_inRange {period : Byte} (h40 : 40 ≤ period.toNat) (h200 : period.toNat ≤ 200) (s : State) :
    setFlashPeriodBody period s =
      (s.withPeriod period.toNat, taken (flashItems (s.withPeriod period.toNat))) :=
  if_neg (not_or.2 ⟨Nat.not_lt.2 h40, Nat.not_lt.2 h200⟩)

theorem flashItems_length (s : State) : (flashItems s).length = 8 := by
  unfold flashItems
  split <;> rfl

theorem numByte_toNat (b : Byte) : numByte b.toNat = b := ofNat_of_toNat rfl

theorem flashItems_stopped {s : State} (hf : s.drive.flash = none) (period : Byte) :
    flashItems (s.withPeriod period.toNat) = period :: 0x00#8 :: List.replicate 6 0xFF#8 := by
  simp only [flashItems, State.withPeriod, hf, numByte_toNat]
  rfl

theorem flashItems_running {s : State} {cy : Cycle} (hf : s.drive.flash = some cy) (period : Byte) :
    flashItems (s.withPeriod period.toNat) = period ::
      [0x01#8, flagByte (decide (cy.phase = .on)), flagByte (decide (cy.rate = .fast))] ++
        twoBytes cy.onLen ++ twoBytes cy.offLen := by
  simp only [flashItems, State.withPeriod, hf, numByte_toNat, numWord_eq_twoBytes]
  rfl

/-! ### The expiry of a phase -/

/-- The part with the Flash Generator in a cycle. -/
def State.withFlash (s : State) (cy : Cycle) : State := { s with drive := { s.drive with flash := some cy } }

section
variable {s : State} {cy : Cycle}

theorem onPhaseExpiry_due (hf : s.drive.flash = some cy) (ht : cy.timer ≤ 1) (hp : cy.phase = .on) :
    onPhaseExpiry s = s.withFlash { cy with phase := .off, timer := cy.offLen } := by
  simp only [onPhaseExpiry, hf]
  exact if_pos ⟨hp, ht⟩

theorem onPhaseStart_due (hf : s.drive.flash = some cy) (ht : cy.timer ≤ 1) (hp : cy.phase = .off) :
    onPhaseStart s = s.withFlash (newCycle s.env s.drive) := by
  simp only [onPhaseStart, hf]
  exact if_pos ⟨hp, ht⟩

end

/-- Settles O49: the period by its range, a phase's expiry by the phase, the new cycle's rate by the outage set. -/
theorem flashPeriodAndPhases : Obligations.FlashPeriodAndPhases := by
  intro h period s withFlash
  refine ⟨fun a hw => ⟨fun hp => ?refused, fun h40 h200 => ?taken⟩,
    fun hrun cy hf ht => ⟨fun hp => ?ends, fun hp => ⟨fun hno => ?normal, fun hout => ?fast⟩⟩⟩
  case refused => exact congrArg Host.Outcome.next (a.unlessStoring_refuses hw (setFlashPeriodBody_outOfRange hp s))
  case taken =>
    have hitems := flashItems_length (s.withPeriod period.toNat)
    rw [exec_setFlashPeriod, a.unlessStoring_takes hw (by omega) (setFlashPeriodBody_inRange h40 h200 s)]
    cases hf : s.drive.flash with
    | none => rw [flashItems_stopped hf, State.withPeriod]
    | some cy =>
      rw [flashItems_running hf, State.withPeriod]
      obtain ⟨phase, timer, rate, onLen, offLen⟩ := cy
      cases phase <;> cases rate <;> rfl
  case ends => rw [exec_onPhaseExpiry, event_running hrun, onPhaseExpiry_due hf ht hp]; rfl
  case normal =>
    rw [exec_onPhaseStart, event_running hrun, onPhaseStart_due hf ht hp, newCycle_normal fun c hc => ?_]
    · rfl
    · obtain ⟨hflash, hwatch, hopen⟩ := Drive.mem_outages.1 hc
      obtain ⟨hdriven, happlied⟩ := Channel.flashes_iff.1 hflash
      exact hno ⟨c, hdriven, happlied, hwatch, hopen⟩
  case fast =>
    obtain ⟨c, hdriven, happlied, hwatch, hopen⟩ := hout
    have hc : c ∈ s.drive.outages s.env :=
      Drive.mem_outages.2 ⟨Channel.flashes_iff.2 ⟨hdriven, happlied⟩, hwatch, hopen⟩
    rw [exec_onPhaseStart, event_running hrun, onPhaseStart_due hf ht hp, newCycle_fast hc]
    rfl

end Sys2Proof.Machine
end

section
/-!
PROOFS. CHECK OUTPUTS, the ends of its steps, and CHECK RESULTS (R140 to R142, R144, R158).
-/

namespace Sys2Proof.Machine

theorem exec_checkOutputs (h : Header) (selection : Word16) (s : State) :
    exec (.checkOutputs h selection) s = .next (request .checkOutputs h (checkOutputsBody selection) s) := rfl

theorem exec_unbiasedStepEnd (sense : Nat) (s : State) :
    exec (.unbiasedStepEnd sense) s = .next (event (unbiasedStepEnd sense) s) := rfl

theorem exec_biasedStepEnd (sense : Nat) (s : State) :
    exec (.biasedStepEnd sense) s = .next (event (biasedStepEnd sense) s) := rfl

theorem exec_checkResults (h : Header) (s : State) :
    exec (.checkResults h) s = .next (reading .checkResults h resultsAnswer s) := rfl

/-! ### A visit (R141, R142) -/

/-- The lowest undriven member from the start on is under test; with none the run ends. -/
theorem Drive.visitFrom_visits (d : Drive) (selection : ChSet) (start : Nat) :
    d.VisitsFrom (d.visitFrom selection start) selection start := by
  have hmember (c : Ch) : (decide (start ≤ c.val) && selection.getLsbD c.val && !d.chans[c].state.driven) = true ↔
      start ≤ c.val ∧ selection.getLsbD c.val = true ∧ d.chans[c].state.driven = false := by
    simp only [Bool.and_eq_true, decide_eq_true_eq, Bool.not_eq_true', and_assoc]
  refine ⟨fun c hstart hsel hun hbelow => ?found, fun hall => ?none⟩
  case found =>
    have hfind : allChans.find? (fun c => decide (start ≤ c.val) && selection.getLsbD c.val &&
        !d.chans[c].state.driven) = some c := by
      rw [allChans_eq, List.find?_eq_some_iff_getElem]
      refine ⟨(hmember c).2 ⟨hstart, hsel, hun⟩, c.val, by simp, by simp, fun j hj => ?_⟩
      rw [Bool.not_eq_true', Bool.eq_false_iff, List.getElem_finRange]
      intro hp
      obtain ⟨hj1, hj2, hj3⟩ := (hmember _).1 hp
      exact absurd (hj3.symm.trans (hbelow _ hj1 hj hj2)) (by decide)
    simp only [Drive.visitFrom, hfind]
  case none =>
    have hfind : allChans.find? (fun c => decide (start ≤ c.val) && selection.getLsbD c.val &&
        !d.chans[c].state.driven) = none := by
      rw [List.find?_eq_none]
      intro c _ hp
      obtain ⟨hc1, hc2, hc3⟩ := (hmember c).1 hp
      exact absurd (hc3.symm.trans (hall c hc1 hc2)) (by decide)
    simp only [Drive.visitFrom, hfind]
    rfl

/-! ### CHECK OUTPUTS (R140) -/

/-- The drive side with a run begun and no member visited yet. -/
def Drive.checkBegun (d : Drive) (selection : ChSet) : Drive :=
  { d with check := { run := none, results := Vector.replicate 16 .notTested, untested := setSize selection } }

section
variable {selection : Word16} {s : State}

theorem checkOutputsBody_empty (h0 : selection = 0#16) : checkOutputsBody selection s = (s, refuse .badValue) := if_pos h0

theorem checkOutputsBody_busy (h0 : selection ≠ 0#16) (hr : s.drive.check.run.isSome = true) :
    checkOutputsBody selection s = (s, refuse .busy) := by
  rw [checkOutputsBody, if_neg h0, if_pos hr]

theorem checkOutputsBody_taken (h0 : selection ≠ 0#16) (hr : s.drive.check.run = none) :
    checkOutputsBody selection s =
      ({ s with drive := (s.drive.checkBegun selection).visitFrom selection 0 },
        taken [runCode ((s.drive.checkBegun selection).visitFrom selection 0).check,
          numByte ((s.drive.checkBegun selection).visitFrom selection 0).check.untested]) := by
  rw [checkOutputsBody, if_neg h0, if_neg (by simp [hr])]
  rfl

theorem Drive.visitFrom_untested (d : Drive) (selection : ChSet) (start : Nat) :
    (d.visitFrom selection start).check.untested = d.check.untested := by
  unfold Drive.visitFrom
  split <;> rfl

theorem setSize_eq_card (x : ChSet) :
    setSize x = (Finset.univ.filter (fun c : Ch => x.getLsbD c.val = true)).card := countP_allChans _

/-! ### The ends of the steps (R141) -/

variable {r : Run} {sense : Nat}

theorem unbiasedStepEnd_early (hr : s.drive.check.run = some r) (h : r.test.step ≠ .unbiased ∨ r.test.timer ≠ 0) :
    unbiasedStepEnd sense s = s := by
  simp only [unbiasedStepEnd, hr]
  exact if_neg fun ⟨hstep, htimer⟩ => h.elim (· hstep) (· htimer)

theorem biasedStepEnd_early (hr : s.drive.check.run = some r) (h : r.test.step ≠ .biased ∨ r.test.timer ≠ 0) :
    biasedStepEnd sense s = s := by
  simp only [biasedStepEnd, hr]
  exact if_neg fun ⟨hstep, htimer⟩ => h.elim (· hstep) (· htimer)

theorem unbiasedStepEnd_due (hr : s.drive.check.run = some r) (hstep : r.test.step = .unbiased)
    (htimer : r.test.timer = 0) :
    unbiasedStepEnd sense s =
      if s.supply.vsense < 2 * min 600 sense then { s with drive := s.drive.endTest r .shortToSupply }
      else { s with drive := { s.drive with check := { s.drive.check with
        run := some ⟨r.selection, ⟨r.test.ch, .biased, 3⟩⟩ } } } := by
  simp only [unbiasedStepEnd, hr]
  rw [if_pos ⟨hstep, htimer⟩]
  rfl

theorem biasedStepEnd_due (hr : s.drive.check.run = some r) (hstep : r.test.step = .biased)
    (htimer : r.test.timer = 0) :
    biasedStepEnd sense s =
      { s with drive := s.drive.endTest r (if 7 * s.supply.vsense < 10 * min 600 sense then .openLoad else .ok) } := by
  simp only [biasedStepEnd, hr]
  rw [if_pos ⟨hstep, htimer⟩]
  rfl

theorem Drive.endTest_visits (d : Drive) (r : Run) (result : CheckResult) :
    Drive.VisitsFrom { d with check := { d.check with
        results := d.check.results.set r.test.ch result, untested := d.check.untested - 1 } }
      (d.endTest r result) r.selection (r.test.ch.val + 1) :=
  Drive.visitFrom_visits _ r.selection (r.test.ch.val + 1)

end

/-! ### CHECK RESULTS (R144, R158) -/

/-- Bytes 4 to 7 of CHECK RESULTS: four results a byte (R158). -/
def Check.resultBytes (x : Check) : List Byte := [resultByte x 0, resultByte x 1, resultByte x 2, resultByte x 3]

theorem resultsAnswer_eq (s : State) :
    resultsAnswer s = taken (s.drive.check.resultBytes ++
      [BitVec.ofNat 8 s.drive.check.untested, yesShown s.drive.check.run.isSome]) := rfl

/-- Four fields of two bits, the first in the high bits. -/
theorem packed_field (bits : Fin 4 → Fin 4) (j : Fin 4) :
    ((BitVec.ofNat 8 (64 * (bits 0).val + 16 * (bits 1).val + 4 * (bits 2).val + (bits 3).val)).extractLsb'
      (6 - 2 * j.val) 2).toNat = (bits j).val := by
  have hfields : ∀ a b c d : Fin 4, ∀ j : Fin 4,
      ((BitVec.ofNat 8 (64 * a.val + 16 * b.val + 4 * c.val + d.val)).extractLsb' (6 - 2 * j.val) 2).toNat =
        ([a, b, c, d][j.val]'j.isLt).val := by decide
  rw [hfields]
  fin_cases j <;> rfl

theorem checkBits_lt (x : CheckResult) : checkBits x < 4 := by
  cases x <;> decide

theorem resultByte_field (x : Check) (i j : Fin 4) :
    ((resultByte x i).extractLsb' (6 - 2 * j.val) 2).toNat = checkBits x.results[4 * i.val + j.val] :=
  packed_field (fun j => ⟨checkBits x.results[4 * i.val + j.val], checkBits_lt _⟩) j

theorem Check.resultBytes_field (x : Check) (c : Ch) :
    ((byteAt x.resultBytes (c.val / 4)).extractLsb' (6 - 2 * (c.val % 4)) 2).toNat = checkBits x.results[c] := by
  have hbyte (i : Fin 4) : byteAt x.resultBytes i.val = resultByte x i := by fin_cases i <;> rfl
  have hfield := resultByte_field x ⟨c.val / 4, by omega⟩ ⟨c.val % 4, by omega⟩
  rw [← hbyte] at hfield
  refine hfield.trans (congrArg checkBits ?_)
  congr 1
  exact Nat.div_add_mod c.val 4

/-- Settles O54, by the request or the step that ends. -/
theorem outputCheckSteps : Obligations.OutputCheckSteps := by
  intro h selection sense s
  refine ⟨fun a => ⟨fun h0 => ?empty, fun h0 hr => ?busy, fun h0 hr => ?taken⟩,
    fun hrun r hr => ⟨fun he => ?early, fun he => ?earlyBiased⟩, fun hrun r hr htimer => ⟨fun hstep => ⟨fun hv => ?short,
      fun hv => ?biased⟩, fun hstep => ⟨fun hv => ?openLoad, fun hv => ?ok⟩⟩,
    fun a => ⟨s.drive.check.resultBytes, rfl, ?results, fun c => ?bits⟩⟩
  case empty => exact congrArg Host.Outcome.next (a.refuses (checkOutputsBody_empty h0))
  case busy => exact congrArg Host.Outcome.next (a.refuses (checkOutputsBody_busy h0 hr))
  case taken =>
    refine ⟨_, congrArg Host.Outcome.next (a.takes (by simp) (checkOutputsBody_taken h0 hr)), ?_, ?_⟩
    · rw [Drive.visitFrom_untested, Drive.checkBegun, setSize_eq_card]
      rfl
    · have hvisit := (s.drive.checkBegun selection).visitFrom_visits selection 0
      have hbegun : s.drive.checkBegun selection = { s.drive with check := ⟨none, Vector.replicate 16 .notTested,
          (Finset.univ.filter (fun c : Ch => selection.getLsbD c.val = true)).card⟩ } := by
        rw [Drive.checkBegun, setSize_eq_card]
      exact hbegun ▸ hvisit
  case early => rw [exec_unbiasedStepEnd, event_running hrun, unbiasedStepEnd_early hr he]
  case earlyBiased => rw [exec_biasedStepEnd, event_running hrun, biasedStepEnd_early hr he]
  case short =>
    refine ⟨{ s with drive := s.drive.endTest r .shortToSupply }, ?_, rfl, s.drive.endTest_visits r .shortToSupply⟩
    rw [exec_unbiasedStepEnd, event_running hrun, unbiasedStepEnd_due hr hstep htimer, if_pos hv]
  case biased =>
    rw [exec_unbiasedStepEnd, event_running hrun, unbiasedStepEnd_due hr hstep htimer, if_neg (Nat.not_lt.2 hv)]
  case openLoad =>
    refine ⟨{ s with drive := s.drive.endTest r .openLoad }, ?_, rfl, s.drive.endTest_visits r .openLoad⟩
    rw [exec_biasedStepEnd, event_running hrun, biasedStepEnd_due hr hstep htimer, if_pos hv]
  case ok =>
    refine ⟨{ s with drive := s.drive.endTest r .ok }, ?_, rfl, s.drive.endTest_visits r .ok⟩
    rw [exec_biasedStepEnd, event_running hrun, biasedStepEnd_due hr hstep htimer, if_neg (Nat.not_lt.2 hv)]
  case results => rw [exec_checkResults, reading_takes a rfl (by simp [Check.resultBytes]) (resultsAnswer_eq s)]
  case bits =>
    rw [Check.resultBytes_field]
    cases s.drive.check.results[c] <;> rfl

end Sys2Proof.Machine
end

section
/-!
PROOFS. The clock: with no command waiting a step is one millisecond, and the events due in it are what the queue then
holds (log entries 1, 2, 28).
-/

namespace Sys2Proof.Machine

/-! ### The events due -/

section
variable {s : State} {i : Instr}

theorem mem_flashDue {d : Drive} : i ∈ flashDue d ↔ ∃ cy, d.flash = some cy ∧ cy.timer ≤ 1 ∧
    ((cy.phase = .on ∧ i = .onPhaseExpiry) ∨ (cy.phase = .off ∧ i = .onPhaseStart)) := by
  unfold flashDue
  cases hf : d.flash with
  | none => simp
  | some cy =>
    by_cases ht : cy.timer ≤ 1
    · cases hp : cy.phase <;> simp [ht, hp]
    · simp [ht]

theorem mem_recordDue {y : Handle} : i ∈ recordDue s y ↔
    (∃ d ms, s.records[y] = .live d (some ms) ∧ ms ≤ 1 ∧ i = .holdExpiry y) ∨
      ∃ d ms, s.records[y] = .lapsed d ms ∧ ms ≤ 1 ∧ i = .graceExpiry y := by
  unfold recordDue
  cases hr : s.records[y] with
  | free => simp
  | lapsed d ms => by_cases ht : ms ≤ 1 <;> simp [ht]
  | live d time =>
    cases time with
    | none => simp
    | some ms => by_cases ht : ms ≤ 1 <;> simp [ht]

theorem expires_iff {timer : Option Nat} : expires timer = true ↔ ∃ ms, timer = some ms ∧ ms ≤ 1 := by
  cases timer <;> simp [expires]

theorem mem_ite_singleton {p : Prop} [Decidable p] {x : Instr} : i ∈ (if p then [x] else []) ↔ p ∧ i = x := by
  split <;> simp_all

theorem mem_channelDue {c : Ch} : i ∈ channelDue s c ↔
    (expires s.drive.chans[c].inrushTimer = true ∧ i = .inrushTimerExpiry c) ∨
    (expires s.drive.chans[c].retryTimer = true ∧ i = .retryTimerExpiry c) ∨
    (expires s.drive.chans[c].cleanTimer = true ∧ i = .cleanRunExpiry c) := by
  simp only [channelDue, List.mem_append, mem_ite_singleton, or_assoc]

theorem State.mem_due : i ∈ s.due ↔
    i ∈ flashDue s.drive ∨ (∃ p : PairNo, expires s.drive.pairs[p].dead = true ∧ i = .deadTimeExpiry p) ∨
    (∃ c, i ∈ channelDue s c) ∨ (∃ y, i ∈ recordDue s y) ∨ (s.pwmLeft ≤ 1 ∧ i = .pwmPeriodStart) := by
  have hhandle (y : Handle) : y ∈ allHandles := List.mem_finRange y
  simp only [State.due, List.mem_append, List.mem_flatMap, mem_allPairs, mem_allChans, hhandle, true_and,
    mem_ite_singleton, or_assoc]

theorem State.holdExpiry_due (y : Handle) :
    Instr.holdExpiry y ∈ s.due ↔ ∃ d ms, s.records[y] = .live d (some ms) ∧ ms ≤ 1 := by
  simp [State.mem_due, mem_flashDue, mem_channelDue, mem_recordDue]

theorem State.graceExpiry_due (y : Handle) :
    Instr.graceExpiry y ∈ s.due ↔ ∃ d ms, s.records[y] = .lapsed d ms ∧ ms ≤ 1 := by
  simp [State.mem_due, mem_flashDue, mem_channelDue, mem_recordDue]

theorem State.channelTimers_due (c : Ch) :
    (Instr.inrushTimerExpiry c ∈ s.due ↔ ∃ ms, s.drive.chans[c].inrushTimer = some ms ∧ ms ≤ 1) ∧
    (Instr.retryTimerExpiry c ∈ s.due ↔ ∃ ms, s.drive.chans[c].retryTimer = some ms ∧ ms ≤ 1) ∧
    (Instr.cleanRunExpiry c ∈ s.due ↔ ∃ ms, s.drive.chans[c].cleanTimer = some ms ∧ ms ≤ 1) := by
  simp [State.mem_due, mem_flashDue, mem_channelDue, mem_recordDue, expires_iff]

theorem State.deadTime_due (p : PairNo) :
    Instr.deadTimeExpiry p ∈ s.due ↔ ∃ ms, s.drive.pairs[p].dead = some ms ∧ ms ≤ 1 := by
  simp [State.mem_due, mem_flashDue, mem_channelDue, mem_recordDue, expires_iff]

theorem State.onPhaseExpiry_due :
    Instr.onPhaseExpiry ∈ s.due ↔ ∃ cy, s.drive.flash = some cy ∧ cy.timer ≤ 1 ∧ cy.phase = .on := by
  simp [State.mem_due, mem_flashDue, mem_channelDue, mem_recordDue]

theorem State.onPhaseStart_due :
    Instr.onPhaseStart ∈ s.due ↔ ∃ cy, s.drive.flash = some cy ∧ cy.timer ≤ 1 ∧ cy.phase = .off := by
  simp [State.mem_due, mem_flashDue, mem_channelDue, mem_recordDue]

theorem State.pwmPeriodStart_due : Instr.pwmPeriodStart ∈ s.due ↔ s.pwmLeft ≤ 1 := by
  simp [State.mem_due, mem_flashDue, mem_channelDue, mem_recordDue]

/-- Every event due is the expiry of a timer. -/
theorem State.due_kinds (h : i ∈ s.due) : (∃ y, i = .holdExpiry y ∨ i = .graceExpiry y) ∨
    (∃ c, i = .inrushTimerExpiry c ∨ i = .retryTimerExpiry c ∨ i = .cleanRunExpiry c) ∨
    (∃ p, i = .deadTimeExpiry p) ∨ i = .onPhaseExpiry ∨ i = .onPhaseStart ∨ i = .pwmPeriodStart := by
  rw [State.mem_due] at h
  rcases h with h | ⟨p, _, rfl⟩ | ⟨c, h⟩ | ⟨y, h⟩ | ⟨_, rfl⟩
  · obtain ⟨_, _, _, ⟨_, rfl⟩ | ⟨_, rfl⟩⟩ := mem_flashDue.1 h <;> simp
  · simp
  · rcases mem_channelDue.1 h with ⟨_, rfl⟩ | ⟨_, rfl⟩ | ⟨_, rfl⟩ <;> simp
  · rcases mem_recordDue.1 h with ⟨_, _, _, _, rfl⟩ | ⟨_, _, _, _, rfl⟩ <;> simp
  · simp

/-! ### One millisecond -/

/-- The part one millisecond later, out of reset. -/
theorem State.tick_running (hs : s.inReset = false) : s.tick =
    { s with
      pending := s.pending ++ s.due, now := s.now + 1
      records := Vector.ofFn (fun y : Handle => s.records[y].tick), drive := s.drive.tick
      pwmLeft := countDown s.pwmLeft } :=
  if_neg (by simp [hs])

theorem step_idle (hp : s.pending = []) : step s = .next s.tick := by
  simp only [step, hp]

theorem State.tick_record (hs : s.inReset = false) (y : Handle) : s.tick.records[y] = s.records[y].tick := by
  rw [State.tick_running hs]
  exact Vector.getElem_ofFn _

theorem Drive.tick_chan (d : Drive) (c : Ch) : d.tick.chans[c] = d.chans[c].tick := Vector.getElem_ofFn _

theorem Drive.tick_pair (d : Drive) (p : PairNo) :
    d.tick.pairs[p] = { d.pairs[p] with dead := d.pairs[p].dead.map countDown } := Vector.getElem_ofFn _

theorem countDown_eq (ms : Nat) : countDown ms = if ms ≤ 1 then ms else ms - 1 := rfl

end

/-- Settles O3, timer by timer, each with the event that is due with it. -/
theorem idleStepCountsTimersDown : Obligations.IdleStepCountsTimersDown := by
  intro s hp hs due less
  have hless : countDown = less := funext countDown_eq
  have hpending : s.tick.pending = s.due := by rw [State.tick_running hs, hp]; rfl
  have hdrive : s.tick.drive = s.drive.tick := by rw [State.tick_running hs]
  refine ⟨s.tick, step_idle hp, by rw [State.tick_running hs], ?_⟩
  rw [hpending, hdrive]
  refine ⟨fun y d ms hr => ?hold, fun y d ms hr => ?grace, fun y hr => ?still, rfl, fun c => ⟨?chan, s.channelTimers_due c⟩,
    fun p => ⟨?pair, s.deadTime_due p⟩, ?flash, s.onPhaseExpiry_due, s.onPhaseStart_due, rfl, ?pwm, s.pwmPeriodStart_due,
    fun i hi => State.due_kinds hi⟩
  case hold =>
    rw [State.tick_record hs, State.holdExpiry_due, hr]
    split
    case isTrue ht => simp [Record.tick, countDown, ht]
    case isFalse ht => simp [Record.tick, countDown, ht]
  case grace =>
    rw [State.tick_record hs, State.graceExpiry_due, hr]
    split
    case isTrue ht => simp [Record.tick, countDown, ht]
    case isFalse ht => simp [Record.tick, countDown, ht]
  case still =>
    rw [State.tick_record hs, State.holdExpiry_due, State.graceExpiry_due]
    rcases hr with hr | ⟨d, hr⟩ <;> simp [hr, Record.tick]
  case chan => rw [Drive.tick_chan, ← hless]; rfl
  case pair => rw [Drive.tick_pair, ← hless]
  case flash => rw [← hless]; rfl
  case pwm => rw [State.tick_running hs]; rfl

end Sys2Proof.Machine
end

section
/-!
PROOFS. The switch-on path (R56), and the requests and events that begin it: UNLOCK and CLEAR FAULT (R71, R73).
-/

namespace Sys2Proof.Machine

section
variable {d : Drive} {e : Env} {c : Ch} {p : PairNo} {side : Holder}

/-! ### The tests (R56) -/

theorem Env.hot_iff : e.hot c = true ↔ 64 * e.conf.channels[c].iRate ^ 2 < e.monitors[c].heat := by
  refine decide_eq_true_iff.trans ?_
  rw [tCool, Env.cfg, pow_two, Nat.mul_comm 64]

theorem Env.hot_eq (e : Env) (c : Ch) :
    e.hot c = decide (64 * e.conf.channels[c].iRate ^ 2 < e.monitors[c].heat) :=
  Bool.eq_iff_iff.2 (Env.hot_iff.trans decide_eq_true_iff.symm)

theorem Drive.switchOn_cools (hc : d.chans[c].cooling = true) (hh : e.hot c = true) :
    d.switchOn e c = (d.modChan c (fun x => { x with state := .waiting .cooling }), false) := if_pos ⟨hc, hh⟩

theorem Drive.switchOn_goesOn (h : ¬ (d.chans[c].cooling = true ∧ e.hot c = true)) :
    d.switchOn e c = d.interlockTest e c := if_neg h

theorem Drive.interlockTest_unpaired (hp : e.pairOf c = none) : d.interlockTest e c = (d.joinFresh e c, true) := by
  simp only [Drive.interlockTest, hp]

theorem Drive.interlockTest_holds (hp : e.pairOf c = some p)
    (hh : d.pairs[p].holder = e.sideOf p c ∨ (d.pairs[p].holder = .none ∧ d.pairs[p].dead = none)) :
    d.interlockTest e c = ((d.modPair p (fun x => { x with holder := e.sideOf p c })).joinFresh e c, true) := by
  simp only [Drive.interlockTest, hp]
  exact if_pos hh

theorem Drive.interlockTest_waits (hp : e.pairOf c = some p)
    (hh : ¬ (d.pairs[p].holder = e.sideOf p c ∨ (d.pairs[p].holder = .none ∧ d.pairs[p].dead = none))) :
    d.interlockTest e c = (d.modChan c (fun x => { x with state := .waiting (.interlock e.now) }), false) := by
  simp only [Drive.interlockTest, hp]
  exact if_neg hh

/-- The member that stands on a side of an enabled pair is on that side. -/
theorem Env.pairOf_side (hw : PairsWellFormed e.conf.pairs) (hp : e.conf.pairs[p].enabled = true)
    (hside : (e.conf.pairs[p].a = c ∧ side = .a) ∨ (e.conf.pairs[p].b = c ∧ side = .b)) :
    e.pairOf c = some p ∧ e.sideOf p c = side := by
  rcases hside with ⟨hc, rfl⟩ | ⟨hc, rfl⟩
  · exact ⟨Env.pairOf_eq_some hw hp (.inl hc), Env.sideOf_a hc⟩
  · exact ⟨Env.pairOf_eq_some hw hp (.inr hc), Env.sideOf_b hc (hw.1 p hp)⟩

/-- A channel that asks its feed stands in its queue behind the entries of its class or a higher one; the other feeds
are kept. -/
theorem Drive.joinFresh_queue (d : Drive) (e : Env) (c : Ch) :
    (∀ g : Fin 3, g ≠ e.feedOf c → (d.joinFresh e c).feeds[g] = d.feeds[g]) ∧
    (d.joinFresh e c).feeds[e.feedOf c] =
      { d.feeds[e.feedOf c] with queue := (d.joinFresh e c).feeds[e.feedOf c].queue } ∧
    JoinedInClass (fun y => d.chans[y].rank) ⟨c, .fresh⟩ d.feeds[e.feedOf c].queue
      (d.joinFresh e c).feeds[e.feedOf c].queue := by
  refine ⟨fun g hg => ?_, ?_, ?_⟩
  · rw [Drive.joinFresh_feed_at, if_neg hg]
  · rw [Drive.joinFresh_feed_at, if_pos rfl]
  · rw [Drive.joinFresh_feed_at, if_pos rfl]
    exact joinedInClass _ _ _

end

/-- Settles O31, test by test. -/
theorem switchOnPathTests : Obligations.SwitchOnPathTests := by
  intro d e c hw x hot standing asks
  refine ⟨fun hcooling hhot => Drive.switchOn_cools hcooling (Env.hot_iff.2 hhot), fun hcool => ?_⟩
  have hgo : d.switchOn e c = d.interlockTest e c :=
    Drive.switchOn_goesOn fun ⟨h1, h2⟩ => hcool.elim (fun h => absurd (h1.symm.trans h) (by decide))
      (fun h => h (Env.hot_iff.1 h2))
  refine ⟨fun hfree => ?unpaired, fun p side hp hside => ⟨fun hh => ?holds, fun hother hdead => ?waits⟩⟩
  case unpaired =>
    rw [hgo, Drive.interlockTest_unpaired (Env.pairOf_eq_none.2 hfree)]
    exact ⟨rfl, rfl, d.joinFresh_queue e c⟩
  case holds =>
    obtain ⟨hpair, hs⟩ := Env.pairOf_side hw hp hside
    rw [hgo, Drive.interlockTest_holds hpair (by rwa [hs]), hs]
    exact ⟨rfl, rfl, (d.modPair p _).joinFresh_queue e c⟩
  case waits =>
    obtain ⟨hpair, hs⟩ := Env.pairOf_side hw hp hside
    have hnot : ¬ (d.pairs[p].holder = e.sideOf p c ∨ (d.pairs[p].holder = .none ∧ d.pairs[p].dead = none)) := by
      rw [hs]
      exact fun h => h.elim hother fun ⟨hnone, hno⟩ => hdead hnone hno
    rw [hgo, Drive.interlockTest_waits hpair hnot]
    rfl

/-! ### UNLOCK and CLEAR FAULT (R71, R73) -/

theorem exec_unlock (h : Header) (channel : Byte) (s : State) :
    exec (.unlock h channel) s = .next (request .unlock h (unlockBody channel) s) := rfl

theorem exec_clearFault (h : Header) (channel : Byte) (s : State) :
    exec (.clearFault h channel) s = .next (request .clearFault h (clearFaultBody channel) s) := rfl

section
variable {s : State} {channel : Byte} {c : Ch}

theorem unlockBody_outOfRange (hc : 16 ≤ channel.toNat) : unlockBody channel s = (s, refuse .badValue) := by
  simp only [unlockBody, chOf, numOf_of_ge hc]

theorem unlockBody_wrongState (hc : channel.toNat = c.val)
    (h : s.conf.channels[c].configured = false ∨ s.drive.chans[c].state ≠ .disabled) :
    unlockBody channel s = (s, refuse .wrongState) := by
  simp only [unlockBody, chOf, numOf_of_lt c hc]
  split
  · rfl
  · exact if_pos (h.resolve_left ‹_›)

theorem unlockBody_takes (hc : channel.toNat = c.val) (hconf : s.conf.channels[c].configured = true)
    (hstate : s.drive.chans[c].state = .disabled) :
    unlockBody channel s =
      (s.onChannel Drive.unlock c, taken [stateByte (s.onChannel Drive.unlock c).drive.chans[c].state]) := by
  simp only [unlockBody, chOf, numOf_of_lt c hc]
  rw [if_neg (ne_false_of_eq_true hconf), if_neg (not_not.2 hstate)]

theorem clearFaultBody_outOfRange (hc : 16 ≤ channel.toNat) : clearFaultBody channel s = (s, refuse .badValue) := by
  simp only [clearFaultBody, chOf, numOf_of_ge hc]

theorem clearFaultBody_wrongState (hc : channel.toNat = c.val) (h : s.drive.chans[c].state.faulted = false) :
    clearFaultBody channel s = (s, refuse .wrongState) := by
  simp only [clearFaultBody, chOf, numOf_of_lt c hc]
  exact if_pos h

theorem clearFaultBody_takes (hc : channel.toNat = c.val) (h : s.drive.chans[c].state.faulted = true) :
    clearFaultBody channel s =
      (s.onChannel Drive.clearFault c, taken [stateByte (s.onChannel Drive.clearFault c).drive.chans[c].state]) := by
  simp only [clearFaultBody, chOf, numOf_of_lt c hc]
  exact if_neg (ne_false_of_eq_true h)

/-- The unlocked channel in OFF, before it enters the switch-on path. -/
def Drive.unlocked (d : Drive) (c : Ch) : Drive :=
  d.modChan c (fun x => { x with state := .off, retries := 0, lastFault := none })

theorem Drive.unlock_eq (d : Drive) (e : Env) (c : Ch) :
    d.unlock e c = if d.chans[c].wanted = .off then d.unlocked c
      else Drive.passIf e c ((d.unlocked c).switchOn e c) := by
  have hwanted : (d.unlocked c).chans[c].wanted = d.chans[c].wanted := by
    rw [Drive.unlocked, Drive.modChan_at, if_pos rfl]
  rw [← hwanted]
  rfl

theorem Channel.coolingOnLeave_faulted {x : Channel} (h : x.state.faulted = true) (hot : Bool) :
    x.coolingOnLeave hot = (x.cooling || hot) := by
  rw [Channel.coolingOnLeave, h, Bool.true_and]

/-- CLEAR FAULT of a channel that is TRIPPED or LATCHED. -/
theorem Drive.clearFault_eq {d : Drive} (h : d.chans[c].state.faulted = true) (e : Env) :
    d.clearFault e c = Drive.passIf e c (Drive.switchOn { d with chans := d.chans.set c { d.chans[c] with
      retries := 0, lastFault := none, retryTimer := none,
      cooling := d.chans[c].cooling || decide (64 * e.conf.channels[c].iRate ^ 2 < e.monitors[c].heat) } } e c) := by
  rw [← Env.hot_eq, ← Channel.coolingOnLeave_faulted h]
  rfl

end

/-- Settles O30: the checks in order, then the two effects. -/
theorem unlockAndClearFault : Obligations.UnlockAndClearFault := by
  intro h channel s a refusedUnlock refusedClear
  refine ⟨fun hc => ⟨congrArg Host.Outcome.next (a.refuses (unlockBody_outOfRange hc)),
    congrArg Host.Outcome.next (a.refuses (clearFaultBody_outOfRange hc))⟩, fun c hc => ?_⟩
  intro x goesOn
  refine ⟨fun hno => congrArg Host.Outcome.next (a.refuses (unlockBody_wrongState hc hno)),
    fun hconf hstate => ⟨_, congrArg Host.Outcome.next (a.takes (by simp) (unlockBody_takes hc hconf hstate)), rfl,
      fun hoff => ?off, fun hon => ?on⟩,
    fun hnt hnl => congrArg Host.Outcome.next (a.refuses (clearFaultBody_wrongState hc ?notFaulted)),
    fun hfault => ⟨_, congrArg Host.Outcome.next (a.takes (by simp) (clearFaultBody_takes hc ?faulted)), rfl, ?cleared⟩⟩
  case off => exact (Drive.unlock_eq s.drive s.env c).trans (if_pos hoff)
  case on => exact (Drive.unlock_eq s.drive s.env c).trans (if_neg hon)
  case notFaulted => rw [ChanState.faulted_eq]; exact decide_eq_false (not_or.2 ⟨hnt, hnl⟩)
  case faulted => rw [ChanState.faulted_eq]; exact decide_eq_true hfault
  case cleared =>
    refine Drive.clearFault_eq ?_ s.env
    rw [ChanState.faulted_eq]
    exact decide_eq_true hfault

end Sys2Proof.Machine
end

section
/-!
PROOFS. What an event that takes a channel off leaves behind (`Drive.SwitchedOff`), the release of its pair (R76), and
LOCK (R72).
-/

namespace Sys2Proof.Machine

section
variable {d d' d1 : Drive} {e : Env} {x : Configuration} {c : Ch} {y : Channel} {p : PairNo} {f : Fin 3}
  {before : Option Cycle}

/-! ### A vector that differs in one place -/

theorem vector_eq_set {α : Type} {n : Nat} {v w : Vector α n} {i : Fin n} {z : α}
    (h : ∀ j : Fin n, w[j] = if j = i then z else v[j]) : w = v.set i z := by
  apply Vector.ext
  intro j hj
  exact (h ⟨j, hj⟩).trans (vector_set_at v i ⟨j, hj⟩ z).symm

/-! ### The release of a pair (R76) -/

/-- The channel is the holder of the pair. -/
def Drive.Holds (d : Drive) (x : Configuration) (p : PairNo) (c : Ch) : Prop :=
  x.pairs[p].enabled = true ∧
    ((x.pairs[p].a = c ∧ d.pairs[p].holder = .a) ∨ (x.pairs[p].b = c ∧ d.pairs[p].holder = .b))

theorem Drive.holds_iff (hw : PairsWellFormed e.conf.pairs) :
    d.Holds e.conf p c ↔ e.pairOf c = some p ∧ d.pairs[p].holder = e.sideOf p c := by
  constructor
  · rintro ⟨hen, h⟩
    obtain ⟨hpair, hside⟩ := Env.pairOf_side (side := d.pairs[p].holder) hw hen h
    exact ⟨hpair, hside.symm⟩
  · rintro ⟨hpair, hold⟩
    obtain ⟨hen, hc | hc⟩ := Env.pairOf_member hpair
    · exact ⟨hen, .inl ⟨hc, hold.trans (Env.sideOf_a hc)⟩⟩
    · exact ⟨hen, .inr ⟨hc, hold.trans (Env.sideOf_b hc (hw.1 p hen))⟩⟩

theorem Drive.releasePair_held (hw : PairsWellFormed e.conf.pairs) (h : d.Holds e.conf p c) :
    (d.releasePair e c).pairs[p] = ⟨.none, some 50⟩ := by
  obtain ⟨hpair, hold⟩ := (Drive.holds_iff hw).1 h
  have hr : d.releasePair e c = d.modPair p (fun _ => ⟨.none, some deadTime⟩) := by
    simp only [Drive.releasePair, hpair]
    exact if_pos hold
  rw [hr, Drive.modPair_at, if_pos rfl]
  rfl

theorem Drive.releasePair_kept (hw : PairsWellFormed e.conf.pairs) (h : ¬ d.Holds e.conf p c) :
    (d.releasePair e c).pairs[p] = d.pairs[p] := by
  unfold Drive.releasePair
  split
  · rfl
  · rename_i q hq
    split
    · rename_i hold
      rw [Drive.modPair_at, if_neg]
      rintro rfl
      exact h ((Drive.holds_iff hw).2 ⟨hq, hold⟩)
    · rfl

/-! ### The Flash Generator after a channel goes off -/

/-- What the generator follows are its members and their open flags. -/
theorem Drive.FlashFollows.of_members (h : d.FlashFollows x before)
    (hch : ∀ c : Ch, d'.chans[c].state = d.chans[c].state ∧ d'.chans[c].applied = d.chans[c].applied ∧
      d'.chans[c].openFlag = d.chans[c].openFlag) (hf : d'.flash = d.flash) : d'.FlashFollows x before := by
  unfold Drive.FlashFollows at h ⊢
  have hstate (c : Ch) := (hch c).1
  have happlied (c : Ch) := (hch c).2.1
  have hopen (c : Ch) := (hch c).2.2
  simpa only [hstate, happlied, hopen, hf] using h

theorem Drive.FlashFollows.congr (h : d.FlashFollows x before) (hch : d'.chans = d.chans) (hf : d'.flash = d.flash) :
    d'.FlashFollows x before :=
  h.of_members (fun c => by rw [hch]; exact ⟨rfl, rfl, rfl⟩) hf

theorem Drive.undrive_follows (h : d.flash = before) (e : Env) (c : Ch) (target : ChanState) :
    (d.undrive e c target).FlashFollows e.conf before := by
  subst h
  exact Drive.syncFlash_follows _ e

/-! ### A channel that has gone off -/

/-- The feed without a channel. -/
def FeedState.without (z : FeedState) (c : Ch) (reservation : Nat) : FeedState :=
  { committed := z.committed - reservation
    queue := z.queue.filter (fun q => q.ch ≠ c)
    admitted := z.admitted.filter (fun y => y ≠ c) }

theorem FeedState.without_queue {z : FeedState} (ha : ∀ q ∈ z.queue, q.ch = c) (reservation : Nat) :
    (z.without c reservation).queue = [] :=
  List.filter_eq_nil_iff.2 fun q hq => by simp [ha q hq]

theorem Drive.SwitchedOff.of_parts
    (hchans : ∀ c' : Ch, d'.chans[c'] = if c' = c then y else d.chans[c'])
    (hfeeds : ∀ g : Fin 3, d'.feeds[g] =
      if g = e.feedOf c then d.feeds[e.feedOf c].without c d.chans[c].reservation else d.feeds[g])
    (hcheck : d'.check = d.check) (hflash : d'.FlashFollows e.conf d.flash) : d.SwitchedOff e.conf c y d' := by
  refine ⟨?_, hflash⟩
  have h1 := vector_eq_set hchans
  have h2 := vector_eq_set hfeeds
  obtain ⟨chans, pairs, feeds, flash, check, notice⟩ := d'
  dsimp only at h1 h2 hcheck ⊢
  rw [h1, h2, hcheck]
  rfl

theorem Drive.SwitchedOff.chan_at (h : d.SwitchedOff e.conf c y d') (c' : Ch) :
    d'.chans[c'] = if c' = c then y else d.chans[c'] := by
  rw [h.1]
  exact vector_set_at _ _ _ _

theorem Drive.SwitchedOff.feeds (h : d.SwitchedOff e.conf c y d') :
    d'.feeds = d.feeds.set (e.feedOf c) (d.feeds[e.feedOf c].without c d.chans[c].reservation) := by
  rw [h.1]
  rfl

theorem Drive.SwitchedOff.feed (h : d.SwitchedOff e.conf c y d') :
    d'.feeds[e.feedOf c] = d.feeds[e.feedOf c].without c d.chans[c].reservation := by
  rw [h.feeds]
  exact Vector.getElem_set_self _

/-- A pass on the feed that a channel has left does not touch the channel. -/
theorem Drive.SwitchedOff.pass_chan (h : d.SwitchedOff e.conf c y d') (e' : Env) :
    (d'.pass e' (e.feedOf c)).chans[c] = y := by
  rw [Drive.pass_chan_outside, h.chan_at, if_pos rfl]
  · rw [h.feed]
    intro q hq
    simpa using (List.mem_filter.1 hq).2
  · rw [h.feed]
    intro hc
    simpa using (List.mem_filter.1 hc).2

/-- A channel that leaves no other entry behind leaves an empty queue, on which a pass does nothing. -/
theorem Drive.SwitchedOff.pass_alone (h : d.SwitchedOff e.conf c y d')
    (ha : ∀ q ∈ d.feeds[e.feedOf c].queue, q.ch = c) (e' : Env) : d'.pass e' (e.feedOf c) = d' := by
  refine Drive.pass_empty ?_
  rw [h.feed]
  exact FeedState.without_queue ha _

end

/-! ### LOCK (R72) -/

theorem exec_lock (h : Header) (channel : Byte) (s : State) :
    exec (.lock h channel) s = .next (request .lock h (lockBody channel) s) := rfl

section
variable {s : State} {channel : Byte} {d : Drive} {e : Env} {c : Ch} {p : PairNo}

theorem lockBody_outOfRange (hc : 16 ≤ channel.toNat) : lockBody channel s = (s, refuse .badValue) := by
  simp only [lockBody, chOf, numOf_of_ge hc]

theorem lockBody_disabled (hc : channel.toNat = c.val) (hs : s.drive.chans[c].state = .disabled) :
    lockBody channel s = (s, taken []) := by
  simp only [lockBody, chOf, numOf_of_lt c hc]
  exact if_pos hs

theorem lockBody_locks (hc : channel.toNat = c.val) (hs : s.drive.chans[c].state ≠ .disabled) :
    lockBody channel s = (s.onChannel Drive.lock c, taken []) := by
  simp only [lockBody, chOf, numOf_of_lt c hc]
  exact if_neg hs

/-- A locked channel: off, its retries given up, marked hot where it leaves a fault above T_cool. -/
def Channel.locked (x : Channel) (hot : Prop) [Decidable hot] : Channel :=
  { x.stopped .disabled with
    retries := 0, retryTimer := none,
    cooling := x.cooling || decide ((x.state = .tripped ∨ x.state = .latched) ∧ hot) }

theorem Channel.coolingOnLeave_eq (x : Channel) (hot : Prop) [Decidable hot] :
    x.coolingOnLeave (decide hot) = (x.cooling || decide ((x.state = .tripped ∨ x.state = .latched) ∧ hot)) := by
  rw [Channel.coolingOnLeave, ChanState.faulted_eq, Bool.decide_and]

theorem Drive.lockOff_chan (d : Drive) (e : Env) (c c' : Ch) :
    (d.lockOff e c).chans[c'] =
      if c' = c then d.chans[c].locked (64 * e.conf.channels[c].iRate ^ 2 < e.monitors[c].heat) else d.chans[c'] := by
  rw [Drive.lockOff_chan_at, Env.hot_eq, Channel.coolingOnLeave_eq]
  rfl

theorem Drive.lockOff_feed_at (d : Drive) (e : Env) (c : Ch) (g : Fin 3) :
    (d.lockOff e c).feeds[g] =
      if g = e.feedOf c then d.feeds[e.feedOf c].without c d.chans[c].reservation else d.feeds[g] := by
  unfold Drive.lockOff
  rw [Drive.releasePair_feeds, Drive.undrive_feed_at, Drive.modChan_feeds, Drive.modChan_at, if_pos rfl]
  split
  · subst g; rfl
  · rfl

theorem Drive.lockOff_follows (d : Drive) (e : Env) (c : Ch) : (d.lockOff e c).FlashFollows e.conf d.flash := by
  unfold Drive.lockOff
  refine Drive.FlashFollows.congr ?_ (Drive.releasePair_chans ..) (Drive.releasePair_flash ..)
  exact Drive.undrive_follows (Drive.modChan_flash ..) e c .disabled

theorem Drive.lockOff_switchedOff (d : Drive) (e : Env) (c : Ch) :
    d.SwitchedOff e.conf c (d.chans[c].locked (64 * e.conf.channels[c].iRate ^ 2 < e.monitors[c].heat))
      (d.lockOff e c) :=
  .of_parts (d.lockOff_chan e c) (d.lockOff_feed_at e c)
    ((Drive.releasePair_check ..).trans (Drive.undrive_check ..)) (d.lockOff_follows e c)

theorem Drive.lockOff_notice (d : Drive) (e : Env) (c : Ch) : (d.lockOff e c).notice = d.notice :=
  (Drive.releasePair_notice ..).trans (Drive.undrive_notice ..)

/-- What the release sees is the pairs alone. -/
theorem Drive.releasePair_pairs_congr {d' : Drive} (h : d'.pairs = d.pairs) (e : Env) (c : Ch) :
    (d'.releasePair e c).pairs = (d.releasePair e c).pairs := by
  unfold Drive.releasePair
  rw [h]
  split
  · exact h
  · split
    · simp only [Drive.modPair_pairs, h]
    · exact h

theorem Drive.lockOff_pairs (d : Drive) (e : Env) (c : Ch) :
    (d.lockOff e c).pairs = (d.releasePair e c).pairs := by
  unfold Drive.lockOff
  refine Drive.releasePair_pairs_congr ?_ e c
  exact Drive.undrive_pairs ..

theorem Drive.lock_pairs (d : Drive) (e : Env) (c : Ch) : (d.lock e c).pairs = (d.lockOff e c).pairs := by
  rw [Drive.lock_eq, Drive.passIf]
  split
  · exact Drive.pass_pairs ..
  · rfl

/-- The pass runs where the channel held a reservation. -/
theorem Drive.lock_pass (d : Drive) (e : Env) (c : Ch) :
    d.lock e c = if d.chans[c].reservation = 0 then d.lockOff e c else (d.lockOff e c).pass e (e.feedOf c) := by
  rw [Drive.lock_eq, Drive.passIf]
  by_cases hr : d.chans[c].reservation = 0
  · rw [if_pos hr, if_neg (ne_true_of_eq_false (decide_eq_false (not_not.2 hr)))]
  · rw [if_neg hr, if_pos (decide_eq_true hr)]

/-- A lock with no other entry in the queue of the feed ends with the channel's own change. -/
theorem Drive.lock_alone (ha : ∀ q ∈ d.feeds[e.feedOf c].queue, q.ch = c) : d.lock e c = d.lockOff e c := by
  rw [Drive.lock_pass, (d.lockOff_switchedOff e c).pass_alone ha, ite_self]

end

/-- Settles O29: the channel's own change is `Drive.lockOff`, and the pass that may follow it leaves the channel and the
pairs alone. -/
theorem lockDisablesChannel : Obligations.LockDisablesChannel := by
  intro h channel s a
  refine ⟨fun hc => congrArg Host.Outcome.next (a.refuses (lockBody_outOfRange hc)), fun c hc => ?_⟩
  intro x f hot
  refine ⟨fun hs => congrArg Host.Outcome.next (a.takes (by simp) (lockBody_disabled hc hs)), fun hs hw =>
    ⟨_, congrArg Host.Outcome.next (a.takes (by simp) (lockBody_locks hc hs)), rfl, ?chan, fun p => ?pair,
      ⟨s.drive.lockOff s.env c, s.drive.lockOff_switchedOff s.env c, (s.drive.lock_pairs s.env c).symm,
        s.drive.lockOff_notice s.env c, s.drive.lock_pass s.env c⟩, fun ha => ?alone⟩⟩
  case chan =>
    show (s.drive.lock s.env c).chans[c] = _
    rw [Drive.lock_pass]
    split
    · rw [Drive.lockOff_chan, if_pos rfl]; rfl
    · exact (s.drive.lockOff_switchedOff s.env c).pass_chan s.env
  case pair =>
    show (s.drive.lock s.env c).pairs[p] = _
    rw [Drive.lock_pairs, Drive.lockOff_pairs]
    split
    · exact Drive.releasePair_held hw ‹_›
    · exact Drive.releasePair_kept hw ‹_›
  case alone =>
    show (∀ c' : Ch, c' ≠ c → (s.drive.lock s.env c).chans[c'] = s.drive.chans[c']) ∧
      (s.drive.lock s.env c).feeds = _ ∧ (s.drive.lock s.env c).check = _ ∧ (s.drive.lock s.env c).notice = _
    have hoff := s.drive.lockOff_switchedOff s.env c
    rw [Drive.lock_alone ha]
    refine ⟨fun c' hc' => by rw [hoff.chan_at, if_neg hc'], ?_, ?_, s.drive.lockOff_notice s.env c⟩
    · rw [hoff.feeds]
      exact congrArg (fun q => s.drive.feeds.set (s.env.feedOf c)
        { s.drive.feeds[s.env.feedOf c].without c s.drive.chans[c].reservation with queue := q })
        (FeedState.without_queue ha s.drive.chans[c].reservation)
    · rw [hoff.1]

end Sys2Proof.Machine
end

section
/-!
PROOFS. The end of a pair's dead time (R77).
-/

namespace Sys2Proof.Machine

theorem exec_deadTimeExpiry (p : PairNo) (s : State) :
    exec (.deadTimeExpiry p) s = .next (event (deadTimeExpiry p) s) := rfl

section
variable {d : Drive} {e : Env} {a b c : Ch} {p : PairNo} {sa sb : Nat}

/-! ### The arbiter's choice (R77) -/

theorem ChanState.waitStart_eq_some {x : ChanState} {since : Nat} :
    x.waitStart = some since ↔ x = .waiting (.interlock since) := by
  rcases x with _ | _ | (_ | _ | _) | _ | _ | _ | _ <;> simp [ChanState.waitStart]

theorem ChanState.waitStart_eq_none {x : ChanState} :
    x.waitStart = none ↔ ∀ since, x ≠ .waiting (.interlock since) := by
  rcases x with _ | _ | (_ | _ | _) | _ | _ | _ | _ <;> simp [ChanState.waitStart]

theorem Drive.arbiterChoice_idle (ha : d.chans[a].state.waitStart = none) (hb : d.chans[b].state.waitStart = none) :
    d.arbiterChoice a b = none := by
  simp only [Drive.arbiterChoice, ha, hb]

theorem Drive.arbiterChoice_left (ha : d.chans[a].state.waitStart = some sa)
    (hb : d.chans[b].state.waitStart = none) : d.arbiterChoice a b = some a := by
  simp only [Drive.arbiterChoice, ha, hb]

theorem Drive.arbiterChoice_right (ha : d.chans[a].state.waitStart = none)
    (hb : d.chans[b].state.waitStart = some sb) : d.arbiterChoice a b = some b := by
  simp only [Drive.arbiterChoice, ha, hb]

/-- One waiting member comes before another: by class, then by wait start, then by number. -/
def Drive.ComesBefore (d : Drive) (x y : Ch) (sx sy : Nat) : Prop :=
  d.chans[y].rank < d.chans[x].rank ∨ (d.chans[y].rank = d.chans[x].rank ∧ (sx < sy ∨ (sx = sy ∧ x < y)))

theorem Drive.arbiterChoice_first (ha : d.chans[a].state.waitStart = some sa)
    (hb : d.chans[b].state.waitStart = some sb) (h : d.ComesBefore a b sa sb) : d.arbiterChoice a b = some a := by
  simp only [Drive.arbiterChoice, ha, hb]
  rcases h with h | ⟨hr, h | ⟨hs, h⟩⟩
  · rw [if_pos h]
  · rw [if_neg (by omega), if_neg (by omega), if_pos h]
  · rw [if_neg (by omega), if_neg (by omega), if_neg (by omega), if_neg (by omega), if_pos (le_of_lt h)]

theorem Drive.arbiterChoice_second (ha : d.chans[a].state.waitStart = some sa)
    (hb : d.chans[b].state.waitStart = some sb) (h : d.ComesBefore b a sb sa) : d.arbiterChoice a b = some b := by
  simp only [Drive.arbiterChoice, ha, hb]
  rcases h with h | ⟨hr, h | ⟨hs, h⟩⟩
  · rw [if_neg (by omega), if_pos h]
  · rw [if_neg (by omega), if_neg (by omega), if_neg (by omega), if_pos h]
  · rw [if_neg (by omega), if_neg (by omega), if_neg (by omega), if_neg (by omega), if_neg (not_le.2 h)]

theorem Drive.arbiterChoice_modPair (d : Drive) (p : PairNo) (g : PairState → PairState) (a b : Ch) :
    (d.modPair p g).arbiterChoice a b = d.arbiterChoice a b := rfl

/-! ### What the arbiter does (R77) -/

theorem Drive.arbitrate_idle (h : d.arbiterChoice e.conf.pairs[p].a e.conf.pairs[p].b = none) :
    d.arbitrate e p = (d, []) := by
  simp only [Drive.arbitrate, h]

theorem Drive.arbitrate_grants (h : d.arbiterChoice e.conf.pairs[p].a e.conf.pairs[p].b = some c) :
    d.arbitrate e p =
      ((d.modPair p (fun x => { x with holder := e.sideOf p c })).joinFresh e c, [e.feedOf c]) := by
  simp only [Drive.arbitrate, h]

theorem Drive.passes_nil (d : Drive) (e : Env) : d.passes e [] = d := rfl

theorem Drive.passes_one (d : Drive) (e : Env) (f : Fin 3) : d.passes e [f] = d.pass e f := by
  fin_cases f <;> rfl

theorem Drive.modPair_modPair (d : Drive) (p : PairNo) (g g' : PairState → PairState) :
    (d.modPair p g).modPair p g' = d.modPair p (fun x => g' (g x)) := by
  simp only [Drive.modPair, Fin.getElem_fin, Vector.getElem_set_self, Vector.set_set]

end

/-! ### The expiry (R76, R77) -/

theorem deadTimeExpiry_due {s : State} {p : PairNo} {ms : Nat} (hp : s.conf.pairs[p].enabled = true)
    (hd : s.drive.pairs[p].dead = some ms) (hms : ms ≤ 1) :
    deadTimeExpiry p s = { s with
      drive := (((s.drive.modPair p (fun x => { x with dead := none })).arbitrate s.env p).1).passes s.env
        ((s.drive.modPair p (fun x => { x with dead := none })).arbitrate s.env p).2 } :=
  if_pos ⟨hp, expires_iff.2 ⟨ms, hd, hms⟩⟩

/-- A member that the arbiter chooses becomes the holder and asks its feed, whose pass runs. -/
theorem deadTimeExpiry_grants {s : State} {p : PairNo} {ms : Nat} {c : Ch} (hp : s.conf.pairs[p].enabled = true)
    (hd : s.drive.pairs[p].dead = some ms) (hms : ms ≤ 1)
    (hc : s.drive.arbiterChoice s.conf.pairs[p].a s.conf.pairs[p].b = some c) :
    deadTimeExpiry p s = { s with
      drive := (Drive.joinFresh { s.drive with pairs := s.drive.pairs.set p ⟨s.env.sideOf p c, none⟩ } s.env c).pass
        s.env (s.env.feedOf c) } := by
  have hg := (Drive.arbiterChoice_modPair s.drive p (fun x => { x with dead := none }) _ _).trans hc
  rw [deadTimeExpiry_due hp hd hms, Drive.arbitrate_grants (e := s.env) hg, Drive.passes_one, Drive.modPair_modPair]
  rfl

/-- Settles O35: the arbiter's choice by who waits. -/
theorem deadTimeExpiryGrantsPair : Obligations.DeadTimeExpiryGrantsPair := by
  intro p s ms hrun hp hd hms hab a b waits idle before wins pairHeldBy granted
  refine ⟨fun ha hb => ?idle, fun ⟨sa, ha, hwins⟩ => ?first, fun ⟨sb, hb, hwins⟩ => ?second⟩
  case idle =>
    have hc := Drive.arbiterChoice_idle (ChanState.waitStart_eq_none.2 ha) (ChanState.waitStart_eq_none.2 hb)
    have hg := (Drive.arbiterChoice_modPair s.drive p (fun x => { x with dead := none }) a b).trans hc
    rw [exec_deadTimeExpiry, event_running hrun, deadTimeExpiry_due hp hd hms, Drive.arbitrate_idle (e := s.env) hg,
      Drive.passes_nil]
    rfl
  case first =>
    have hc : s.drive.arbiterChoice a b = some a := by
      obtain hidle | ⟨sb, hb, hbefore⟩ := hwins
      · exact Drive.arbiterChoice_left (ChanState.waitStart_eq_some.2 ha) (ChanState.waitStart_eq_none.2 hidle)
      · exact Drive.arbiterChoice_first (ChanState.waitStart_eq_some.2 ha) (ChanState.waitStart_eq_some.2 hb) hbefore
    have hside : s.env.sideOf p a = .a := Env.sideOf_a rfl
    show exec (.deadTimeExpiry p) s = _
    rw [exec_deadTimeExpiry, event_running hrun, deadTimeExpiry_grants hp hd hms hc, hside]
    rfl
  case second =>
    have hc : s.drive.arbiterChoice a b = some b := by
      obtain hidle | ⟨sa, ha, hbefore⟩ := hwins
      · exact Drive.arbiterChoice_right (ChanState.waitStart_eq_none.2 hidle) (ChanState.waitStart_eq_some.2 hb)
      · exact Drive.arbiterChoice_second (ChanState.waitStart_eq_some.2 ha) (ChanState.waitStart_eq_some.2 hb) hbefore
    have hside : s.env.sideOf p b = .b := Env.sideOf_b rfl hab
    show exec (.deadTimeExpiry p) s = _
    rw [exec_deadTimeExpiry, event_running hrun, deadTimeExpiry_grants hp hd hms hc, hside]
    rfl

end Sys2Proof.Machine
end

section
/-!
PROOFS. The timers of a driven channel and its gate (R55, R59, R69).
-/

namespace Sys2Proof.Machine

theorem exec_inrushTimerExpiry (c : Ch) (s : State) :
    exec (.inrushTimerExpiry c) s = .next (event (inrushTimerExpiry c) s) := rfl

theorem exec_cleanRunExpiry (c : Ch) (s : State) :
    exec (.cleanRunExpiry c) s = .next (event (cleanRunExpiry c) s) := rfl

theorem exec_pwmPeriodStart (s : State) : exec .pwmPeriodStart s = .next (event pwmPeriodStart s) := rfl

section
variable {s : State} {d : Drive} {e : Env} {c : Ch} {ms : Nat}

/-- The channel in ON at the level to apply, its steady reservation counted, before the generator follows. -/
theorem Drive.enterOn_eq (d : Drive) (e : Env) (c : Ch) :
    d.enterOn e c = Drive.syncFlash { d with
      chans := d.chans.set c { d.chans[c] with
        state := .on, applied := levelToApply (e.cfg c) d.chans[c].wanted
        reservation := steadyReservation (e.cfg c) (levelToApply (e.cfg c) d.chans[c].wanted)
        inrushTimer := none, cleanTimer := some 10000, openCount := 0, openFlag := false
        pwmSettled := d.chans[c].pwmSettled && decide (d.chans[c].applied = levelToApply (e.cfg c) d.chans[c].wanted) }
      feeds := d.feeds.set (e.feedOf c) { d.feeds[e.feedOf c] with
        committed := d.feeds[e.feedOf c].committed +
          steadyReservation (e.cfg c) (levelToApply (e.cfg c) d.chans[c].wanted) - d.chans[c].reservation } } e := by
  simp only [Drive.enterOn, Drive.setReservation, Drive.modChan, Drive.modFeed, Fin.getElem_fin,
    Vector.getElem_set_self, Vector.set_set]
  rfl

theorem Drive.enterOn_reservation (d : Drive) (e : Env) (c : Ch) :
    (d.enterOn e c).chans[c].reservation = steadyReservation (e.cfg c) (levelToApply (e.cfg c) d.chans[c].wanted) := by
  rw [Drive.enterOn_chan_at, if_pos rfl]

/-- The end of INRUSH: a pass runs where the reservation changes. -/
theorem Drive.endInrush_eq (d : Drive) (e : Env) (c : Ch) :
    d.endInrush e c =
      if steadyReservation (e.cfg c) (levelToApply (e.cfg c) d.chans[c].wanted) = d.chans[c].reservation
      then d.enterOn e c else (d.enterOn e c).pass e (e.feedOf c) := by
  rw [← Drive.enterOn_reservation d e c, Drive.endInrush, Drive.passIf]
  by_cases hr : (d.enterOn e c).chans[c].reservation = d.chans[c].reservation
  · rw [if_pos hr, if_neg (ne_true_of_eq_false (decide_eq_false (not_not.2 hr)))]
  · rw [if_neg hr, if_pos (decide_eq_true hr)]

theorem inrushTimerExpiry_due (hs : s.drive.chans[c].state = .inrush) (ht : s.drive.chans[c].inrushTimer = some ms)
    (hms : ms ≤ 1) : inrushTimerExpiry c s = s.onChannel Drive.endInrush c :=
  if_pos ⟨hs, expires_iff.2 ⟨ms, ht, hms⟩⟩

theorem cleanRunExpiry_due (hs : s.drive.chans[c].state = .on) (ht : s.drive.chans[c].cleanTimer = some ms)
    (hms : ms ≤ 1) : cleanRunExpiry c s = { s with
      drive := s.drive.modChan c (fun x => { x with retries := 0, lastFault := none, cleanTimer := none }) } :=
  if_pos ⟨hs, expires_iff.2 ⟨ms, ht, hms⟩⟩

/-! ### A PWM period start (R55) -/

theorem Channel.settlePwm_dim {x : Channel} {duty : Fin 64} (hd : x.state.driven = true) (ha : x.applied = .dim duty) :
    x.settlePwm = { x with pwmSettled := true } := by
  simp only [Channel.settlePwm, ha, hd, if_true]

theorem Channel.settlePwm_other {x : Channel} (h : x.state.driven = false ∨ ∀ duty, x.applied ≠ .dim duty) :
    x.settlePwm = x := by
  unfold Channel.settlePwm
  split
  · rename_i duty ha
    rw [if_neg (ne_true_of_eq_false (h.resolve_right fun hn => hn duty ha))]
  all_goals rfl

theorem pwmPeriodStart_chan (s : State) (c : Ch) :
    (pwmPeriodStart s).drive.chans[c] = s.drive.chans[c].settlePwm := Vector.getElem_ofFn _

/-! ### The gates (R55, R123) -/

theorem State.gate_off (hd : s.drive.chans[c].state.driven = false) : s.gate c = .off := by
  simp only [State.gate, hd, Bool.not_false, Bool.or_true, if_true]

theorem State.gate_steady (hr : s.inReset = false) (hd : s.drive.chans[c].state.driven = true)
    (ha : s.drive.chans[c].applied = .steady) : s.gate c = .on := by
  simp only [State.gate, hr, hd, ha, Bool.not_true, Bool.or_false, Bool.false_eq_true, if_false]

theorem State.gate_dim {duty : Fin 64} (hr : s.inReset = false) (hd : s.drive.chans[c].state.driven = true)
    (ha : s.drive.chans[c].applied = .dim duty) :
    s.gate c = if s.drive.chans[c].pwmSettled then .pwm duty else .on := by
  simp only [State.gate, hr, hd, ha, Bool.not_true, Bool.or_false, Bool.false_eq_true, if_false]

theorem State.gate_flash (hr : s.inReset = false) (hd : s.drive.chans[c].state.driven = true)
    (ha : s.drive.chans[c].applied = .flash) : s.gate c = if s.drive.flashOn then .on else .off := by
  simp only [State.gate, hr, hd, ha, Bool.not_true, Bool.or_false, Bool.false_eq_true, if_false]

theorem Drive.flashOn_running {cy : Cycle} (hf : d.flash = some cy) : d.flashOn = decide (cy.phase = .on) := by
  simp only [Drive.flashOn, hf]

end

/-- Settles O36: the two expiries, the period start by the applied level, and the gates. -/
theorem timersOfDrivenChannels : Obligations.TimersOfDrivenChannels := by
  intro c s ms hrun hms x cfg f level steady d
  refine ⟨fun hs ht => ?inrush, fun hs ht => ?clean, ⟨pwmPeriodStart s, ?start, rfl, fun duty hd ha => ?dim,
    fun hno => ?kept⟩, State.gate_off, fun hd => ⟨fun ha => ?steady, fun duty ha => ?duty, fun ha cy hf => ?flash⟩⟩
  case inrush =>
    rw [exec_inrushTimerExpiry, event_running hrun, inrushTimerExpiry_due hs ht hms, State.onChannel,
      Drive.endInrush_eq, Drive.enterOn_eq]
    rfl
  case clean =>
    rw [exec_cleanRunExpiry, event_running hrun, cleanRunExpiry_due hs ht hms]
    rfl
  case start => rw [exec_pwmPeriodStart, event_running hrun]
  case dim =>
    have hchan : (pwmPeriodStart s).drive.chans[c] = { x with pwmSettled := true } :=
      (pwmPeriodStart_chan s c).trans (Channel.settlePwm_dim hd ha)
    refine ⟨hchan, ?_⟩
    rw [State.gate_dim (s := pwmPeriodStart s) (duty := duty) hrun (by rw [hchan]; exact hd) (by rw [hchan]; exact ha), hchan]
    rfl
  case kept => exact (pwmPeriodStart_chan s c).trans (Channel.settlePwm_other hno)
  case steady => exact State.gate_steady hrun hd ha
  case duty => exact State.gate_dim hrun hd ha
  case flash =>
    rw [State.gate_flash hrun hd ha, Drive.flashOn_running hf]
    exact ⟨fun hp => if_pos (decide_eq_true hp), fun hp => if_neg (by rw [hp]; decide)⟩

end Sys2Proof.Machine
end

section
/-!
SUPPORT. A sample completion, stage by stage (R83 to R97): what stages 1 to 6 find, the drive side they leave, and what
stage 8 makes of it.
-/

namespace Sys2Proof.Machine

theorem exec_sampleCompletion (c : Ch) (sense : Nat) (s : State) :
    exec (.sampleCompletion c sense) s = .next (event (sampleCompletion c sense) s) := rfl

section
variable {s : State} {c : Ch} {sense : Nat} {kind : FaultKind} {d : Drive} {e : Env}

/-! ### Stages 1 to 3: current and heat (R83 to R87) -/

theorem State.onTick_eq (s : State) (c : Ch) : s.drive.onTick c = s.tickOn c := by
  unfold Drive.onTick State.tickOn Drive.flashOn
  cases s.drive.chans[c].applied <;> rfl

theorem takeSample_current (s : State) (c : Ch) (sense : Nat) :
    (takeSample s c sense).current = s.currentAt c sense := by
  simp only [takeSample, State.onTick_eq, State.currentAt, maxCurrent]

theorem State.heatTarget_eq (s : State) (c : Ch) (sense : Nat) :
    s.drive.chans[c].effectiveSquare (s.currentAt c sense) * 256 = s.heatTarget c sense :=
  Nat.mul_comm _ _

theorem takeSample_heat (s : State) (c : Ch) (sense : Nat) :
    (takeSample s c sense).monitor.heat = s.heatAfter c sense := by
  have hcur : (if s.drive.onTick c = true then min maxCurrent sense else 0) = s.currentAt c sense := by
    rw [State.onTick_eq]; rfl
  show heatStep s.conf.channels[c].k (s.drive.chans[c].effectiveSquare
    (if s.drive.onTick c = true then min maxCurrent sense else 0) * 256) s.monitors[c].heat = _
  rw [hcur, State.heatTarget_eq]
  rfl

theorem takeSample_lastI (s : State) (c : Ch) (sense : Nat) :
    (takeSample s c sense).monitor.lastI = if s.tickOn c then min 1023 sense else s.monitors[c].lastI := by
  simp only [takeSample, State.onTick_eq]
  split <;> rfl

theorem takeSample_warn (s : State) (c : Ch) (sense : Nat) :
    (takeSample s c sense).monitor.warn = warnAfter s.conf.channels[c] s.monitors[c].warn (s.heatAfter c sense) := by
  rw [← takeSample_heat]
  rfl

/-! ### Stages 4 to 6: the trips (R89, R93 to R95) -/

theorem Drive.inAllowance_iff {cfg : ChannelConfig} : d.inAllowance cfg = true ↔
    ∃ cy, d.flash = some cy ∧ cfg.inrushWindow ≠ 0 ∧ cy.onLen - cy.timer ≤ min (cfg.inrushWindow * 10) cy.onLen := by
  unfold Drive.inAllowance
  cases d.flash <;> simp

/-- The limit in force is the inrush limit in INRUSH and within a flash allowance (R93, R94). -/
theorem Drive.limitInForce_eq (d : Drive) (cfg : ChannelConfig) (c : Ch) :
    d.limitInForce cfg c =
      if d.chans[c].state = .inrush ∨ (cfg.loadType = .lamp ∧ d.chans[c].applied = .flash ∧
          ∃ cy, d.flash = some cy ∧ cfg.inrushWindow ≠ 0 ∧
            cy.onLen - cy.timer ≤ min (cfg.inrushWindow * 10) cy.onLen)
      then cfg.inrushLimit else cfg.peakLimit := by
  unfold Drive.limitInForce
  by_cases hstate : d.chans[c].state = .inrush
  · rw [if_pos hstate, if_pos (.inl hstate)]
  · rw [if_neg hstate]
    by_cases hallow : cfg.loadType = .lamp ∧ d.chans[c].applied = .flash ∧ d.inAllowance cfg = true
    · obtain ⟨hlamp, hflash, hin⟩ := hallow
      rw [if_pos ⟨hlamp, hflash, hin⟩, if_pos (.inr ⟨hlamp, hflash, Drive.inAllowance_iff.1 hin⟩)]
    · rw [if_neg hallow, if_neg]
      rintro (h | ⟨hlamp, hflash, hin⟩)
      · exact hstate h
      · exact hallow ⟨hlamp, hflash, Drive.inAllowance_iff.2 hin⟩

/-- Whether a SHORT is found, as stage 2 says it. -/
def State.shortFound (s : State) (c : Ch) (sense : Nat) : Bool :=
  s.tickOn c && decide (s.drive.limitInForce s.conf.channels[c] c ≤ s.currentAt c sense)

/-- Whether an OVERLOAD is found, as stage 4 says it. -/
def State.overloadFound (s : State) (c : Ch) (sense : Nat) : Bool :=
  s.drive.chans[c].state.driven && !s.shortFound c sense &&
    decide (tTrip s.conf.channels[c] ≤ s.heatAfter c sense)

theorem State.shortFound_iff : s.shortFound c sense = true ↔ s.findsShort c sense := by
  rw [State.shortFound, Bool.and_eq_true, decide_eq_true_iff, Drive.limitInForce_eq]
  rfl

theorem State.overloadFound_iff : s.overloadFound c sense = true ↔ s.findsOverload c sense := by
  rw [State.overloadFound, Bool.and_eq_true, Bool.and_eq_true, decide_eq_true_iff, Bool.not_eq_true',
    ← Bool.not_eq_true, State.shortFound_iff, tTrip, ← pow_two, Nat.mul_comm, and_assoc]
  rfl

/-- The stall timer's step at this completion (R95). -/
def State.stallAfter (s : State) (c : Ch) (sense : Nat) : Nat × Bool :=
  stallStep s.conf.channels[c] s.drive.chans[c].state s.drive.chans[c].stallTimer (s.tickOn c) (s.currentAt c sense)
    (s.shortFound c sense || s.overloadFound c sense)

theorem takeSample_stallTimer (s : State) (c : Ch) (sense : Nat) :
    (takeSample s c sense).stallTimer = (s.stallAfter c sense).1 := by
  rw [State.stallAfter, State.overloadFound, State.shortFound, ← State.onTick_eq, ← takeSample_heat,
    ← takeSample_current]
  rfl

theorem takeSample_trip (s : State) (c : Ch) (sense : Nat) :
    (takeSample s c sense).trip =
      if s.shortFound c sense then some .short else if s.overloadFound c sense then some .overload
      else if (s.stallAfter c sense).2 then some .stall else none := by
  rw [State.stallAfter, State.overloadFound, State.shortFound, ← State.onTick_eq, ← takeSample_heat,
    ← takeSample_current]
  rfl

theorem takeSample_short (h : s.findsShort c sense) : (takeSample s c sense).trip = some .short := by
  rw [takeSample_trip, if_pos (State.shortFound_iff.2 h)]

theorem takeSample_overload (h : s.findsOverload c sense) : (takeSample s c sense).trip = some .overload := by
  rw [takeSample_trip, if_neg (mt State.shortFound_iff.1 h.2.1), if_pos (State.overloadFound_iff.2 h)]

section
variable (hs : ¬ s.findsShort c sense) (ho : ¬ s.findsOverload c sense)
include hs ho

theorem State.stallAfter_noTrip : s.stallAfter c sense =
    stallStep s.conf.channels[c] s.drive.chans[c].state s.drive.chans[c].stallTimer (s.tickOn c)
      (s.currentAt c sense) false := by
  rw [State.stallAfter, Bool.eq_false_iff.2 (mt State.shortFound_iff.1 hs),
    Bool.eq_false_iff.2 (mt State.overloadFound_iff.1 ho)]
  rfl

theorem takeSample_noTrip : (takeSample s c sense).trip =
    if (s.stallAfter c sense).2 then some .stall else none := by
  rw [takeSample_trip, if_neg (mt State.shortFound_iff.1 hs), if_neg (mt State.overloadFound_iff.1 ho)]

end

theorem State.findsShort.driven (h : s.findsShort c sense) : s.drive.chans[c].state.driven = true :=
  (Bool.and_eq_true _ _ ▸ h.1).1

/-! ### The stall timer (R95) -/

section
variable {cfg : ChannelConfig} {state : ChanState} {timer i : Nat} {onTick found : Bool}

theorem stallStep_noMotor (h : cfg.loadType ≠ .motor) :
    stallStep cfg state timer onTick i found = (cfg.stallTime * 10, false) := if_pos h

theorem stallStep_tripFound (h : cfg.loadType = .motor) :
    stallStep cfg state timer onTick i true = (timer, false) := by
  simp only [stallStep, h]; rfl

theorem stallStep_notOn (hs : state ≠ .on) :
    stallStep cfg state timer onTick i false = (cfg.stallTime * 10, false) := by
  unfold stallStep
  split
  · rfl
  · rw [if_neg Bool.false_ne_true]
    split
    case h_1 => exact absurd rfl hs
    all_goals rfl

theorem stallStep_offTick (h : cfg.loadType = .motor) :
    stallStep cfg .on timer false i false = (timer, false) := by
  simp only [stallStep, h]; rfl

theorem stallStep_below (h : cfg.loadType = .motor) (hi : i < cfg.stallLevel) :
    stallStep cfg .on timer true i false = (cfg.stallTime * 10, false) := by
  simp only [stallStep, h]
  exact if_neg (Nat.not_le.2 hi)

theorem stallStep_stalling (h : cfg.loadType = .motor) (hi : cfg.stallLevel ≤ i) :
    stallStep cfg .on timer true i false = (timer - 1, decide (timer - 1 = 0)) := by
  simp only [stallStep, h]
  exact if_pos hi

end

/-! ### The drive side after stage 6 -/

/-- The monitors after the completion. -/
def State.sampledMonitors (s : State) (c : Ch) (sense : Nat) : Vector Monitor 16 :=
  s.monitors.set c (takeSample s c sense).monitor

/-- What the drive side reads from stage 6 on. -/
def State.sampledEnv (s : State) (c : Ch) (sense : Nat) : Env :=
  { s.env with monitors := s.sampledMonitors c sense }

/-- The drive side after stage 6: the stall timer moved, a warn flag being set noted. -/
def State.sampledDrive (s : State) (c : Ch) (sense : Nat) : Drive :=
  { s.drive with
    chans := s.drive.chans.set c { s.drive.chans[c] with stallTimer := (s.stallAfter c sense).1 }
    notice := s.drive.notice.afterWarn c s.monitors[c] (takeSample s c sense).monitor }

/-- The part after the completion, its drive side given. -/
def State.sampled (s : State) (c : Ch) (sense : Nat) (d : Drive) : State :=
  { s with monitors := s.sampledMonitors c sense, drive := d }

theorem State.sampledDrive_eq (s : State) (c : Ch) (sense : Nat) :
    s.sampledDrive c sense =
      if ((takeSample s c sense).monitor.warn && !s.monitors[c].warn) = true then
        (s.drive.modChan c (fun x => { x with stallTimer := (takeSample s c sense).stallTimer })).noteWarn c
      else s.drive.modChan c (fun x => { x with stallTimer := (takeSample s c sense).stallTimer }) := by
  have hw : ((takeSample s c sense).monitor.warn && !s.monitors[c].warn) = true ↔
      s.monitors[c].warn = false ∧ (takeSample s c sense).monitor.warn = true := by
    rw [Bool.and_eq_true, Bool.not_eq_true', and_comm]
  rw [takeSample_stallTimer, State.sampledDrive, Notice.afterWarn]
  by_cases h : s.monitors[c].warn = false ∧ (takeSample s c sense).monitor.warn = true
  · rw [if_pos (hw.2 h), if_pos h]; rfl
  · rw [if_neg (mt hw.1 h), if_neg h]; rfl

theorem sampleCompletion_trips (h : (takeSample s c sense).trip = some kind) :
    sampleCompletion c sense s = s.sampled c sense
      (((s.sampledDrive c sense).trip (s.sampledEnv c sense) c kind).coolReport (s.sampledEnv c sense) c) := by
  rw [State.sampledDrive_eq]
  simp only [sampleCompletion, h]
  rfl

theorem sampleCompletion_quiet (h : (takeSample s c sense).trip = none) :
    sampleCompletion c sense s = s.sampled c sense
      (Drive.coolReport
        (if (s.sampledDrive c sense).countsOpen s.conf.channels[c] c then
          (s.sampledDrive c sense).openStage c (decide (s.currentAt c sense < s.conf.channels[c].openLoadLevel))
        else s.sampledDrive c sense) (s.sampledEnv c sense) c) := by
  rw [State.sampledDrive_eq, ← takeSample_current]
  simp only [sampleCompletion, h]
  rfl

theorem State.sampled_monitor (s : State) (c : Ch) (sense : Nat) (d : Drive) :
    (s.sampled c sense d).monitors[c] = (takeSample s c sense).monitor :=
  Vector.getElem_set_self _

theorem State.sampled_eq (s : State) (c : Ch) (sense : Nat) (d : Drive) :
    s.sampled c sense d =
      { s with monitors := s.monitors.set c (s.sampled c sense d).monitors[c], drive := d } := by
  rw [State.sampled_monitor]
  rfl

theorem State.sampledEnv_hot (s : State) (c : Ch) (sense : Nat) :
    (s.sampledEnv c sense).hot c = decide (64 * s.conf.channels[c].iRate ^ 2 < s.heatAfter c sense) := by
  have hm : (s.sampledMonitors c sense)[c] = (takeSample s c sense).monitor := Vector.getElem_set_self _
  rw [Env.hot_eq, ← takeSample_heat, ← hm]
  rfl

end
end Sys2Proof.Machine
end

section
/-!
PROOFS. Stage 8 of a sample completion, the retries and the clearing of a cooling flag (R67, R70, R92), and what a
completion without a trip leaves of an undriven channel and of one in INRUSH (R84 to R92).
-/

namespace Sys2Proof.Machine

theorem exec_retryTimerExpiry (c : Ch) (s : State) :
    exec (.retryTimerExpiry c) s = .next (event (retryTimerExpiry c) s) := rfl

theorem exec_overloadRetry (c : Ch) (s : State) :
    exec (.overloadRetry c) s = .next (event (overloadRetry c) s) := rfl

theorem exec_coolingFlagClear (c : Ch) (s : State) :
    exec (.coolingFlagClear c) s = .next (event (coolingFlagClear c) s) := rfl

section
variable {d : Drive} {e : Env} {c : Ch} {s : State} {sense : Nat}

/-! ### A channel that enters the switch-on path as something else (R67, R70) -/

/-- The channel becomes `y` and takes the switch-on path, with the pass that it calls for. -/
def Drive.goesOnAs (d : Drive) (e : Env) (c : Ch) (y : Channel) : Drive :=
  Drive.passIf e c (Drive.switchOn { d with chans := d.chans.set c y } e c)

theorem Drive.retry_eq (d : Drive) (e : Env) (c : Ch) :
    d.retry e c = d.goesOnAs e c { d.chans[c] with retryTimer := none } := rfl

theorem Drive.clearCooling_other (h : d.chans[c].state ≠ .waiting .cooling) (e : Env) :
    d.clearCooling e c = d.modChan c (fun x => { x with cooling := false }) := by
  unfold Drive.clearCooling
  dsimp only
  rw [Drive.modChan_self]
  exact if_neg h

/-- A channel that waits for its heat goes on at the interlock test: test 1 of the switch-on path, its flag clear. -/
theorem Drive.clearCooling_waiting (h : d.chans[c].state = .waiting .cooling) (e : Env) :
    d.clearCooling e c = d.goesOnAs e c { d.chans[c] with cooling := false } := by
  have hclear : (d.modChan c (fun x => { x with cooling := false })).chans[c].cooling = false := by
    rw [Drive.modChan_self]
  have hgo : Drive.switchOn { d with chans := d.chans.set c { d.chans[c] with cooling := false } } e c =
      (d.modChan c (fun x => { x with cooling := false })).interlockTest e c :=
    Drive.switchOn_goesOn fun hc => absurd (hclear.symm.trans hc.1) (by decide)
  rw [Drive.goesOnAs, hgo]
  unfold Drive.clearCooling
  dsimp only
  rw [Drive.modChan_self]
  exact if_pos h

theorem Drive.goesOnAs_keeps (d : Drive) (e : Env) (c : Ch) (y : Channel) :
    (d.goesOnAs e c y).chans[c].retries = y.retries ∧ (d.goesOnAs e c y).chans[c].lastFault = y.lastFault := by
  obtain ⟨w, hw⟩ := Drive.switchOn_chan_at { d with chans := d.chans.set c y } e c
  have hy : ({ d with chans := d.chans.set c y } : Drive).chans[c] = y := Vector.getElem_set_self _
  have hc := hw c
  rw [if_pos rfl, hy] at hc
  unfold Drive.goesOnAs Drive.passIf
  split
  · rw [Drive.pass_retries, Drive.pass_lastFault, hc]
    exact ⟨rfl, rfl⟩
  · rw [hc]
    exact ⟨rfl, rfl⟩

/-! ### Stage 8 (R92) -/

/-- No pass takes a channel to TRIPPED. -/
theorem Drive.pass_not_tripped (h : d.chans[c].state ≠ .tripped) (e : Env) (f : Fin 3) :
    (d.pass e f).chans[c].state ≠ .tripped := by
  refine Drive.pass_induct (P := fun d' => d'.chans[c].state ≠ .tripped) (fun d' v _ hd _ _ _ => ?_)
    (fun d' x hd _ _ _ => ?_) d h
  · rw [Drive.shed_chan_at]
    split
    · exact fun hs => by cases hs
    · exact hd
  · by_cases hc : c = x.ch
    · subst hc
      unfold Drive.letIn
      split
      · rw [Drive.admitFresh_chan_at, if_pos rfl]
        split <;> exact fun hs => by cases hs
      · rw [Drive.admitUpgrade_chan_at, if_pos rfl]
        exact hd
    · rw [Drive.letIn_chan_ne d' e x hc]
      exact hd

theorem Drive.goesOnAs_not_tripped (d : Drive) (e : Env) (c : Ch) (y : Channel) :
    (d.goesOnAs e c y).chans[c].state ≠ .tripped := by
  obtain ⟨w, hw⟩ := Drive.switchOn_chan_at { d with chans := d.chans.set c y } e c
  have hc : (Drive.switchOn { d with chans := d.chans.set c y } e c).1.chans[c].state ≠ .tripped := by
    rw [hw, if_pos rfl]
    exact fun hs => by cases hs
  unfold Drive.goesOnAs Drive.passIf
  split
  · exact Drive.pass_not_tripped hc e _
  · exact hc

theorem Drive.coolReport_hot (h : e.hot c = true) : d.coolReport e c = d := if_pos h

theorem Drive.coolReport_cool (h : e.hot c = false) :
    d.coolReport e c =
      if (if d.chans[c].cooling then d.clearCooling e c else d).chans[c].state = .tripped ∧
          (if d.chans[c].cooling then d.clearCooling e c else d).chans[c].lastFault = some .overload
      then (if d.chans[c].cooling then d.clearCooling e c else d).retry e c
      else if d.chans[c].cooling then d.clearCooling e c else d :=
  if_neg (ne_true_of_eq_false h)

theorem Drive.modChan_id (d : Drive) (c : Ch) : d.modChan c (fun x => x) = d :=
  congrArg (fun v => { d with chans := v }) (Vector.set_getElem_self _)

theorem Drive.modChan_cooling_false (h : d.chans[c].cooling = false) :
    d.modChan c (fun x => { x with cooling := false }) = d := by
  have hsame : ({ d.chans[c] with cooling := false } : Channel) = d.chans[c] := by rw [← h]
  rw [Drive.modChan, hsame]
  exact d.modChan_id c

/-- The flag of a channel that does not wait for its heat. -/
theorem Drive.cleared_eq (h : d.chans[c].state ≠ .waiting .cooling) (e : Env) :
    (if d.chans[c].cooling then d.clearCooling e c else d) = d.modChan c (fun x => { x with cooling := false }) := by
  split
  · exact Drive.clearCooling_other h e
  · exact (Drive.modChan_cooling_false (Bool.eq_false_iff.2 ‹_›)).symm

theorem Drive.coolReport_waiting (h : e.hot c = false) (hs : d.chans[c].state = .waiting .cooling)
    (hc : d.chans[c].cooling = true) : d.coolReport e c = d.goesOnAs e c { d.chans[c] with cooling := false } := by
  rw [Drive.coolReport_cool h, if_pos hc, Drive.clearCooling_waiting hs]
  exact if_neg fun ht => Drive.goesOnAs_not_tripped _ _ _ _ ht.1

theorem Drive.coolReport_overload (h : e.hot c = false) (hs : d.chans[c].state = .tripped)
    (hf : d.chans[c].lastFault = some .overload) :
    d.coolReport e c = d.goesOnAs e c { d.chans[c] with cooling := false, retryTimer := none } := by
  rw [Drive.coolReport_cool h, Drive.cleared_eq (by rw [hs]; decide), Drive.modChan_self, if_pos ⟨hs, hf⟩,
    Drive.retry_eq, Drive.modChan_self, Drive.goesOnAs, Drive.modChan, Vector.set_set]
  rfl

/-- A channel that neither waits for its heat nor for an OVERLOAD retry has its flag cleared where H is at or below
T_cool. -/
theorem Drive.coolReport_rest (hw : ¬ (d.chans[c].state = .waiting .cooling ∧ d.chans[c].cooling = true))
    (ht : ¬ (d.chans[c].state = .tripped ∧ d.chans[c].lastFault = some .overload)) :
    d.coolReport e c = d.modChan c (fun x => { x with cooling := x.cooling && e.hot c }) := by
  cases hh : e.hot c with
  | true =>
    rw [Drive.coolReport_hot hh]
    simp only [Bool.and_true]
    exact (Drive.modChan_id d c).symm
  | false =>
    have hclear : (if d.chans[c].cooling then d.clearCooling e c else d) =
        d.modChan c (fun x => { x with cooling := x.cooling && false }) := by
      simp only [Bool.and_false]
      by_cases hc : d.chans[c].cooling = true
      · exact Drive.cleared_eq (fun hs => hw ⟨hs, hc⟩) e
      · rw [if_neg hc]
        exact (Drive.modChan_cooling_false (Bool.eq_false_iff.2 hc)).symm
    rw [Drive.coolReport_cool hh, hclear, Drive.modChan_self, if_neg ht]

/-! ### The drive side with the channel rewritten -/

/-- The drive side after stage 6, the channel's record given. -/
def State.sampledAs (s : State) (c : Ch) (sense : Nat) (y : Channel) : Drive :=
  { s.drive with
    chans := s.drive.chans.set c y
    notice := s.drive.notice.afterWarn c s.monitors[c] (takeSample s c sense).monitor }

theorem State.sampledAs_chan (s : State) (c : Ch) (sense : Nat) (y : Channel) :
    (s.sampledAs c sense y).chans[c] = y := Vector.getElem_set_self _

theorem State.sampledAs_modChan (s : State) (c : Ch) (sense : Nat) (y : Channel) (g : Channel → Channel) :
    (s.sampledAs c sense y).modChan c g = s.sampledAs c sense (g y) := by
  rw [Drive.modChan, State.sampledAs_chan]
  exact congrArg (fun v => { s.sampledAs c sense y with chans := v }) (Vector.set_set ..)

theorem State.sampledAs_goesOnAs (s : State) (c : Ch) (sense : Nat) (y z : Channel) (e : Env) :
    (s.sampledAs c sense y).goesOnAs e c z = Drive.passIf e c ((s.sampledAs c sense z).switchOn e c) :=
  congrArg (fun d => Drive.passIf e c (Drive.switchOn d e c)) (s.sampledAs_modChan c sense y (fun _ => z))

/-! ### A completion that finds no trip outside ON -/

/-- The channel with its stall timer at its reload. -/
def State.reloaded (s : State) (c : Ch) : Channel :=
  { s.drive.chans[c] with stallTimer := s.conf.channels[c].stallTime * 10 }

section
variable (hon : s.drive.chans[c].state ≠ .on) (hs : ¬ s.findsShort c sense) (ho : ¬ s.findsOverload c sense)
include hon hs ho

theorem State.stallAfter_notOn : s.stallAfter c sense = (s.conf.channels[c].stallTime * 10, false) := by
  rw [State.stallAfter_noTrip hs ho, stallStep_notOn hon]

/-- Outside ON a completion without a trip reloads the stall timer, and stage 8 follows. -/
theorem sampleCompletion_notOn : sampleCompletion c sense s =
    s.sampled c sense ((s.sampledAs c sense (s.reloaded c)).coolReport (s.sampledEnv c sense) c) := by
  have hstall := State.stallAfter_notOn hon hs ho
  have htrip : (takeSample s c sense).trip = none := by
    rw [takeSample_noTrip hs ho, hstall]
    rfl
  have hdrive : s.sampledDrive c sense = s.sampledAs c sense (s.reloaded c) := by
    rw [State.sampledDrive, hstall]
    rfl
  have hwatch : (s.sampledAs c sense (s.reloaded c)).countsOpen s.conf.channels[c] c = false := by
    rw [Drive.countsOpen, Drive.watchesOpen, State.sampledAs_chan, State.reloaded, decide_eq_false hon, Bool.false_and,
      Bool.false_and]
  rw [sampleCompletion_quiet htrip, hdrive, if_neg (ne_true_of_eq_false hwatch)]

end

theorem State.findsShort_undriven (h : s.drive.chans[c].state.driven = false) : ¬ s.findsShort c sense :=
  fun hs => absurd (h.symm.trans hs.driven) (by decide)

theorem State.findsOverload_undriven (h : s.drive.chans[c].state.driven = false) : ¬ s.findsOverload c sense :=
  fun ho => absurd (h.symm.trans ho.1) (by decide)

theorem ChanState.undriven_ne_on {x : ChanState} (h : x.driven = false) : x ≠ .on := by
  rintro rfl
  cases h

theorem sampleCompletion_undriven (h : s.drive.chans[c].state.driven = false) : sampleCompletion c sense s =
    s.sampled c sense ((s.sampledAs c sense (s.reloaded c)).coolReport (s.sampledEnv c sense) c) :=
  sampleCompletion_notOn (ChanState.undriven_ne_on h) (State.findsShort_undriven h) (State.findsOverload_undriven h)

theorem exec_sampleCompletion_undriven (hrun : s.inReset = false) (h : s.drive.chans[c].state.driven = false) :
    exec (.sampleCompletion c sense) s = .next
      (s.sampled c sense ((s.sampledAs c sense (s.reloaded c)).coolReport (s.sampledEnv c sense) c)) := by
  rw [exec_sampleCompletion, event_running hrun, sampleCompletion_undriven h]

/-! ### The retry and the cooling flag as commands of their own -/

theorem retryTimerExpiry_due {ms : Nat} (hs : s.drive.chans[c].state = .tripped)
    (ht : s.drive.chans[c].retryTimer = some ms) (hms : ms ≤ 1) :
    retryTimerExpiry c s = s.onChannel Drive.retry c :=
  if_pos ⟨hs, expires_iff.2 ⟨ms, ht, hms⟩⟩

theorem Env.hot_eq_false (h : e.monitors[c].heat ≤ 64 * e.conf.channels[c].iRate ^ 2) : e.hot c = false := by
  rw [Env.hot_eq]
  exact decide_eq_false (Nat.not_lt.2 h)

theorem overloadRetry_due (hs : s.drive.chans[c].state = .tripped) (hf : s.drive.chans[c].lastFault = some .overload)
    (hh : s.env.hot c = false) : overloadRetry c s = s.onChannel Drive.retry c :=
  if_pos ⟨hs, hf, hh⟩

theorem coolingFlagClear_due (hc : s.drive.chans[c].cooling = true) (hh : s.env.hot c = false) :
    coolingFlagClear c s = s.onChannel Drive.clearCooling c :=
  if_pos ⟨hc, hh⟩

end

/-- Settles O37: the two events by the switch-on path they begin, the completion by its stage 8. -/
theorem retriesAndCooling : Obligations.RetriesAndCooling := by
  intro c sense s hrun x cool goesOn retries
  have hkept : (s.drive.retry s.env c).chans[c].retries = x.retries ∧
      (s.drive.retry s.env c).chans[c].lastFault = x.lastFault := s.drive.goesOnAs_keeps s.env c _
  refine ⟨fun ms hs ht hms => ⟨s.onChannel Drive.retry c, ?timer, rfl, hkept⟩,
    fun hs hf hcool => ⟨s.onChannel Drive.retry c, ?overload, rfl, hkept⟩,
    fun hflag hcool => ⟨fun hs => ?waiting, fun hs => ?clears⟩, fun hd hcool => ?completion⟩
  case timer => rw [exec_retryTimerExpiry, event_running hrun, retryTimerExpiry_due hs ht hms]
  case overload =>
    rw [exec_overloadRetry, event_running hrun, overloadRetry_due hs hf (Env.hot_eq_false hcool)]
  case waiting =>
    rw [exec_coolingFlagClear, event_running hrun, coolingFlagClear_due hflag (Env.hot_eq_false hcool),
      State.onChannel, Drive.clearCooling_waiting hs]
    rfl
  case clears =>
    rw [exec_coolingFlagClear, event_running hrun, coolingFlagClear_due hflag (Env.hot_eq_false hcool),
      State.onChannel, Drive.clearCooling_other hs]
    rfl
  case completion =>
    have hhot : (s.sampledEnv c sense).hot c = false := by
      rw [State.sampledEnv_hot]
      exact decide_eq_false (Nat.not_lt.2 hcool)
    refine ⟨_, exec_sampleCompletion_undriven hrun hd, State.sampled_eq s c sense _, ?_⟩
    rw [State.sampled_monitor]
    refine ⟨fun hs hf => ?overload, fun hs hc => ?waiting, fun hno hnw => ?rest⟩
    case overload =>
      refine (Drive.coolReport_overload hhot ?_ ?_).trans ?_
      · rw [State.sampledAs_chan]; exact hs
      · rw [State.sampledAs_chan]; exact hf
      · rw [State.sampledAs_chan, State.sampledAs_goesOnAs]; rfl
    case waiting =>
      refine (Drive.coolReport_waiting hhot ?_ ?_).trans ?_
      · rw [State.sampledAs_chan]; exact hs
      · rw [State.sampledAs_chan]; exact hc
      · rw [State.sampledAs_chan, State.sampledAs_goesOnAs]; rfl
    case rest =>
      refine (Drive.coolReport_rest ?_ ?_).trans ?_
      · rw [State.sampledAs_chan]; exact hnw
      · rw [State.sampledAs_chan]; exact hno
      · rw [State.sampledAs_modChan, hhot, Bool.and_false]; rfl

end Sys2Proof.Machine
end

section
/-!
PROOFS. What every sample completion leaves of the monitor and of the Notice Unit (R84 to R90).
-/

namespace Sys2Proof.Machine

/-! ### The Notice Unit only grows (R159) -/

/-- What is pending in one Notice Unit is pending in the other. -/
structure Notice.Within (n n' : Notice) : Prop where
  kinds   : ∀ i, n.kinds.getLsbD i = true → n'.kinds.getLsbD i = true
  changed : ∀ i, n.changed.getLsbD i = true → n'.changed.getLsbD i = true
  warn    : ∀ i, n.warn.getLsbD i = true → n'.warn.getLsbD i = true

section
variable {n n' n'' : Notice} {d d' : Drive} {e : Env} {c : Ch} {s : State} {sense : Nat}

theorem Notice.Within.refl (n : Notice) : n.Within n := ⟨fun _ h => h, fun _ h => h, fun _ h => h⟩

theorem Notice.Within.of_eq (h : n' = n) : n.Within n' := h ▸ .refl n

theorem Notice.Within.trans (h : n.Within n') (h' : n'.Within n'') : n.Within n'' :=
  ⟨fun i hi => h'.kinds i (h.kinds i hi), fun i hi => h'.changed i (h.changed i hi),
    fun i hi => h'.warn i (h.warn i hi)⟩

theorem Notice.within_or (n : Notice) (kinds : KindSet) (changed warn openSet : ChSet) :
    n.Within { n with kinds := n.kinds ||| kinds, changed := n.changed ||| changed, warn := n.warn ||| warn,
                      openSet := openSet } :=
  ⟨fun i hi => by simp [hi], fun i hi => by simp [hi], fun i hi => by simp [hi]⟩

theorem Drive.setKind_within (d : Drive) (k : NoticeKind) : d.notice.Within (d.setKind k).notice :=
  ⟨fun i hi => by simp [hi], fun _ hi => hi, fun _ hi => hi⟩

theorem Drive.noteChanged_within (d : Drive) (c : Ch) : d.notice.Within (d.noteChanged c).notice :=
  ⟨fun i hi => by simp [hi], fun i hi => by simp [hi], fun _ hi => hi⟩

theorem Drive.noteOpen_within (d : Drive) (c : Ch) : d.notice.Within (d.noteOpen c).notice :=
  ⟨fun i hi => by simp [hi], fun i hi => by simp [hi], fun _ hi => hi⟩

theorem Drive.shed_within (d : Drive) (e : Env) (v : Ch) (cause : ShedCause) :
    d.notice.Within (d.shed e v cause).notice := by
  refine Notice.Within.trans (.of_eq ?_) (Drive.noteChanged_within _ v)
  simp only [Drive.joinQueue_notice, Drive.modChan_notice, Drive.undrive_notice]

theorem Drive.visitFrom_within (d : Drive) (selection : ChSet) (start : Nat) :
    d.notice.Within (d.visitFrom selection start).notice := by
  unfold Drive.visitFrom
  split
  · exact .refl _
  · exact Drive.setKind_within _ .check

theorem Drive.abandonTest_within (d : Drive) (c : Ch) : d.notice.Within (d.abandonTest c).notice := by
  unfold Drive.abandonTest
  split
  · exact .refl _
  · split
    · exact Drive.visitFrom_within ..
    · exact .refl _

theorem Drive.letIn_within (d : Drive) (e : Env) (x : Entry) : d.notice.Within (d.letIn e x).notice := by
  unfold Drive.letIn
  split
  · rw [Drive.admitFresh_notice]
    exact Notice.Within.trans (.of_eq (Drive.startInrush_notice ..)) (Drive.abandonTest_within _ x.ch)
  · exact .of_eq (Drive.admitUpgrade_notice ..)

theorem Drive.pass_within (d : Drive) (e : Env) (f : Fin 3) : d.notice.Within (d.pass e f).notice :=
  Drive.pass_induct (P := fun d' => d.notice.Within d'.notice)
    (fun d' v _ hd _ _ _ => hd.trans (d'.shed_within e v .budget)) (fun d' x hd _ _ _ => hd.trans (d'.letIn_within e x))
    d (.refl _)

theorem Drive.passIf_within (e : Env) (c : Ch) (r : Drive × Bool) : r.1.notice.Within (Drive.passIf e c r).notice := by
  unfold Drive.passIf
  split
  · exact Drive.pass_within ..
  · exact .refl _

theorem Drive.goesOnAs_within (d : Drive) (e : Env) (c : Ch) (y : Channel) :
    d.notice.Within (d.goesOnAs e c y).notice := by
  refine Notice.Within.trans (.of_eq ?_) (Drive.passIf_within e c _)
  rw [Drive.switchOn_notice]

theorem Drive.clearCooling_within (d : Drive) (e : Env) (c : Ch) : d.notice.Within (d.clearCooling e c).notice := by
  by_cases h : d.chans[c].state = .waiting .cooling
  · rw [Drive.clearCooling_waiting h]
    exact d.goesOnAs_within e c _
  · rw [Drive.clearCooling_other h]
    exact .refl _

theorem Drive.coolReport_within (d : Drive) (e : Env) (c : Ch) : d.notice.Within (d.coolReport e c).notice := by
  have hclear : d.notice.Within (if d.chans[c].cooling then d.clearCooling e c else d).notice := by
    split
    · exact d.clearCooling_within e c
    · exact .refl _
  cases hh : e.hot c with
  | true => rw [Drive.coolReport_hot hh]; exact .refl _
  | false =>
    rw [Drive.coolReport_cool hh]
    generalize (if d.chans[c].cooling then d.clearCooling e c else d) = d' at hclear ⊢
    split
    · exact hclear.trans (Drive.goesOnAs_within d' e c _)
    · exact hclear

theorem Drive.tripOff_notice (d : Drive) (e : Env) (c : Ch) (kind : FaultKind) :
    (d.tripOff e c kind).notice = (d.noteChanged c).notice := by
  unfold Drive.tripOff
  dsimp only
  split <;> simp

theorem Drive.trip_within (d : Drive) (e : Env) (c : Ch) (kind : FaultKind) :
    d.notice.Within (d.trip e c kind).notice := by
  rw [Drive.trip_eq]
  refine Notice.Within.trans ?_ (Drive.pass_within _ e _)
  rw [Drive.tripOff_notice]
  exact d.noteChanged_within c

theorem Drive.openStage_within (d : Drive) (c : Ch) (below : Bool) : d.notice.Within (d.openStage c below).notice := by
  unfold Drive.openStage
  dsimp only
  split
  · exact .refl _
  split
  · exact .refl _
  split
  · exact Drive.noteOpen_within _ c
  · exact .refl _

/-- What stands noted after stage 6 stands noted after the completion. -/
theorem sampleCompletion_within (s : State) (c : Ch) (sense : Nat) :
    (s.sampledDrive c sense).notice.Within (sampleCompletion c sense s).drive.notice := by
  cases ht : (takeSample s c sense).trip with
  | some kind =>
    rw [sampleCompletion_trips ht]
    exact (Drive.trip_within _ _ c kind).trans (Drive.coolReport_within _ _ c)
  | none =>
    rw [sampleCompletion_quiet ht]
    refine Notice.Within.trans ?_ (Drive.coolReport_within _ _ c)
    split
    · exact Drive.openStage_within ..
    · exact .refl _

theorem Notice.afterWarn_noted (n : Notice) {before after : Monitor} (hb : before.warn = false)
    (ha : after.warn = true) : (n.afterWarn c before after).kinds.getLsbD 2 = true ∧
      (n.afterWarn c before after).warn.getLsbD c.val = true := by
  rw [Notice.afterWarn, if_pos ⟨hb, ha⟩]
  simp

/-! ### H and the warn flag (R86, R90) -/

/-- H never passes its target, and moves unless it stands there. -/
theorem State.heatAfter_between (s : State) (c : Ch) (sense : Nat) :
    min s.monitors[c].heat (s.heatTarget c sense) ≤ s.heatAfter c sense ∧
    s.heatAfter c sense ≤ max s.monitors[c].heat (s.heatTarget c sense) ∧
    (s.monitors[c].heat ≠ s.heatTarget c sense → s.heatAfter c sense ≠ s.monitors[c].heat) := by
  unfold State.heatAfter
  dsimp only
  generalize s.monitors[c].heat = m
  generalize s.heatTarget c sense = x
  have hup := Nat.div_le_self (x - m) (2 ^ s.conf.channels[c].k)
  have hdown := Nat.div_le_self (m - x) (2 ^ s.conf.channels[c].k)
  split
  · omega
  · split <;> omega

theorem warnAfter_iff {cfg : ChannelConfig} {warn : Bool} {heat : Nat} :
    warnAfter cfg warn heat = true ↔
      (if warn then 64 * cfg.iRate ^ 2 ≤ heat else 192 * cfg.iRate ^ 2 ≤ heat) := by
  unfold warnAfter tCool tWarn
  rw [pow_two, Nat.mul_comm 64, Nat.mul_comm 192]
  cases warn <;> simp

theorem sampleCompletion_sampled (s : State) (c : Ch) (sense : Nat) :
    sampleCompletion c sense s = s.sampled c sense (sampleCompletion c sense s).drive := rfl

theorem sampleCompletion_monitor (s : State) (c : Ch) (sense : Nat) :
    (sampleCompletion c sense s).monitors[c] = (takeSample s c sense).monitor := by
  rw [sampleCompletion_sampled]
  exact State.sampled_monitor ..

end

/-- Settles O39: the monitor from stages 1 to 5, the notice by what the later stages keep, the two quiet completions by
stage 8. -/
theorem sampleUpdatesMonitor : Obligations.SampleUpdatesMonitor := by
  intro c sense s hrun m cfg h x
  obtain ⟨hmin, hmax, hmoves⟩ := s.heatAfter_between c sense
  refine ⟨sampleCompletion c sense s, by rw [exec_sampleCompletion, event_running hrun], ?_⟩
  have hm := sampleCompletion_monitor s c sense
  refine ⟨?eq, ?heat, hmin, hmax, hmoves, ?lastI, ?warn, fun hb ha => ?noted, ?quiet⟩
  case eq =>
    have := State.sampled_eq s c sense (sampleCompletion c sense s).drive
    rwa [← sampleCompletion_sampled] at this
  case heat => rw [hm, takeSample_heat]
  case lastI => rw [hm, takeSample_lastI]
  case warn => rw [hm, takeSample_warn, warnAfter_iff]
  case noted =>
    rw [hm] at ha
    obtain ⟨hk, hw⟩ := Notice.afterWarn_noted s.drive.notice hb ha
    have hin := sampleCompletion_within s c sense
    exact ⟨hin.kinds 2 hk, hin.warn c.val hw⟩
  case quiet =>
    intro y put
    have hput (z : Channel) : s.sampledAs c sense z = put z := by
      rw [State.sampledAs, ← hm]
    have hrest (hw : ¬ (y.state = .waiting .cooling ∧ y.cooling = true))
        (ht : ¬ (y.state = .tripped ∧ y.lastFault = some .overload)) :
        (s.sampledAs c sense y).coolReport (s.sampledEnv c sense) c =
          put { y with cooling := y.cooling && decide (64 * cfg.iRate ^ 2 < h) } := by
      have hchan := s.sampledAs_chan c sense y
      rw [Drive.coolReport_rest (by rw [hchan]; exact hw) (by rw [hchan]; exact ht), State.sampledAs_modChan,
        State.sampledEnv_hot, hput]
    refine ⟨fun hd hor => ?undriven, fun hi hs ho => ?inrush⟩
    case undriven =>
      have hdrive : (sampleCompletion c sense s).drive =
          (s.sampledAs c sense y).coolReport (s.sampledEnv c sense) c := by
        rw [sampleCompletion_undriven hd]; rfl
      rw [hdrive]
      rcases hor with ⟨hc, ht⟩ | hhot
      · rw [hrest (fun hw => absurd (hc.symm.trans hw.2) (by decide)) ht, hc, Bool.false_and, ← hc]
      · rw [Drive.coolReport_hot (by rw [State.sampledEnv_hot]; exact decide_eq_true hhot), hput]
    case inrush =>
      have hdrive : (sampleCompletion c sense s).drive =
          (s.sampledAs c sense y).coolReport (s.sampledEnv c sense) c := by
        rw [sampleCompletion_notOn (fun hon => by rw [hi] at hon; cases hon) hs ho]; rfl
      rw [hdrive, hrest (fun hw => by rw [hi] at hw; cases hw.1) (fun ht => by rw [hi] at ht; cases ht.1)]

end Sys2Proof.Machine
end

section
/-!
SUPPORT. A trip, and a completion that ends in one (R66, R67, R89, R93 to R95).
-/

namespace Sys2Proof.Machine

theorem exec_stallTimerExpiry (c : Ch) (s : State) :
    exec (.stallTimerExpiry c) s = .next (event (stallTimerExpiry c) s) := rfl

section
variable {d : Drive} {e : Env} {c : Ch} {kind : FaultKind} {p : PairNo}

/-! ### The trip's own change (R66) -/

theorem Drive.tripOff_pairs_retries (h : d.chans[c].retries < (e.cfg c).retryLimit) :
    (d.tripOff e c kind).pairs = d.pairs := by
  unfold Drive.tripOff
  dsimp only
  rw [decide_eq_true h]
  simp

theorem Drive.tripOff_pairs_latched (h : (e.cfg c).retryLimit ≤ d.chans[c].retries) :
    (d.tripOff e c kind).pairs = (d.releasePair e c).pairs := by
  unfold Drive.tripOff
  dsimp only
  rw [decide_eq_false (Nat.not_lt.2 h), if_neg Bool.false_ne_true]
  exact Drive.releasePair_pairs_congr ((Drive.modChan_pairs ..).trans (Drive.undrive_pairs ..)) e c

theorem Drive.tripOff_feed_at (d : Drive) (e : Env) (c : Ch) (kind : FaultKind) (g : Fin 3) :
    (d.tripOff e c kind).feeds[g] =
      if g = e.feedOf c then d.feeds[e.feedOf c].without c d.chans[c].reservation else d.feeds[g] := by
  have hfeeds : ∃ t, (d.tripOff e c kind).feeds = (d.undrive e c t).feeds := by
    unfold Drive.tripOff
    dsimp only
    split
    · exact ⟨_, rfl⟩
    · exact ⟨_, by rw [Drive.noteChanged_feeds, Drive.releasePair_feeds, Drive.modChan_feeds]⟩
  obtain ⟨t, ht⟩ := hfeeds
  rw [ht, Drive.undrive_feed_at]
  split
  · subst g; rfl
  · rfl

theorem Drive.tripOff_follows (d : Drive) (e : Env) (c : Ch) (kind : FaultKind) :
    (d.tripOff e c kind).FlashFollows e.conf d.flash := by
  refine (Drive.undrive_follows (d := d) rfl e c
    (if d.chans[c].retries < (e.cfg c).retryLimit then .tripped else .latched)).of_members (fun c' => ?_)
    (d.tripOff_flash e c kind)
  rw [Drive.tripOff_chan_at, Drive.undrive_chan_at]
  split
  · exact ⟨rfl, rfl, rfl⟩
  · exact ⟨rfl, rfl, rfl⟩

theorem Drive.tripOff_switchedOff (d : Drive) (e : Env) (c : Ch) (kind : FaultKind) :
    d.SwitchedOff e.conf c (d.chans[c].afterTrip (e.cfg c).retryLimit kind) (d.tripOff e c kind) :=
  .of_parts (d.tripOff_chan_at e c · kind) (d.tripOff_feed_at e c kind) (d.tripOff_check e c kind)
    (d.tripOff_follows e c kind)

theorem Drive.trip_chan (d : Drive) (e : Env) (c : Ch) (kind : FaultKind) :
    (d.trip e c kind).chans[c] = d.chans[c].afterTrip (e.cfg c).retryLimit kind :=
  (d.tripOff_switchedOff e c kind).pass_chan e

theorem Drive.trip_pairs (d : Drive) (e : Env) (c : Ch) (kind : FaultKind) :
    (d.trip e c kind).pairs = (d.tripOff e c kind).pairs := Drive.pass_pairs ..

theorem Drive.trip_pair_kept (hw : PairsWellFormed e.conf.pairs)
    (h : d.chans[c].retries < (e.cfg c).retryLimit ∨ ¬ d.Holds e.conf p c) :
    (d.trip e c kind).pairs[p] = d.pairs[p] := by
  rw [Drive.trip_pairs]
  by_cases hr : d.chans[c].retries < (e.cfg c).retryLimit
  · rw [Drive.tripOff_pairs_retries hr]
  · rw [Drive.tripOff_pairs_latched (Nat.not_lt.1 hr), Drive.releasePair_kept hw (h.resolve_left hr)]

theorem Drive.trip_pair_released (hw : PairsWellFormed e.conf.pairs)
    (hr : (e.cfg c).retryLimit ≤ d.chans[c].retries) (h : d.Holds e.conf p c) :
    (d.trip e c kind).pairs[p] = ⟨.none, some 50⟩ := by
  rw [Drive.trip_pairs, Drive.tripOff_pairs_latched hr, Drive.releasePair_held hw h]

theorem Drive.trip_noted (d : Drive) (e : Env) (c : Ch) (kind : FaultKind) :
    (d.trip e c kind).notice.kinds.getLsbD 0 = true ∧ (d.trip e c kind).notice.changed.getLsbD c.val = true := by
  have hin := Drive.pass_within (d.tripOff e c kind) e (e.feedOf c)
  rw [Drive.tripOff_notice, ← Drive.trip_eq] at hin
  exact ⟨hin.kinds 0 (by simp [kindBit]), hin.changed c.val (by simp [chBit])⟩

/-! ### Stage 8 after a trip (R92) -/

theorem Drive.modChan_congr {g g' : Channel → Channel} (h : g d.chans[c] = g' d.chans[c]) :
    d.modChan c g = d.modChan c g' := by
  rw [Drive.modChan, h]
  rfl

theorem Channel.afterTrip_state (x : Channel) (limit : Nat) (kind : FaultKind) :
    (x.afterTrip limit kind).state = if x.retries < limit then .tripped else .latched := rfl

theorem Drive.coolReport_tripped (hk : kind ≠ .overload) :
    (d.trip e c kind).coolReport e c =
      (d.trip e c kind).modChan c (fun x => { x with cooling := d.chans[c].cooling && e.hot c }) := by
  have hchan := d.trip_chan e c kind
  rw [Drive.coolReport_rest]
  · refine Drive.modChan_congr ?_
    rw [hchan]
    rfl
  · rw [hchan, Channel.afterTrip_state]
    rintro ⟨hw, _⟩
    split at hw <;> cases hw
  · rw [hchan]
    rintro ⟨_, hf⟩
    exact hk (Option.some.inj hf)

theorem Drive.trip_cooling (d : Drive) (e : Env) (c : Ch) (kind : FaultKind) :
    (d.trip e c kind).modChan c (fun x => { x with cooling := d.chans[c].cooling }) = d.trip e c kind := by
  have hchan := d.trip_chan e c kind
  refine (Drive.modChan_congr (g' := fun x => x) ?_).trans (Drive.modChan_id _ c)
  rw [hchan]
  rfl

end

/-! ### The drive side that a trip finds -/

section
variable {s : State} {c : Ch} {sense stall : Nat} {kind : FaultKind} {n : Notice}

/-- The drive side when the trip is taken: the stall timer moved, a warn flag being set noted. -/
def State.tripping (s : State) (c : Ch) (stall : Nat) (n : Notice) : Drive :=
  { s.drive with chans := s.drive.chans.set c { s.drive.chans[c] with stallTimer := stall }, notice := n }

theorem State.tripping_chan (s : State) (c : Ch) (stall : Nat) (n : Notice) :
    (s.tripping c stall n).chans[c] = { s.drive.chans[c] with stallTimer := stall } := Vector.getElem_set_self _

theorem State.sampledDrive_tripping (s : State) (c : Ch) (sense : Nat) :
    s.sampledDrive c sense = s.tripping c (s.stallAfter c sense).1
      (s.drive.notice.afterWarn c s.monitors[c] (takeSample s c sense).monitor) := rfl

/-- Seen from the part before the event, the channel is switched off as it is from there. -/
theorem State.tripping_switchedOff (s : State) (c : Ch) (kind : FaultKind) (stall : Nat) (n : Notice)
    (e : Env) (he : e.conf = s.conf) :
    s.drive.SwitchedOff s.conf c
      { s.drive.chans[c].afterTrip s.conf.channels[c].retryLimit kind with stallTimer := stall }
      ((s.tripping c stall n).tripOff e c kind) := by
  have hoff := (s.tripping c stall n).tripOff_switchedOff e c kind
  have hchan := s.tripping_chan c stall n
  rw [← he]
  refine .of_parts (fun c' => ?_) (fun g => ?_) (Drive.tripOff_check ..) ?_
  · rw [hoff.chan_at, hchan, Env.cfg, he]
    split
    · rfl
    · rename_i hc
      exact (vector_set_at _ _ _ _).trans (if_neg hc)
  · rw [Drive.tripOff_feed_at, hchan]
    rfl
  · exact hoff.2

/-- The drive side after a trip and stage 8. -/
def State.tripEnds (s : State) (c : Ch) (kind : FaultKind) (cooling : Bool) (stall : Nat) (n : Notice) (e : Env) :
    Drive :=
  ((s.tripping c stall n).trip e c kind).modChan c (fun x => { x with cooling := cooling })

theorem State.tripEnds_chan (s : State) (c : Ch) (kind : FaultKind) (cooling : Bool) (stall : Nat) (n : Notice)
    (e : Env) : (s.tripEnds c kind cooling stall n e).chans[c] =
      { s.drive.chans[c].afterTrip (e.cfg c).retryLimit kind with cooling := cooling, stallTimer := stall } := by
  rw [State.tripEnds, Drive.modChan_self, Drive.trip_chan, State.tripping_chan]
  rfl

/-- Stage 8 after a SHORT or a STALL: the cooling flag stands where H stays above T_cool. -/
theorem State.coolReport_tripEnds (hk : kind ≠ .overload) (e : Env) :
    ((s.tripping c stall n).trip e c kind).coolReport e c =
      s.tripEnds c kind (s.drive.chans[c].cooling && e.hot c) stall n e := by
  rw [Drive.coolReport_tripped hk, State.tripping_chan]
  rfl

theorem State.trip_tripEnds (s : State) (c : Ch) (kind : FaultKind) (stall : Nat) (n : Notice) (e : Env) :
    (s.tripping c stall n).trip e c kind = s.tripEnds c kind s.drive.chans[c].cooling stall n e := by
  have h := Drive.trip_cooling (s.tripping c stall n) e c kind
  rw [State.tripping_chan] at h
  exact h.symm

/-! ### The completions that trip -/

/-- The stall timer that a SHORT or an OVERLOAD leaves (R95). -/
theorem State.stallAfter_tripFound (h : s.findsShort c sense ∨ s.findsOverload c sense) :
    (s.stallAfter c sense).1 = if s.conf.channels[c].loadType = .motor then s.drive.chans[c].stallTimer
      else s.conf.channels[c].stallTime * 10 := by
  have hfound : (s.shortFound c sense || s.overloadFound c sense) = true :=
    Bool.or_eq_true _ _ ▸ h.imp State.shortFound_iff.2 State.overloadFound_iff.2
  rw [State.stallAfter, hfound]
  split
  · rw [stallStep_tripFound ‹_›]
  · rw [stallStep_noMotor ‹_›]

theorem sampleCompletion_short (h : s.findsShort c sense) :
    sampleCompletion c sense s = s.sampled c sense
      (s.tripEnds c .short
        (s.drive.chans[c].cooling && decide (64 * s.conf.channels[c].iRate ^ 2 < s.heatAfter c sense))
        (s.stallAfter c sense).1 (s.drive.notice.afterWarn c s.monitors[c] (takeSample s c sense).monitor)
        (s.sampledEnv c sense)) := by
  rw [sampleCompletion_trips (takeSample_short h), State.sampledDrive_tripping,
    State.coolReport_tripEnds (by decide), State.sampledEnv_hot]

/-- H at T_trip or above is above T_cool: stage 8 does nothing. -/
theorem sampleCompletion_overload (hr : 1 ≤ s.conf.channels[c].iRate) (h : s.findsOverload c sense) :
    sampleCompletion c sense s = s.sampled c sense
      (s.tripEnds c .overload s.drive.chans[c].cooling (s.stallAfter c sense).1
        (s.drive.notice.afterWarn c s.monitors[c] (takeSample s c sense).monitor) (s.sampledEnv c sense)) := by
  have hhot : (s.sampledEnv c sense).hot c = true := by
    have hpos : 0 < s.conf.channels[c].iRate ^ 2 := Nat.pow_pos hr
    have htrip := h.2.2
    rw [State.sampledEnv_hot]
    exact decide_eq_true (by omega)
  rw [sampleCompletion_trips (takeSample_overload h), State.sampledDrive_tripping, Drive.coolReport_hot hhot,
    State.trip_tripEnds]

section
variable (hs : ¬ s.findsShort c sense) (ho : ¬ s.findsOverload c sense)
  (hm : s.conf.channels[c].loadType = .motor) (hon : s.drive.chans[c].state = .on)
include hs ho hm hon

theorem State.stallAfter_stalling (ht : s.tickOn c = true) (hi : s.conf.channels[c].stallLevel ≤ s.currentAt c sense) :
    s.stallAfter c sense = (s.drive.chans[c].stallTimer - 1, decide (s.drive.chans[c].stallTimer - 1 = 0)) := by
  rw [State.stallAfter_noTrip hs ho, hon, ht, stallStep_stalling hm hi]

theorem sampleCompletion_stall (ht : s.tickOn c = true) (hi : s.conf.channels[c].stallLevel ≤ s.currentAt c sense)
    (htimer : s.drive.chans[c].stallTimer ≤ 1) :
    sampleCompletion c sense s = s.sampled c sense
      (s.tripEnds c .stall
        (s.drive.chans[c].cooling && decide (64 * s.conf.channels[c].iRate ^ 2 < s.heatAfter c sense)) 0
        (s.drive.notice.afterWarn c s.monitors[c] (takeSample s c sense).monitor) (s.sampledEnv c sense)) := by
  have hzero : s.drive.chans[c].stallTimer - 1 = 0 := by omega
  have hstall : s.stallAfter c sense = (0, true) := by
    rw [State.stallAfter_stalling hs ho hm hon ht hi, hzero]
    rfl
  have htrip : (takeSample s c sense).trip = some .stall := by
    rw [takeSample_noTrip hs ho, hstall]
    rfl
  rw [sampleCompletion_trips htrip, State.sampledDrive_tripping, hstall, State.coolReport_tripEnds (by decide),
    State.sampledEnv_hot]

end

theorem stallTimerExpiry_due (hm : s.conf.channels[c].loadType = .motor) (hon : s.drive.chans[c].state = .on)
    (htimer : s.drive.chans[c].stallTimer ≤ 1) :
    stallTimerExpiry c s =
      { s with drive := s.tripEnds c .stall s.drive.chans[c].cooling 0 s.drive.notice s.env } := by
  rw [← State.trip_tripEnds]
  exact if_pos ⟨hm, hon, htimer⟩

/-- A completion that leaves the warn flag as it is notes nothing. -/
theorem Notice.afterWarn_self (n : Notice) (c : Ch) (m : Monitor) : n.afterWarn c m m = n :=
  if_neg fun h => absurd (h.1.symm.trans h.2) (by decide)

end

/-- Settles O41: each kind of trip comes to `State.tripEnds`, of which the parts are read. -/
theorem tripSwitchesOff : Obligations.TripSwitchesOff := by
  intro c sense s hrun hw x cfg holds f trips hot stall
  have htrips (i : Instr) (kind : FaultKind) (cooling : Bool) (stall : Nat) (m : Monitor) (ms : Vector Monitor 16)
      (hms : ms = s.monitors.set c m)
      (hi : i = .stallTimerExpiry c → ms = s.monitors)
      (hexec : exec i s = .next { s with
        monitors := ms
        drive := s.tripEnds c kind cooling stall (s.drive.notice.afterWarn c s.monitors[c] m)
          { s.env with monitors := ms } }) : trips i kind cooling stall := by
    have hm : ms[c] = m := by rw [hms]; exact Vector.getElem_set_self _
    have hchan := s.tripping_chan c stall (s.drive.notice.afterWarn c s.monitors[c] m)
    refine ⟨_, hexec, ?eq, hi, ⟨_, s.tripping_switchedOff c kind stall (s.drive.notice.afterWarn c s.monitors[c] m)
      { s.env with monitors := ms } rfl, (Drive.trip_pairs ..).symm, ?notice, rfl⟩, s.tripEnds_chan c .., ?kinds, ?changed,
      fun p => ⟨fun hk => ?kept, fun hr hh => ?released⟩⟩
    case eq => rw [hm, ← hms]
    case notice => rw [hm]; exact Drive.tripOff_notice ..
    case kinds => exact (Drive.trip_noted ..).1
    case changed => exact (Drive.trip_noted ..).2
    case kept => exact Drive.trip_pair_kept hw (by rw [hchan]; exact hk)
    case released => exact Drive.trip_pair_released hw (by rw [hchan]; exact hr) hh
  refine ⟨fun hs => ?short, fun hr ho => ?overload, fun hm hon ht => ⟨?expiry, fun hs ho htick hi => ?stall⟩⟩
  case short =>
    refine htrips _ _ _ _ (takeSample s c sense).monitor _ rfl (fun h => by cases h) ?_
    rw [exec_sampleCompletion, event_running hrun, sampleCompletion_short hs, State.stallAfter_tripFound (.inl hs)]
    rfl
  case overload =>
    refine htrips _ _ _ _ (takeSample s c sense).monitor _ rfl (fun h => by cases h) ?_
    rw [exec_sampleCompletion, event_running hrun, sampleCompletion_overload hr ho,
      State.stallAfter_tripFound (.inr ho)]
    rfl
  case stall =>
    refine htrips _ _ _ _ (takeSample s c sense).monitor _ rfl (fun h => by cases h) ?_
    rw [exec_sampleCompletion, event_running hrun, sampleCompletion_stall hs ho hm hon htick hi ht]
    rfl
  case expiry =>
    refine htrips _ _ _ _ s.monitors[c] s.monitors (Vector.set_getElem_self _).symm (fun _ => rfl) ?_
    rw [exec_stallTimerExpiry, event_running hrun, stallTimerExpiry_due hm hon ht, Notice.afterWarn_self]
    rfl

end Sys2Proof.Machine
end

section
/-!
PROOFS. A completion without a trip in ON: the open-load stage (R96, R97), OPEN_FLAG_SET and OPEN_FLAG_CLEAR.
-/

namespace Sys2Proof.Machine

theorem exec_openFlagSet (c : Ch) (s : State) : exec (.openFlagSet c) s = .next (event (openFlagSet c) s) := rfl

theorem exec_openFlagClear (c : Ch) (s : State) :
    exec (.openFlagClear c) s = .next (event (openFlagClear c) s) := rfl

section
variable {d : Drive} {e : Env} {c : Ch} {s : State} {sense : Nat} {cfg : ChannelConfig} {below : Bool} {y : Channel}
  {n : Notice}

/-! ### Stage 7 (R96) -/

theorem Drive.openStage_agrees (h : below = d.chans[c].openFlag) :
    d.openStage c below = d.modChan c (fun x => { x with openCount := 0 }) := if_pos h

theorem Drive.openStage_counts (h : below ≠ d.chans[c].openFlag) (hn : d.chans[c].openCount < 99) :
    d.openStage c below = d.modChan c (fun x => { x with openCount := x.openCount + 1 }) :=
  (if_neg h).trans (if_pos hn)

theorem Drive.openStage_turns (h : below ≠ d.chans[c].openFlag) (hn : 99 ≤ d.chans[c].openCount) :
    d.openStage c below = if below then d.setOpen c else d.clearOpen c :=
  (if_neg h).trans (if_neg (Nat.not_lt.2 hn))

theorem Drive.watchesOpen_iff (hon : d.chans[c].state = .on) : d.watchesOpen cfg c = true ↔ cfg.openLoadLevel ≠ 0 := by
  rw [Drive.watchesOpen, decide_eq_true hon, Bool.true_and, decide_eq_true_iff]

/-- The Notice Unit with the open flag being set noted (R97). -/
def Notice.openNoted (n : Notice) (c : Ch) : Notice :=
  { n with kinds := n.kinds ||| 0x08#8, openSet := n.openSet ||| 1#16 <<< c.val,
           changed := n.changed ||| 1#16 <<< c.val }

/-! ### The drive side with the channel and the Notice Unit given -/

/-- The drive side with a channel rewritten and the Notice Unit given. -/
def Drive.put (d : Drive) (c : Ch) (y : Channel) (n : Notice) : Drive :=
  { d with chans := d.chans.set c y, notice := n }

theorem Drive.put_chan (d : Drive) (c : Ch) (y : Channel) (n : Notice) : (d.put c y n).chans[c] = y :=
  Vector.getElem_set_self _

theorem Drive.put_modChan (d : Drive) (c : Ch) (y : Channel) (n : Notice) (g : Channel → Channel) :
    (d.put c y n).modChan c g = d.put c (g y) n := by
  rw [Drive.modChan, Drive.put_chan]
  exact congrArg (fun v => { d.put c y n with chans := v }) (Vector.set_set ..)

theorem Drive.put_setOpen (d : Drive) (c : Ch) (y : Channel) (n : Notice) :
    (d.put c y n).setOpen c = d.put c { y with openFlag := true, openCount := 0 } (n.openNoted c) := by
  rw [Drive.setOpen, Drive.put_modChan]
  rfl

theorem Drive.put_clearOpen (d : Drive) (c : Ch) (y : Channel) (n : Notice) :
    (d.put c y n).clearOpen c = d.put c { y with openFlag := false, openCount := 0 } n :=
  Drive.put_modChan ..

theorem Drive.put_openStage_agrees (h : below = y.openFlag) (d : Drive) (c : Ch) (n : Notice) :
    (d.put c y n).openStage c below = d.put c { y with openCount := 0 } n :=
  (Drive.openStage_agrees (by rw [Drive.put_chan]; exact h)).trans (Drive.put_modChan ..)

theorem Drive.put_openStage_counts (h : below ≠ y.openFlag) (hn : y.openCount < 99) (d : Drive) (c : Ch) (n : Notice) :
    (d.put c y n).openStage c below = d.put c { y with openCount := y.openCount + 1 } n :=
  (Drive.openStage_counts (by rw [Drive.put_chan]; exact h) (by rw [Drive.put_chan]; exact hn)).trans
    (Drive.put_modChan ..)

/-- The hundredth reading in a row that disagrees turns the flag; a flag being set is noted. -/
theorem Drive.put_openStage_turns (h : below ≠ y.openFlag) (hn : 99 ≤ y.openCount) (d : Drive) (c : Ch) (n : Notice) :
    (d.put c y n).openStage c below =
      d.put c { y with openFlag := below, openCount := 0 } (if below then n.openNoted c else n) := by
  rw [Drive.openStage_turns (by rw [Drive.put_chan]; exact h) (by rw [Drive.put_chan]; exact hn)]
  cases below with
  | true => exact Drive.put_setOpen ..
  | false => exact Drive.put_clearOpen ..

/-- Stage 8 of a channel in ON clears its cooling flag where H stands at or below T_cool. -/
theorem Drive.put_coolReport (hon : y.state = .on) (d : Drive) (e : Env) (c : Ch) (n : Notice) :
    (d.put c y n).coolReport e c = d.put c { y with cooling := y.cooling && e.hot c } n := by
  rw [Drive.coolReport_rest, Drive.put_modChan]
  · rw [Drive.put_chan, hon]
    exact fun h => by cases h.1
  · rw [Drive.put_chan, hon]
    exact fun h => by cases h.1

/-- Stage 7 rewrites the open flag and its counter alone. -/
theorem Drive.put_openStage (d : Drive) (c : Ch) (y : Channel) (n : Notice) (below : Bool) :
    ∃ flag count n', (d.put c y n).openStage c below = d.put c { y with openFlag := flag, openCount := count } n' := by
  unfold Drive.openStage
  dsimp only
  split
  · exact ⟨y.openFlag, 0, n, Drive.put_modChan ..⟩
  split
  · exact ⟨y.openFlag, y.openCount + 1, n, Drive.put_modChan ..⟩
  split
  · exact ⟨true, 0, _, Drive.put_setOpen ..⟩
  · exact ⟨false, 0, n, Drive.put_clearOpen ..⟩

/-! ### The completion -/

/-- The channel after stage 6. -/
def State.stallMoved (s : State) (c : Ch) (sense : Nat) : Channel :=
  { s.drive.chans[c] with stallTimer := (s.stallAfter c sense).1 }

/-- The channel after stage 6, its cooling flag as stage 8 leaves it. -/
def State.keptInOn (s : State) (c : Ch) (sense : Nat) : Channel :=
  { s.drive.chans[c] with
    cooling := s.drive.chans[c].cooling && decide (64 * s.conf.channels[c].iRate ^ 2 < s.heatAfter c sense)
    stallTimer := (s.stallAfter c sense).1 }

/-- The Notice Unit after stage 5. -/
def State.warned (s : State) (c : Ch) (sense : Nat) : Notice :=
  s.drive.notice.afterWarn c s.monitors[c] (takeSample s c sense).monitor

/-- What is counted of a channel in ON at this completion. -/
theorem State.countsOpen_iff (hon : s.drive.chans[c].state = .on) :
    (s.sampledDrive c sense).countsOpen s.conf.channels[c] c = true ↔
      s.tickOn c = true ∧ s.conf.channels[c].openLoadLevel ≠ 0 := by
  have hchan : (s.sampledDrive c sense).chans[c] =
      { s.drive.chans[c] with stallTimer := (s.stallAfter c sense).1 } := Vector.getElem_set_self _
  have htick : (s.sampledDrive c sense).onTick c = s.tickOn c := by
    rw [← State.onTick_eq, Drive.onTick, Drive.onTick, hchan]
    rfl
  rw [Drive.countsOpen, Bool.and_eq_true, htick, Drive.watchesOpen_iff (by rw [hchan]; exact hon), and_comm]

section
variable (hon : s.drive.chans[c].state = .on) (htrip : (takeSample s c sense).trip = none)
include hon htrip

/-- With nothing counted, stage 7 does nothing. -/
theorem sampleCompletion_uncounted (hc : ¬ (s.tickOn c = true ∧ s.conf.channels[c].openLoadLevel ≠ 0)) :
    sampleCompletion c sense s =
      s.sampled c sense (s.drive.put c (s.keptInOn c sense) (s.warned c sense)) := by
  rw [sampleCompletion_quiet htrip, if_neg (mt (State.countsOpen_iff hon).1 hc)]
  refine congrArg (s.sampled c sense) ((Drive.put_coolReport ?_ s.drive _ c _).trans ?_)
  · exact hon
  · rw [State.sampledEnv_hot]
    rfl

/-- A counted reading, by what stage 7 makes of the channel and of the Notice Unit. -/
theorem sampleCompletion_counted (hc : s.tickOn c = true ∧ s.conf.channels[c].openLoadLevel ≠ 0)
    (hstage : (s.drive.put c (s.stallMoved c sense) (s.warned c sense)).openStage c
      (decide (s.currentAt c sense < s.conf.channels[c].openLoadLevel)) = s.drive.put c y n) (hy : y.state = .on) :
    sampleCompletion c sense s = s.sampled c sense (s.drive.put c
      { y with cooling := y.cooling && decide (64 * s.conf.channels[c].iRate ^ 2 < s.heatAfter c sense) } n) := by
  have hdrive : s.sampledDrive c sense = s.drive.put c (s.stallMoved c sense) (s.warned c sense) := rfl
  rw [sampleCompletion_quiet htrip, if_pos ((State.countsOpen_iff hon).2 hc), hdrive, hstage, Drive.put_coolReport hy,
    State.sampledEnv_hot]

/-- Without a trip in ON, the stall timer is what stage 6 makes it. -/
theorem sampleCompletion_stallTimer :
    (sampleCompletion c sense s).drive.chans[c].stallTimer = (s.stallAfter c sense).1 := by
  by_cases hc : s.tickOn c = true ∧ s.conf.channels[c].openLoadLevel ≠ 0
  · obtain ⟨flag, count, n, hstage⟩ := s.drive.put_openStage c (s.stallMoved c sense) (s.warned c sense)
      (decide (s.currentAt c sense < s.conf.channels[c].openLoadLevel))
    rw [sampleCompletion_counted hon htrip hc hstage hon]
    exact congrArg Channel.stallTimer (Drive.put_chan ..)
  · rw [sampleCompletion_uncounted hon htrip hc]
    exact congrArg Channel.stallTimer (Drive.put_chan ..)

end

/-! ### The stall timer in ON (R95) -/

/-- A MOTOR's on-tick at or above the stall level. -/
def State.stallTick (s : State) (c : Ch) (sense : Nat) : Prop :=
  s.conf.channels[c].loadType = .motor ∧ s.tickOn c = true ∧ s.conf.channels[c].stallLevel ≤ s.currentAt c sense

section
variable (hs : ¬ s.findsShort c sense) (ho : ¬ s.findsOverload c sense) (hon : s.drive.chans[c].state = .on)
include hs ho hon

theorem State.stallAfter_tick (h : s.stallTick c sense) :
    s.stallAfter c sense = (s.drive.chans[c].stallTimer - 1, decide (s.drive.chans[c].stallTimer - 1 = 0)) :=
  State.stallAfter_stalling hs ho h.1 hon h.2.1 h.2.2

theorem State.stallAfter_held (hm : s.conf.channels[c].loadType = .motor) (ht : s.tickOn c = false) :
    s.stallAfter c sense = (s.drive.chans[c].stallTimer, false) := by
  rw [State.stallAfter_noTrip hs ho, hon, ht, stallStep_offTick hm]

theorem State.stallAfter_reloads (h : ¬ s.stallTick c sense)
    (ht : ¬ (s.conf.channels[c].loadType = .motor ∧ s.tickOn c = false)) :
    s.stallAfter c sense = (s.conf.channels[c].stallTime * 10, false) := by
  rw [State.stallAfter_noTrip hs ho, hon]
  by_cases hm : s.conf.channels[c].loadType = .motor
  · have htick : s.tickOn c = true := by
      rw [← Bool.not_eq_false]
      exact fun hf => ht ⟨hm, hf⟩
    rw [htick, stallStep_below hm]
    exact Nat.not_le.1 fun hi => h ⟨hm, htick, hi⟩
  · rw [stallStep_noMotor hm]

/-- A stall timer above 1 at a stall tick leaves the completion without a trip. -/
theorem takeSample_quiet (h : s.stallTick c sense → 1 < s.drive.chans[c].stallTimer) :
    (takeSample s c sense).trip = none := by
  have hstall : (s.stallAfter c sense).2 = false := by
    by_cases ht : s.stallTick c sense
    · rw [State.stallAfter_tick hs ho hon ht]
      have := h ht
      exact decide_eq_false (by omega)
    · by_cases hoff : s.conf.channels[c].loadType = .motor ∧ s.tickOn c = false
      · rw [State.stallAfter_held hs ho hon hoff.1 hoff.2]
      · rw [State.stallAfter_reloads hs ho hon ht hoff]
  rw [takeSample_noTrip hs ho, hstall, if_neg Bool.false_ne_true]

end

/-! ### The flag of a complete run (R128) -/

theorem openFlagSet_due (hon : s.drive.chans[c].state = .on) (hl : s.conf.channels[c].openLoadLevel ≠ 0)
    (hf : s.drive.chans[c].openFlag = false) (hn : 99 ≤ s.drive.chans[c].openCount) :
    openFlagSet c s = { s with drive := s.drive.setOpen c } :=
  if_pos ⟨(Drive.watchesOpen_iff hon).2 hl, hf, hn⟩

theorem openFlagClear_due (hon : s.drive.chans[c].state = .on) (hl : s.conf.channels[c].openLoadLevel ≠ 0)
    (hf : s.drive.chans[c].openFlag = true) (hn : 99 ≤ s.drive.chans[c].openCount) :
    openFlagClear c s = { s with drive := s.drive.clearOpen c } :=
  if_pos ⟨(Drive.watchesOpen_iff hon).2 hl, hf, hn⟩

end

/-- Settles O43: the completion by what stage 7 counts, the two events at the hundredth reading. -/
theorem openFlagAfterHundredReadings : Obligations.OpenFlagAfterHundredReadings := by
  intro c sense s hrun hon x cfg stallTick kept counts low put noted
  refine ⟨fun hs ho hstall => ⟨sampleCompletion c sense s, ?exec, ?eq, ?cases⟩,
    fun hl hn => ⟨fun hf => ?sets, fun hf => ?clears⟩⟩
  case exec => rw [exec_sampleCompletion, event_running hrun]
  case eq =>
    have := State.sampled_eq s c sense (sampleCompletion c sense s).drive
    rwa [← sampleCompletion_sampled] at this
  case sets =>
    rw [exec_openFlagSet, event_running hrun, openFlagSet_due hon hl hf hn]
    rfl
  case clears =>
    rw [exec_openFlagClear, event_running hrun, openFlagClear_due hon hl hf hn]
    rfl
  case cases =>
    have htrip := takeSample_quiet hs ho hon hstall
    have htimer : (s.stallAfter c sense).1 = if stallTick then x.stallTimer - 1
        else if cfg.loadType = .motor ∧ s.tickOn c = false then x.stallTimer else cfg.stallTime * 10 := by
      split
      · rw [State.stallAfter_tick hs ho hon ‹_›]
      · split
        · obtain ⟨hm, ht⟩ := ‹cfg.loadType = .motor ∧ s.tickOn c = false›
          rw [State.stallAfter_held hs ho hon hm ht]
        · rw [State.stallAfter_reloads hs ho hon ‹_› ‹_›]
    have hkept : s.keptInOn c sense = kept := by
      rw [State.keptInOn, htimer]
    have hcounted {y : Channel} {n : Notice} := sampleCompletion_counted (y := y) (n := n) hon htrip
    rw [sampleCompletion_monitor]
    refine ⟨fun hno => ?uncounted, fun hc => ⟨fun ha => ?agrees, fun hd hn => ?counts, fun hd hn => ?turns⟩⟩
    case uncounted =>
      rw [sampleCompletion_uncounted hon htrip hno, hkept]
      rfl
    case agrees =>
      rw [hcounted hc (Drive.put_openStage_agrees (y := s.stallMoved c sense) ha ..) hon, ← hkept]
      rfl
    case counts =>
      rw [hcounted hc (Drive.put_openStage_counts (y := s.stallMoved c sense) hd hn ..) hon, ← hkept]
      rfl
    case turns =>
      rw [hcounted hc (Drive.put_openStage_turns (y := s.stallMoved c sense) hd hn ..) hon, ← hkept]
      rfl

end Sys2Proof.Machine
end

section
/-!
PROOFS. The stall timer of a MOTOR channel (R95).
-/

namespace Sys2Proof.Machine

section
variable {d : Drive} {e : Env} {c : Ch} {s : State} {sense : Nat}

/-! ### A reloaded stall timer stays so (R95) -/

/-- The stall timer of the channel stands at its reload. -/
def Drive.Reloaded (d : Drive) (e : Env) (c : Ch) : Prop := d.chans[c].stallTimer = (e.cfg c).stallTime * 10

theorem Drive.Reloaded.modChan {g : Channel → Channel} (h : d.Reloaded e c)
    (hg : (g d.chans[c]).stallTimer = d.chans[c].stallTimer) : (d.modChan c g).Reloaded e c := by
  rw [Drive.Reloaded, Drive.modChan_self, hg]
  exact h

/-- An admission sets the stall timer to its reload, a shed leaves it. -/
theorem Drive.Reloaded.pass (h : d.Reloaded e c) (f : Fin 3) : (d.pass e f).Reloaded e c := by
  refine Drive.pass_induct (P := fun d' => d'.Reloaded e c) (fun d' v _ hd _ _ _ => ?shed) (fun d' x hd _ _ _ => ?letIn) d h
  case shed =>
    rw [Drive.Reloaded, Drive.shed_chan_at]
    split
    · subst c; exact hd
    · exact hd
  case letIn =>
    by_cases hc : c = x.ch
    · subst hc
      unfold Drive.letIn
      split
      · rw [Drive.Reloaded, Drive.admitFresh_chan_at, if_pos rfl]
        split <;> rfl
      · rw [Drive.Reloaded, Drive.admitUpgrade_chan_at, if_pos rfl]
        exact hd
    · rw [Drive.Reloaded, Drive.letIn_chan_ne d' e x hc]
      exact hd

theorem Drive.goesOnAs_reloaded {y : Channel} (hy : y.stallTimer = (e.cfg c).stallTime * 10) (d : Drive) :
    (d.goesOnAs e c y).Reloaded e c := by
  obtain ⟨w, hw⟩ := Drive.switchOn_chan_at { d with chans := d.chans.set c y } e c
  have hchan : ({ d with chans := d.chans.set c y } : Drive).chans[c] = y := Vector.getElem_set_self _
  have hon : (Drive.switchOn { d with chans := d.chans.set c y } e c).1.Reloaded e c := by
    rw [Drive.Reloaded, hw, if_pos rfl, hchan]
    exact hy
  exact Drive.passIf_induct (P := fun d' => d'.Reloaded e c)
    (r := Drive.switchOn { d with chans := d.chans.set c y } e c) (fun _ f hd => hd.pass f) c hon

theorem Drive.Reloaded.coolReport (h : d.Reloaded e c) : (d.coolReport e c).Reloaded e c := by
  have hclear : (if d.chans[c].cooling then d.clearCooling e c else d).Reloaded e c := by
    split
    · by_cases hs : d.chans[c].state = .waiting .cooling
      · rw [Drive.clearCooling_waiting hs]
        refine Drive.goesOnAs_reloaded ?_ d
        exact h
      · rw [Drive.clearCooling_other hs]
        exact h.modChan rfl
    · exact h
  cases hh : e.hot c with
  | true => rw [Drive.coolReport_hot hh]; exact h
  | false =>
    rw [Drive.coolReport_cool hh]
    generalize (if d.chans[c].cooling then d.clearCooling e c else d) = d' at hclear ⊢
    split
    · refine Drive.goesOnAs_reloaded ?_ d'
      exact hclear
    · exact hclear

theorem sampleCompletion_reloads (hon : s.drive.chans[c].state ≠ .on) (hs : ¬ s.findsShort c sense)
    (ho : ¬ s.findsOverload c sense) :
    (sampleCompletion c sense s).drive.chans[c].stallTimer = s.conf.channels[c].stallTime * 10 := by
  have hstart : (s.sampledAs c sense (s.reloaded c)).Reloaded (s.sampledEnv c sense) c := by
    rw [Drive.Reloaded, State.sampledAs_chan]
    rfl
  rw [sampleCompletion_notOn hon hs ho]
  exact hstart.coolReport

end

/-- Settles O42: by the state, the tick and the level; a timer at 1 ends in a STALL. -/
theorem stallTimerCountsStallTicks : Obligations.StallTimerCountsStallTicks := by
  intro c sense s hrun hm hs ho x cfg timer
  refine ⟨sampleCompletion c sense s, by rw [exec_sampleCompletion, event_running hrun],
    fun hon => sampleCompletion_reloads hon hs ho,
    fun hon => ⟨fun ht => ?offTick, fun ht hi => ?below, fun ht hi => ?stalling⟩⟩
  case offTick =>
    have hno : ¬ s.stallTick c sense := fun h => absurd (ht.symm.trans h.2.1) (by decide)
    rw [sampleCompletion_stallTimer hon (takeSample_quiet hs ho hon fun h => absurd h hno),
      State.stallAfter_held hs ho hon hm ht]
  case below =>
    have hno : ¬ s.stallTick c sense := fun h => Nat.not_le.2 hi h.2.2
    have hon' : ¬ (s.conf.channels[c].loadType = .motor ∧ s.tickOn c = false) :=
      fun h => absurd (ht.symm.trans h.2) (by decide)
    rw [sampleCompletion_stallTimer hon (takeSample_quiet hs ho hon fun h => absurd h hno),
      State.stallAfter_reloads hs ho hon hno hon']
  case stalling =>
    by_cases htimer : timer ≤ 1
    · have hchan : (sampleCompletion c sense s).drive.chans[c] = _ :=
        (congrArg (fun t : State => t.drive.chans[c]) (sampleCompletion_stall hs ho hm hon ht hi htimer)).trans
          (State.tripEnds_chan ..)
      rw [hchan]
      exact ⟨(Nat.sub_eq_zero_of_le htimer).symm, fun _ => ⟨rfl, rfl⟩⟩
    · rw [sampleCompletion_stallTimer hon (takeSample_quiet hs ho hon fun _ => Nat.not_le.1 htimer),
        State.stallAfter_tick hs ho hon ⟨hm, ht, hi⟩]
      exact ⟨rfl, fun h => absurd h htimer⟩

end Sys2Proof.Machine
end

section
/-!
PROOFS. What a line's record becomes (R133, R134), the readings of a line (R131, R132), READ LINE (R136) and BIND LINE
(R135).
-/

namespace Sys2Proof.Machine

theorem exec_lineReading (n : LineNo) (high : Bool) (s : State) :
    exec (.lineReading n high) s = .next (event (lineReading n high) s) := rfl

theorem exec_debounceChange (n : LineNo) (s : State) :
    exec (.debounceChange n) s = .next (event (debounceChange n) s) := rfl

theorem exec_readLine (h : Header) (line : Byte) (s : State) :
    exec (.readLine h line) s = .next (reading .readLine h (lineAnswer line) s) := rfl

theorem exec_bindLine (h : Header) (line enabled polarity load : Byte) (level : LevelParam) (cls : Byte) (s : State) :
    exec (.bindLine h line enabled polarity load level cls) s =
      .next (request .bindLine h (unlessStoring (bindLineBody line enabled polarity load level cls)) s) := rfl

section
variable {s t : State} {n : LineNo} {y : Handle} {r : Record}

/-! ### A record freed -/

theorem State.freeRecord_records (s : State) (y : Handle) : (s.freeRecord y).records = s.records.set y .free :=
  vector_eq_set fun m => s.freeRecord_record_at y m

/-- A LIVE record leaves its list, and no list else changes. -/
theorem State.freeRecord_list_at (s : State) (y : Handle) (c : Ch) :
    (s.freeRecord y).lists[c] =
      if s.records[y].liveOn c then s.lists[c].filter (fun z => z ≠ y) else s.lists[c] := by
  cases hr : s.records[y] with
  | free => rw [State.freeRecord_free hr]; rfl
  | lapsed d grace => rw [State.freeRecord_lapsed hr]; rfl
  | live d time =>
    rw [State.freeRecord_live hr]
    refine (vector_set_at ..).trans ?_
    by_cases hc : c = d.channel
    · subst hc
      rw [if_pos rfl, if_pos (show (Record.live d time).liveOn d.channel = true from decide_eq_true rfl)]
      rfl
    · rw [if_neg hc, if_neg (show ¬ (Record.live d time).liveOn c = true from fun hl => hc (of_decide_eq_true hl).symm)]
      rfl

/-! ### The line's record -/

/-- The demand of a bound line (R133). -/
def State.lineDemand (s : State) (n : LineNo) : Demand :=
  { owner := 11, load := s.conf.bindings[n].load, channel := s.conf.loads[s.conf.bindings[n].load].channel,
    level := s.conf.bindings[n].level, cls := s.conf.bindings[n].cls, hold := 0 }

/-- The record of a line under its binding and its level (R134). -/
def State.lineRecord (s : State) (n : LineNo) : Record :=
  if s.conf.bindings[n].enabled = true ∧ s.active n = true then .live (s.lineDemand n) none else .free

theorem State.refreshLine_eq_if (s : State) (n : LineNo) :
    s.refreshLine n =
      if s.conf.bindings[n].enabled = true ∧ s.active n = true then
        ((s.freeRecord (lineHandle n)).makeLive (lineHandle n) (s.lineDemand n) none).raiseHeld 11
      else s.freeRecord (lineHandle n) := by
  unfold State.refreshLine State.active State.lineDemand
  obtain ⟨r, m, l, h⟩ := s.freeRecord_eq (lineHandle n)
  simp only [h]

theorem State.refreshLine_live (h : s.conf.bindings[n].enabled = true ∧ s.active n = true) :
    s.refreshLine n =
      ((s.freeRecord (lineHandle n)).makeLive (lineHandle n) (s.lineDemand n) none).raiseHeld 11 :=
  s.refreshLine_eq_if n |>.trans (if_pos h)

theorem State.refreshLine_free (h : ¬ (s.conf.bindings[n].enabled = true ∧ s.active n = true)) :
    s.refreshLine n = s.freeRecord (lineHandle n) :=
  s.refreshLine_eq_if n |>.trans (if_neg h)

theorem State.refreshLine_records (s : State) (n : LineNo) :
    (s.refreshLine n).records = s.records.set (lineHandle n) (s.lineRecord n) := by
  unfold State.lineRecord
  split
  · rw [State.refreshLine_live ‹_›]
    show (s.freeRecord (lineHandle n)).records.set (lineHandle n) _ = _
    rw [State.freeRecord_records, Vector.set_set]
  · rw [State.refreshLine_free ‹_›, State.freeRecord_records]

/-- `State.LineRecordBecomes` by the part with the old record freed. -/
theorem State.lineRecordBecomes_of (hrec : t.records = s.records.set (lineHandle n) r)
    (hlive : ∀ d time, r = .live d time →
      InsertedInClass t.records d.cls (lineHandle n) (s.freeRecord (lineHandle n)).lists[d.channel]
        t.lists[d.channel] ∧
      (∀ c : Ch, c ≠ d.channel → t.lists[c] = (s.freeRecord (lineHandle n)).lists[c]) ∧
      t.held = ((s.freeRecord (lineHandle n)).raiseHeld 11).held)
    (hfree : r = .free → (∀ c : Ch, t.lists[c] = (s.freeRecord (lineHandle n)).lists[c]) ∧
      t.held = (s.freeRecord (lineHandle n)).held) : s.LineRecordBecomes t n r := by
  unfold State.LineRecordBecomes
  intro y old without held
  have hlists (c : Ch) : (s.freeRecord y).lists[c] = without c := s.freeRecord_list_at y c
  have hheld : (s.freeRecord y).held = held := by
    simp only [held, old]
    split
    · rename_i hr; rw [State.freeRecord_free hr]
    · rename_i hr; rw [State.freeRecord_live hr]; rfl
    · rename_i hr; rw [State.freeRecord_lapsed hr]; rfl
  refine ⟨hrec, fun d time hr => ?_, fun hr => ?_⟩
  · obtain ⟨hin, hother, hraise⟩ := hlive d time hr
    refine ⟨hlists d.channel ▸ hin, fun c hc => (hother c hc).trans (hlists c), ?_⟩
    rw [hraise, ← hheld]
    rfl
  · obtain ⟨hall, hsame⟩ := hfree hr
    exact ⟨fun c => (hall c).trans (hlists c), hsame.trans hheld⟩

theorem State.settleLine_becomes (s : State) (n : LineNo) :
    s.LineRecordBecomes (s.settleLine n) n (s.lineRecord n) := by
  refine State.lineRecordBecomes_of (s.refreshLine_records n) (fun d time hr => ?live) (fun hr => ?free)
  case live =>
    have h : s.conf.bindings[n].enabled = true ∧ s.active n = true := by
      by_contra h
      rw [State.lineRecord, if_neg h] at hr
      cases hr
    rw [State.lineRecord, if_pos h] at hr
    obtain ⟨rfl, rfl⟩ := Record.live.inj hr
    show InsertedInClass (s.refreshLine n).records _ _ _ (s.refreshLine n).lists[_] ∧
      (∀ c : Ch, _ → (s.refreshLine n).lists[c] = _) ∧ (s.refreshLine n).held = _
    rw [State.refreshLine_live h]
    exact ⟨State.makeLive_insertedInClass .., fun c hc => State.makeLive_lists_ne _ _ _ hc, rfl⟩
  case free =>
    have h : ¬ (s.conf.bindings[n].enabled = true ∧ s.active n = true) := by
      intro h
      rw [State.lineRecord, if_pos h] at hr
      cases hr
    show (∀ c : Ch, (s.refreshLine n).lists[c] = _) ∧ (s.refreshLine n).held = _
    rw [State.refreshLine_free h]
    exact ⟨fun _ => rfl, rfl⟩

theorem Record.liveChannel_contains (r : Record) (c : Ch) : r.liveChannel.contains c = r.liveOn c := by
  cases r with
  | live d time => simp [Record.liveChannel, Record.liveOn, eq_comm]
  | free => rfl
  | lapsed d grace => rfl

/-- The channels whose lists the record leaves or joins take the pairs of their winners (R42, R43). -/
theorem State.settleLine_followed (s : State) (n : LineNo) :
    (s.settleLine n).Follows s.drive (allChans.filter (fun c =>
      s.records[lineHandle n].liveOn c || (s.settleLine n).records[lineHandle n].liveOn c)) := by
  have hdrive : (s.refreshLine n).drive = s.drive := by
    obtain ⟨_, _, _, h⟩ := s.refreshLine_eq n
    rw [h]
  have hfollows := (s.refreshLine n).handOver_follows (allChans.filter (fun c =>
    s.records[lineHandle n].liveOn c || (s.refreshLine n).records[lineHandle n].liveOn c))
  have hsettle : s.settleLine n = (s.refreshLine n).handOver (allChans.filter (fun c =>
      s.records[lineHandle n].liveOn c || (s.refreshLine n).records[lineHandle n].liveOn c)) := by
    simp only [State.settleLine, Record.liveChannel_contains]
  rw [hdrive, ← hsettle] at hfollows
  exact hfollows

/-! ### Readings (R131, R132) -/

/-- The part with a line's filter given. -/
def State.withLine (s : State) (n : LineNo) (x : Line) : State := { s with lines := s.lines.set n x }

theorem State.withLine_active (s : State) (n : LineNo) (x : Line) :
    (s.withLine n x).active n = (x.debounced == decide (s.conf.bindings[n].polarity = .activeHigh)) := by
  have hx : (s.withLine n x).lines[n] = x := Vector.getElem_set_self _
  rw [State.active, hx]
  rfl

theorem lineReading_agrees {high : Bool} (h : high = s.lines[n].debounced) :
    lineReading n high s = s.withLine n { s.lines[n] with counter := 20 } := if_pos h

theorem lineReading_counts {high : Bool} (h : high ≠ s.lines[n].debounced) (hc : 1 < s.lines[n].counter) :
    lineReading n high s = s.withLine n { s.lines[n] with counter := s.lines[n].counter - 1 } :=
  (if_neg h).trans (if_pos hc)

theorem lineReading_changes {high : Bool} (h : high ≠ s.lines[n].debounced) (hc : s.lines[n].counter ≤ 1) :
    lineReading n high s =
      if s.conf.bindings[n].enabled then (s.withLine n ⟨high, 20⟩).settleLine n else s.withLine n ⟨high, 20⟩ :=
  (if_neg h).trans (if_neg (Nat.not_lt.2 hc))

theorem debounceChange_due (hc : s.lines[n].counter ≤ 1) :
    debounceChange n s = lineReading n (!s.lines[n].debounced) s := if_pos hc

/-! ### What is shown of a line (R135, R136) -/

theorem bindingItems_eq_bindingShown (b : Binding) : bindingItems b = bindingShown b := by
  unfold bindingItems bindingShown
  rw [levelItem_eq_levelShown]
  cases b.polarity <;> rfl

theorem recordCode_eq_recordShown (r : Record) : recordCode r = recordShown r := by
  cases r <;> rfl

theorem bindingShown_length (b : Binding) : (bindingShown b).length = 6 := by
  simp [bindingShown, levelShown_length]

theorem lineAnswer_outOfRange {line : Byte} (hl : 4 ≤ line.toNat) : lineAnswer line s = refuse .badValue := by
  simp only [lineAnswer, lineOf, numOf_of_ge hl]

theorem lineAnswer_line {line : Byte} (hl : line.toNat = n.val) :
    lineAnswer line s = taken (bindingShown s.conf.bindings[n] ++
      [yesShown s.lines[n].debounced, yesShown (s.active n), BitVec.ofNat 8 s.lines[n].counter,
        recordShown s.records[lineHandle n]]) := by
  simp only [lineAnswer, lineOf, numOf_of_lt n hl, bindingItems_eq_bindingShown, recordCode_eq_recordShown]
  rfl

end

/-- Settles O51: the filter by the reading and its counter, the record by `State.settleLine_becomes`. -/
theorem lineReadingsAndRecord : Obligations.LineReadingsAndRecord := by
  intro n high h line s l b activeAt put changes
  have hchanges (i : Instr) (level : Bool)
      (hexec : exec i s = .next (if b.enabled then (s.withLine n ⟨level, 20⟩).settleLine n
        else s.withLine n ⟨level, 20⟩)) : changes i level := by
    refine ⟨fun hb => ?unbound, fun hb => ⟨(s.withLine n ⟨level, 20⟩).settleLine n, ?exec, ?eq, ?becomes,
      (s.withLine n ⟨level, 20⟩).settleLine_followed n⟩⟩
    case unbound => rw [hexec, if_neg (ne_true_of_eq_false hb)]; rfl
    case exec => rw [hexec, if_pos hb]
    case eq =>
      obtain ⟨_, _, _, _, hs⟩ := (s.withLine n ⟨level, 20⟩).settleLine_eq n
      rw [hs]
      rfl
    case becomes =>
      have hrecord : (s.withLine n ⟨level, 20⟩).lineRecord n =
          if activeAt level then .live (s.lineDemand n) none else .free := by
        rw [State.lineRecord, State.withLine_active]
        by_cases ha : activeAt level = true
        · rw [if_pos ha]; exact if_pos ⟨hb, ha⟩
        · rw [if_neg ha]; exact if_neg fun h => ha h.2
      have hbecomes := (s.withLine n ⟨level, 20⟩).settleLine_becomes n
      rw [hrecord] at hbecomes
      exact hbecomes
  refine ⟨fun hrun => ⟨fun ha => ?agrees, fun hd hc => ?counts, fun hc => ⟨fun hd => hchanges _ _ ?reading,
    hchanges _ _ ?debounce⟩⟩, fun a => ⟨fun hl => ?refused, fun hl => ?shown⟩⟩
  case agrees => rw [exec_lineReading, event_running hrun, lineReading_agrees ha]; rfl
  case counts => rw [exec_lineReading, event_running hrun, lineReading_counts hd hc]; rfl
  case reading => rw [exec_lineReading, event_running hrun, lineReading_changes hd hc]
  case debounce =>
    rw [exec_debounceChange, event_running hrun, debounceChange_due hc, lineReading_changes (Bool.not_ne_self _) hc]
  case refused => exact congrArg Host.Outcome.next (reading_refuses a rfl (lineAnswer_outOfRange hl))
  case shown =>
    exact congrArg Host.Outcome.next (reading_takes a rfl (by simp [bindingShown_length]) (lineAnswer_line hl))

end Sys2Proof.Machine
end

section
/-!
PROOFS. BIND LINE (R135): its checks in order, the binding that it writes, and the answer.
-/

namespace Sys2Proof.Machine

section
variable {s : State} {n : LineNo} {l : LoadNo} {line enabled polarity load cls : Byte} {level : LevelParam}
  {pol : Polarity} {status : Status} {b : Binding}

/-! ### The fields (R135, R153) -/

theorem polarityOf_of_gt (h : 1 < polarity.toNat) : polarityOf polarity = none := by
  have h0 : polarity ≠ 0x00#8 := by rintro rfl; revert h; decide
  have h1 : polarity ≠ 0x01#8 := by rintro rfl; revert h; decide
  simp only [polarityOf, if_neg h0, if_neg h1]

theorem levelAfterClamp_eq_flash (p : LevelParam) : levelAfterClamp p = .flash ↔ p.mode = 0x02#8 := by
  unfold levelAfterClamp
  constructor
  · intro h
    split_ifs at h
    assumption
  · intro h
    simp [h]

/-- FLASH is refused on a channel that is no configured LAMP (R135). -/
theorem flashRefused_iff (cfg : ChannelConfig) (p : LevelParam) :
    flashRefused cfg (levelAfterClamp p) = true ↔
      p.mode = 0x02#8 ∧ (cfg.configured = false ∨ cfg.loadType ≠ .lamp) := by
  rw [flashRefused, Bool.and_eq_true, decide_eq_true_iff, levelAfterClamp_eq_flash, Bool.not_eq_true',
    Bool.and_eq_false_iff, decide_eq_false_iff_not]

theorem bindingOf_disabled (h : enabled = 0#8) :
    bindingOf s n enabled load pol level cls =
      .ok { s.conf.bindings[n] with enabled := false, polarity := pol } :=
  if_neg fun hy => yes_eq_true.1 hy h

theorem bindingOf_noLoad (h : enabled ≠ 0#8) (hl : 32 ≤ load.toNat) :
    bindingOf s n enabled load pol level cls = .error .noLoad := by
  simp only [bindingOf, if_pos (yes_eq_true.2 h), loadOf, numOf_of_ge hl]

theorem bindingOf_unmapped (h : enabled ≠ 0#8) (hl : load.toNat = l.val) (hm : s.conf.loads[l].enabled = false) :
    bindingOf s n enabled load pol level cls = .error .noLoad := by
  simp only [bindingOf, if_pos (yes_eq_true.2 h), loadOf, numOf_of_lt l hl]
  exact if_pos hm

/-- The value checks of an enabled binding, past its load (R135 checks 4 and 5). -/
def BadBinding (cfg : ChannelConfig) (level : LevelParam) (cls : Byte) : Prop :=
  3 < level.mode.toNat ∨ 3 < cls.toNat ∨
  (level.mode = 0x03#8 ∧ (level.duty = 0x00#8 ∨ 63 < level.duty.toNat)) ∨
  (level.mode = 0x02#8 ∧ (cfg.configured = false ∨ cfg.loadType ≠ .lamp))

section
variable (h : enabled ≠ 0#8) (hl : load.toNat = l.val) (hm : s.conf.loads[l].enabled = true)
include h hl hm

/-- Past the load, the level and the class decide. -/
theorem bindingOf_mapped :
    bindingOf s n enabled load pol level cls =
      match exactLevel level, clsOf cls with
      | some lvl, some k =>
        if flashRefused s.conf.channels[s.conf.loads[l].channel] lvl then .error .badValue
        else .ok { enabled := true, polarity := pol, load := l, level := lvl, cls := k }
      | _, _ => .error .badValue := by
  simp only [bindingOf, if_pos (yes_eq_true.2 h), loadOf, numOf_of_lt l hl]
  exact if_neg (ne_false_of_eq_true hm)

theorem bindingOf_bad (hb : BadBinding s.conf.channels[s.conf.loads[l].channel] level cls) :
    bindingOf s n enabled load pol level cls = .error .badValue := by
  rw [bindingOf_mapped h hl hm]
  cases hx : exactLevel level with
  | none => rfl
  | some lvl =>
    cases hk : clsOf cls with
    | none => rfl
    | some k =>
      rw [exactLevel_eq] at hx
      split at hx
      · cases hx
      · rename_i hvalue
        cases hx
        rw [clsOf_eq] at hk
        split at hk <;> [skip; cases hk]
        refine if_pos ((flashRefused_iff _ level).2 ?_)
        obtain hmode | hcls | ⟨hdim, hduty⟩ | hflash := hb
        · exact absurd (.inl hmode) hvalue
        · omega
        · exact absurd (.inr ⟨hdim, hduty⟩) hvalue
        · exact hflash

theorem bindingOf_good (hb : ¬ BadBinding s.conf.channels[s.conf.loads[l].channel] level cls) :
    bindingOf s n enabled load pol level cls =
      .ok { enabled := true, polarity := pol, load := l, level := levelAfterClamp level,
            cls := Fin.ofNat 4 cls.toNat } := by
  obtain ⟨hmode, hcls, hduty, hflash⟩ : ¬ 3 < level.mode.toNat ∧ ¬ 3 < cls.toNat ∧
      ¬ (level.mode = 0x03#8 ∧ (level.duty = 0x00#8 ∨ 63 < level.duty.toNat)) ∧
      ¬ (level.mode = 0x02#8 ∧ (s.conf.channels[s.conf.loads[l].channel].configured = false ∨
        s.conf.channels[s.conf.loads[l].channel].loadType ≠ .lamp)) := by
    simpa only [BadBinding, not_or] using hb
  have hx : exactLevel level = some (levelAfterClamp level) := by
    rw [exactLevel_eq, if_neg]
    exact not_or.2 ⟨hmode, hduty⟩
  have hk : clsOf cls = some (Fin.ofNat 4 cls.toNat) :=
    numOf_of_lt _ (Nat.mod_eq_of_lt (by omega)).symm
  rw [bindingOf_mapped h hl hm, hx, hk]
  exact if_neg (mt (flashRefused_iff _ level).1 hflash)

end

/-! ### The body -/

theorem bindLineBody_badValue (h : 4 ≤ line.toNat ∨ 1 < polarity.toNat) :
    bindLineBody line enabled polarity load level cls s = (s, refuse .badValue) := by
  unfold bindLineBody
  rcases h with h | h
  · rw [lineOf, numOf_of_ge h]
  · rw [polarityOf_of_gt h]
    cases lineOf line with
    | none => rfl
    | some n => rfl

theorem bindLineBody_refuses (hl : line.toNat = n.val) (hp : polarityOf polarity = some pol)
    (hb : bindingOf s n enabled load pol level cls = .error status) :
    bindLineBody line enabled polarity load level cls s = (s, refuse status) := by
  simp only [bindLineBody, lineOf, numOf_of_lt n hl, hp, hb]

/-- The part with a line's binding given. -/
def State.withBinding (s : State) (n : LineNo) (b : Binding) : State :=
  { s with conf := { s.conf with bindings := s.conf.bindings.set n b } }

theorem State.withBinding_binding (s : State) (n : LineNo) (b : Binding) :
    (s.withBinding n b).conf.bindings[n] = b := Vector.getElem_set_self _

theorem State.withBinding_active (s : State) (n : LineNo) (b : Binding) :
    (s.withBinding n b).active n = (s.lines[n].debounced == decide (b.polarity = .activeHigh)) := by
  rw [State.active, State.withBinding_binding]
  rfl

theorem State.withBinding_lineRecord (s : State) (n : LineNo) (b : Binding) :
    (s.withBinding n b).lineRecord n =
      if b.enabled = true ∧ (s.lines[n].debounced == decide (b.polarity = .activeHigh)) = true then
        .live { owner := 11, load := b.load, channel := s.conf.loads[b.load].channel, level := b.level, cls := b.cls,
                hold := 0 } none
      else .free := by
  rw [State.lineRecord, State.lineDemand, State.withBinding_active]
  simp only [State.withBinding_binding]
  rfl

/-- What a line's record, the lists and the drive side take up; nothing else of the part changes. -/
theorem State.settleLine_shape (s : State) (n : LineNo) :
    s.settleLine n = { s with
      records := s.records.set (lineHandle n) (s.lineRecord n), held := (s.settleLine n).held
      lists := (s.settleLine n).lists, drive := (s.settleLine n).drive } := by
  have hrecords : (s.settleLine n).records = s.records.set (lineHandle n) (s.lineRecord n) := s.refreshLine_records n
  obtain ⟨_, _, _, _, hs⟩ := s.settleLine_eq n
  rw [hs] at hrecords ⊢
  rw [← hrecords]

theorem State.settleLine_record_self (s : State) (n : LineNo) :
    (s.settleLine n).records[lineHandle n] = s.lineRecord n := by
  rw [State.settleLine_record_at, State.refreshLine_records]
  exact Vector.getElem_set_self _

theorem bindLineBody_binds (hl : line.toNat = n.val) (hp : polarityOf polarity = some pol)
    (hb : bindingOf s n enabled load pol level cls = .ok b) :
    bindLineBody line enabled polarity load level cls s =
      ((s.withBinding n b).settleLine n, taken (boundItems ((s.withBinding n b).settleLine n) n)) := by
  simp only [bindLineBody, lineOf, numOf_of_lt n hl, hp, hb]
  rfl

theorem boundItems_settled (s : State) (n : LineNo) (b : Binding) :
    boundItems ((s.withBinding n b).settleLine n) n =
      bindingShown b ++ [yesShown s.lines[n].debounced,
        yesShown (s.lines[n].debounced == decide (b.polarity = .activeHigh)),
        recordShown ((s.withBinding n b).lineRecord n)] := by
  have hrec := (s.withBinding n b).settleLine_record_self n
  obtain ⟨_, _, _, _, hs⟩ := (s.withBinding n b).settleLine_eq n
  have hconf : ((s.withBinding n b).settleLine n).conf.bindings[n] = b := by
    rw [hs]; exact s.withBinding_binding n b
  have hactive : ((s.withBinding n b).settleLine n).active n = (s.withBinding n b).active n := by rw [hs]; rfl
  have hlines : ((s.withBinding n b).settleLine n).lines = s.lines := by rw [hs]; rfl
  rw [boundItems, bindingItems_eq_bindingShown, recordCode_eq_recordShown, hrec, hconf, hactive, hlines,
    State.withBinding_active]
  rfl

end

/-- Settles O52: the checks by the fields, the record by `State.settleLine_becomes` under the new binding. -/
theorem bindLineMovesRecord : Obligations.BindLineMovesRecord := by
  intro h line enabled polarity load level cls s a hw refused unmapped badValue bound
  have hrefused {status : Status}
      (hb : bindLineBody line enabled polarity load level cls s = (s, refuse status)) : refused status :=
    congrArg Host.Outcome.next (a.unlessStoring_refuses hw hb)
  have hbound {n : LineNo} {pol : Polarity} {b : Binding} (hl : line.toNat = n.val)
      (hp : polarityOf polarity = some pol) (hb : bindingOf s n enabled load pol level cls = .ok b) : bound n b := by
    have hitems := boundItems_settled s n b
    have hbecomes := (s.withBinding n b).settleLine_becomes n
    have hfollows := (s.withBinding n b).settleLine_followed n
    rw [State.settleLine_record_self] at hfollows
    rw [s.withBinding_lineRecord n b] at hitems hbecomes hfollows
    refine ⟨_, congrArg Host.Outcome.next (a.unlessStoring_takes hw (by simp [hitems, bindingShown_length])
      (bindLineBody_binds hl hp hb)), ?eq, hbecomes, hfollows⟩
    have hshape := (s.withBinding n b).settleLine_shape n
    rw [s.withBinding_lineRecord n b] at hshape
    exact (congrArg (fun t : State => t.endFrame _) hshape).trans (by rw [hitems]; rfl)
  refine ⟨fun hbad => hrefused (bindLineBody_badValue hbad), fun n pol hl hp => ?_⟩
  have hpol : polarityOf polarity = some pol := by
    subst hp
    cases pol <;> rfl
  refine ⟨fun hoff => hbound hl hpol (bindingOf_disabled hoff), fun hon hno => ?unmapped,
    fun l hon hload hmapped => ⟨fun hbad => ?bad, fun hgood => ?good⟩⟩
  case unmapped =>
    obtain hge | ⟨l, hload, hm⟩ := hno
    · exact hrefused (bindLineBody_refuses hl hpol (bindingOf_noLoad hon hge))
    · exact hrefused (bindLineBody_refuses hl hpol (bindingOf_unmapped hon hload hm))
  case bad => exact hrefused (bindLineBody_refuses hl hpol (bindingOf_bad hon hload hmapped hbad))
  case good => exact hbound hl hpol (bindingOf_good hon hload hmapped hgood)

end Sys2Proof.Machine
end

section
/-!
SUPPORT. The victims of a shedding (R109, R113): the order in which they are taken from a list, and the sheds of them one
after the other.
-/

namespace Sys2Proof.Machine

/-! ### The victim among a list (R109) -/

/-- The victim order over a rank and a place in the admitted list. -/
def ShedBefore (rank place : Ch → Nat) (a b : Ch) : Prop :=
  rank a < rank b ∨ (rank a = rank b ∧ place b < place a)

section
variable {rank place res res' : Ch → Nat} {l : List Ch} {v c : Ch} {fuel short : Nat}

theorem lastOfLowest_append (rank : Ch → Nat) (l : List Ch) (c : Ch) :
    lastOfLowest rank (l ++ [c]) =
      some ((lastOfLowest rank l).elim c (fun b => if rank c ≤ rank b then c else b)) := by
  unfold lastOfLowest
  rw [List.foldl_append, List.foldl_cons, List.foldl_nil]
  split
  · rename_i h; rw [h]; rfl
  · rename_i b h; rw [h]; exact (apply_ite some _ _ _).symm

/-- The victim comes before every other channel of the list. -/
theorem lastOfLowest_before (hl : l.Pairwise (fun a b => place a < place b)) (hv : lastOfLowest rank l = some v)
    (hc : c ∈ l) (hne : c ≠ v) : ShedBefore rank place v c := by
  induction l using List.reverseRecOn generalizing v c with
  | nil => cases hc
  | append_singleton l x ih =>
    obtain ⟨hl', -, hx⟩ := List.pairwise_append.1 hl
    rw [lastOfLowest_append] at hv
    cases hb : lastOfLowest rank l with
    | none =>
      have hnil : l = [] := by
        by_contra hn
        have := lastOfLowest_isSome (rank := rank) hn
        rw [hb] at this
        cases this
      subst hnil
      rw [hb] at hv
      cases hv
      exact absurd (List.mem_singleton.1 hc) hne
    | some b =>
      rw [hb] at hv
      have hv : (if rank x ≤ rank b then x else b) = v := Option.some.inj hv
      have hbefore (y : Ch) (hy : y ∈ l) : y = b ∨ ShedBefore rank place b y :=
        (eq_or_ne y b).imp_right (ih hl' hb hy)
      by_cases hle : rank x ≤ rank b
      · obtain rfl : x = v := (if_pos hle).symm.trans hv
        have hy := (List.mem_append.1 hc).resolve_right fun h => hne (List.mem_singleton.1 h)
        have hplace := hx c hy x (List.mem_singleton_self x)
        obtain rfl | hlt | ⟨heq, -⟩ := hbefore c hy
        · rcases Nat.lt_or_eq_of_le hle with h | h
          · exact .inl h
          · exact .inr ⟨h, hplace⟩
        · exact .inl (by omega)
        · rcases Nat.lt_or_eq_of_le hle with h | h
          · exact .inl (by omega)
          · exact .inr ⟨by omega, hplace⟩
      · obtain rfl : b = v := (if_neg hle).symm.trans hv
        rcases List.mem_append.1 hc with hy | hy
        · exact (hbefore c hy).resolve_left hne
        · rw [List.mem_singleton.1 hy]
          exact .inl (Nat.not_le.1 hle)

/-! ### The victims, one after the other -/

/-- The victims that a shedding takes from a list, `short` being still to be released. -/
def victimsOf (rank res : Ch → Nat) : Nat → Nat → List Ch → List Ch
  | 0, _, _ => []
  | fuel + 1, short, l =>
      if short = 0 then []
      else match lastOfLowest rank l with
        | none => []
        | some v => v :: victimsOf rank res fuel (short - res v) (l.filter (fun z => z ≠ v))

theorem victimsOf_enough (rank res : Ch → Nat) (fuel : Nat) (l : List Ch) : victimsOf rank res fuel 0 l = [] := by
  cases fuel <;> rfl

theorem victimsOf_nil (rank res : Ch → Nat) (fuel short : Nat) : victimsOf rank res fuel short [] = [] := by
  cases fuel with
  | zero => rfl
  | succ n => exact ite_self _

theorem victimsOf_cons (hs : short ≠ 0) (hv : lastOfLowest rank l = some v) :
    victimsOf rank res (fuel + 1) short l =
      v :: victimsOf rank res fuel (short - res v) (l.filter (fun z => z ≠ v)) := by
  simp only [victimsOf, hv]
  exact if_neg hs

theorem lastOfLowest_of_ne_nil (rank : Ch → Nat) (hl : l ≠ []) : ∃ v ∈ l, lastOfLowest rank l = some v := by
  obtain ⟨v, hv⟩ := Option.isSome_iff_exists.1 (lastOfLowest_isSome (rank := rank) hl)
  exact ⟨v, lastOfLowest_mem hv, hv⟩

theorem length_filter_ne_lt (hv : v ∈ l) : (l.filter (fun z => z ≠ v)).length < l.length :=
  List.length_filter_lt_length_iff_exists.2 ⟨v, hv, by simp⟩

/-- Victims of a list: among it, in the victim order, ahead of what they leave, and no more than are needed. -/
structure VictimsAmong (rank place res : Ch → Nat) (short : Nat) (l victims : List Ch) : Prop where
  among   : ∀ v ∈ victims, v ∈ l
  inOrder : victims.Pairwise (ShedBefore rank place)
  first   : ∀ c ∈ l, c ∉ victims → ∀ v ∈ victims, ShedBefore rank place v c
  noMore  : victims ≠ [] → (victims.dropLast.map res).sum < short

theorem VictimsAmong.none (rank place res : Ch → Nat) (short : Nat) (l : List Ch) :
    VictimsAmong rank place res short l [] :=
  ⟨fun _ h => absurd h List.not_mem_nil, List.Pairwise.nil, fun _ _ _ _ h => absurd h List.not_mem_nil,
    fun h => absurd rfl h⟩

theorem victimsOf_among (hl : l.Pairwise (fun a b => place a < place b)) :
    VictimsAmong rank place res short l (victimsOf rank res fuel short l) := by
  induction fuel generalizing short l with
  | zero => exact .none ..
  | succ fuel ih =>
    by_cases hs : short = 0
    · rw [hs, victimsOf_enough]
      exact .none ..
    by_cases hnil : l = []
    · rw [hnil, victimsOf_nil]
      exact .none ..
    obtain ⟨v, hmem, hv⟩ := lastOfLowest_of_ne_nil rank hnil
    obtain ⟨hsub, hord, hfirst, hmore⟩ := ih (short := short - res v) (hl.filter (fun z => decide (z ≠ v)))
    rw [victimsOf_cons hs hv]
    generalize victimsOf rank res fuel (short - res v) (l.filter (fun z => z ≠ v)) = vs at *
    have hrest (w : Ch) (hw : w ∈ vs) : w ∈ l ∧ w ≠ v := by
      simpa using List.mem_filter.1 (hsub w hw)
    refine ⟨fun w hw => ?among, List.pairwise_cons.2 ⟨fun w hw => ?head, hord⟩, fun c hc hn w hw => ?first,
      fun _ => ?more⟩
    case among =>
      rcases List.mem_cons.1 hw with rfl | hw
      · exact hmem
      · exact (hrest w hw).1
    case head => exact lastOfLowest_before hl hv (hrest w hw).1 (hrest w hw).2
    case first =>
      obtain ⟨hcv, hcvs⟩ := List.ne_and_not_mem_of_not_mem_cons hn
      rcases List.mem_cons.1 hw with rfl | hw
      · exact lastOfLowest_before hl hv hc hcv
      · exact hfirst c (List.mem_filter.2 ⟨hc, decide_eq_true hcv⟩) hcvs w hw
    case more =>
      cases vs with
      | nil => simpa using Nat.pos_of_ne_zero hs
      | cons w vs =>
        have := hmore (List.cons_ne_nil w vs)
        rw [List.dropLast_cons_of_ne_nil (List.cons_ne_nil w vs), List.map_cons, List.sum_cons]
        omega

theorem sum_filter_ne (res : Ch → Nat) (hn : l.Nodup) (hv : v ∈ l) :
    res v + ((l.filter (fun z => z ≠ v)).map res).sum = (l.map res).sum := by
  rw [← List.sum_map_erase res hv, List.Nodup.erase_eq_filter hn v]
  refine congrArg (fun l' => res v + (l'.map res).sum) (List.filter_congr fun z _ => ?_)
  rw [Bool.eq_iff_iff, decide_eq_true_iff, bne_iff_ne]

/-- What the victims release is enough wherever the list holds enough. -/
theorem victimsOf_releases (hn : l.Nodup) (hfuel : l.length ≤ fuel) (hs : short ≤ (l.map res).sum) :
    short ≤ ((victimsOf rank res fuel short l).map res).sum := by
  induction fuel generalizing short l with
  | zero =>
    rw [List.length_eq_zero_iff.1 (Nat.le_zero.1 hfuel)] at hs
    exact hs
  | succ fuel ih =>
    by_cases h0 : short = 0
    · subst h0; exact Nat.zero_le _
    have hnil : l ≠ [] := by
      rintro rfl
      exact h0 (Nat.le_zero.1 hs)
    obtain ⟨v, hmem, hv⟩ := lastOfLowest_of_ne_nil rank hnil
    have hsum := sum_filter_ne res hn hmem
    have hlen := length_filter_ne_lt hmem
    have := ih (short := short - res v) (hn.filter (fun z => decide (z ≠ v))) (by omega) (by omega)
    rw [victimsOf_cons h0 hv, List.map_cons, List.sum_cons]
    omega

/-- The victims do not depend on reservations outside the list. -/
theorem victimsOf_congr (h : ∀ c ∈ l, res' c = res c) :
    victimsOf rank res' fuel short l = victimsOf rank res fuel short l := by
  induction fuel generalizing short l with
  | zero => rfl
  | succ fuel ih =>
    by_cases hs : short = 0
    · rw [hs, victimsOf_enough, victimsOf_enough]
    by_cases hnil : l = []
    · rw [hnil, victimsOf_nil, victimsOf_nil]
    obtain ⟨v, hmem, hv⟩ := lastOfLowest_of_ne_nil rank hnil
    rw [victimsOf_cons hs hv, victimsOf_cons hs hv, h v hmem, ih fun c hc => h c (List.mem_filter.1 hc).1]

end

/-! ### A shed, and sheds one after the other (R65) -/

section
variable {d : Drive} {e : Env} {f : Fin 3} {v c : Ch} {b : Vector Nat 3}

theorem Drive.shed_follows (d : Drive) (e : Env) (v : Ch) (cause : ShedCause) :
    (d.shed e v cause).FlashFollows e.conf d.flash := by
  refine (Drive.undrive_follows (d := d) rfl e v (.waiting .budget)).of_members (fun c => ?_) rfl
  rw [Drive.shed_chan_at, Drive.undrive_chan_at]
  split
  · exact ⟨rfl, rfl, rfl⟩
  · exact ⟨rfl, rfl, rfl⟩

theorem Drive.shed_notice (d : Drive) (e : Env) (v : Ch) (cause : ShedCause) :
    (d.shed e v cause).notice = (d.noteChanged v).notice := by
  simp only [Drive.shed, Drive.noteChanged_notice, Drive.joinQueue_notice, Drive.modChan_notice, Drive.undrive_notice]

theorem Drive.shed_shedOf (d : Drive) (e : Env) (v : Ch) (cause : ShedCause) :
    d.ShedOf e.conf v cause (d.shed e v cause) := by
  have hchans : (d.shed e v cause).chans =
      d.chans.set v { d.chans[v].stopped (.waiting .budget) with lastShed := some cause } :=
    vector_eq_set fun c => d.shed_chan_at e v c cause
  have hfeed (g : Fin 3) := d.shed_feed_at e v cause g
  have hself := (hfeed (e.feedOf v)).trans (if_pos rfl)
  have hfeeds : (d.shed e v cause).feeds = d.feeds.set (e.feedOf v)
      { committed := d.feeds[e.feedOf v].committed - d.chans[v].reservation
        queue := (d.shed e v cause).feeds[e.feedOf v].queue
        admitted := d.feeds[e.feedOf v].admitted.filter (fun y => y ≠ v) } := by
    refine vector_eq_set fun g => ?_
    by_cases hg : g = e.feedOf v
    · subst hg
      rw [if_pos rfl, hself]
    · rw [if_neg hg, hfeed, if_neg hg]
  refine ⟨?eq, ?join, d.shed_follows e v cause⟩
  case eq =>
    have hnotice := d.shed_notice e v cause
    have hpairs := d.shed_pairs e v cause
    have hcheck := d.shed_check e v cause
    generalize d.shed e v cause = d' at *
    obtain ⟨chans, pairs, feeds, flash, check, notice⟩ := d'
    dsimp only at hchans hfeeds hnotice hpairs hcheck ⊢
    rw [hchans, hnotice, hpairs, hcheck]
    exact congrArg (fun z : Vector FeedState 3 => (⟨_, _, z, _, _, _⟩ : Drive)) hfeeds
  case join =>
    show JoinedInClass _ _ _ (d.shed e v cause).feeds[e.feedOf v].queue
    rw [hself]
    exact joinedInClass _ _ _

/-- What a feed has committed is what its admitted channels hold. -/
theorem Drive.FeedsSound.committed_admitted {x : Configuration} (h : d.FeedsSound x) (f : Fin 3) :
    d.feeds[f].committed = (d.feeds[f].admitted.map (fun c => d.chans[c].reservation)).sum := by
  obtain ⟨hnodup, hmem⟩ := h.admitted f
  have hin (c : Ch) (hc : c ∈ d.feeds[f].admitted.toFinset) : d.share x f c = d.chans[c].reservation :=
    if_pos ((hmem c).1 (List.mem_toFinset.1 hc)).1
  have hout (c : Ch) (hc : c ∉ d.feeds[f].admitted.toFinset) : d.share x f c = 0 := by
    by_cases hf : x.channels[c].feed.index = f
    · have hd : d.chans[c].state.driven = false := by
        rw [← Bool.not_eq_true]
        exact fun hd => hc (List.mem_toFinset.2 ((hmem c).2 ⟨hf, hd⟩))
      exact (if_pos hf).trans (h.undriven c hd).2
    · exact if_neg hf
  rw [(h.committed f).1, Drive.reserved_eq_sum, ← List.sum_toFinset _ hnodup,
    ← Finset.sum_subset (Finset.subset_univ d.feeds[f].admitted.toFinset) (fun c _ hc => hout c hc)]
  exact Finset.sum_congr rfl hin

/-! ### The sheds of a preemption and of a lowered budget (R109, R113) -/

theorem Drive.below_shed (hv : e.feedOf v = f) (bound : Nat) (cause : ShedCause) :
    (d.shed e v cause).below f bound = (d.below f bound).filter (fun z => z ≠ v) := by
  have hadmitted : (d.shed e v cause).feeds[f].admitted = d.feeds[f].admitted.filter (fun z => z ≠ v) := by
    rw [Drive.shed_feed_at, if_pos hv.symm]
  simp only [Drive.below, hadmitted, Drive.shed_rank, List.filter_filter, Bool.and_comm]

theorem Drive.shed_reservation_ne (h : c ≠ v) (cause : ShedCause) :
    (d.shed e v cause).chans[c].reservation = d.chans[c].reservation := by
  rw [Drive.shed_chan_at, if_neg h]

theorem Drive.shed_committed (hv : e.feedOf v = f) (cause : ShedCause) :
    (d.shed e v cause).feeds[f].committed = d.feeds[f].committed - d.chans[v].reservation := by
  rw [Drive.shed_feed_at, if_pos hv.symm]

/-- The victims that a shed leaves are those that stood behind the one shed. -/
theorem Drive.victimsOf_shed (hv : e.feedOf v = f) (bound fuel short : Nat) (cause : ShedCause) :
    victimsOf (fun c => (d.shed e v cause).chans[c].rank) (fun c => (d.shed e v cause).chans[c].reservation) fuel short
        ((d.shed e v cause).below f bound) =
      victimsOf (fun c => d.chans[c].rank) (fun c => d.chans[c].reservation) fuel short
        ((d.below f bound).filter (fun z => z ≠ v)) := by
  rw [Drive.below_shed hv, victimsOf_congr (res := fun c => d.chans[c].reservation)]
  · simp only [Drive.shed_rank]
  · intro c hc
    exact Drive.shed_reservation_ne (of_decide_eq_true (List.mem_filter.1 hc).2) cause

theorem Drive.mem_below {bound : Nat} (h : v ∈ d.below f bound) : v ∈ d.feeds[f].admitted ∧ d.chans[v].rank < bound :=
  (List.mem_filter.1 h).imp_right of_decide_eq_true

/-- A shed frees what the channel held. -/
theorem Drive.FeedsSound.shed_free (h : d.FeedsSound e.conf) (cause : ShedCause) (hv : v ∈ d.feeds[f].admitted) :
    (d.shed e v cause).free e f = d.free e f + d.chans[v].reservation := by
  have hon : e.feedOf v = f := (((h.admitted f).2 v).1 hv).1
  have hbudget := (h.committed f).2
  have hle : d.chans[v].reservation ≤ d.feeds[f].committed := by
    have := h.reservation_le v
    subst hon
    exact this
  rw [Drive.free, Drive.free, Drive.shed_committed hon]
  omega

/-- A preemption sheds the victims of the channels below its class (R109). -/
theorem Drive.shedFor_sheds (h : d.FeedsSound e.conf) (f : Fin 3) (bound need fuel : Nat) :
    Drive.ShedsOf e.conf .budget (victimsOf (fun c => d.chans[c].rank) (fun c => d.chans[c].reservation) fuel
      (need - d.free e f) (d.below f bound)) d (Drive.shedFor e f bound need fuel d) := by
  induction fuel generalizing d with
  | zero => rfl
  | succ fuel ih =>
    by_cases hfree : need ≤ d.free e f
    · rw [Nat.sub_eq_zero_of_le hfree, victimsOf_enough]
      exact if_pos hfree
    by_cases hnil : d.below f bound = []
    · rw [hnil, victimsOf_nil, Drive.shedFor, if_neg hfree, hnil]
      rfl
    obtain ⟨v, hmem, hv⟩ := lastOfLowest_of_ne_nil (fun c => d.chans[c].rank) hnil
    obtain ⟨hadm, -⟩ := Drive.mem_below hmem
    have hon : e.feedOf v = f := (((h.admitted f).2 v).1 hadm).1
    have hshort : need - (d.shed e v .budget).free e f = need - d.free e f - d.chans[v].reservation := by
      rw [h.shed_free .budget hadm]
      exact Nat.sub_add_eq ..
    have hstep : Drive.shedFor e f bound need (fuel + 1) d =
        Drive.shedFor e f bound need fuel (d.shed e v .budget) := by
      simp only [Drive.shedFor, if_neg hfree, hv]
    rw [victimsOf_cons (Nat.sub_ne_zero_of_lt (Nat.not_le.1 hfree)) hv, hstep]
    have hrest := ih (h.shed_admitted .budget hadm).1
    rw [Drive.victimsOf_shed hon, hshort] at hrest
    exact ⟨_, d.shed_shedOf e v .budget, hrest⟩

theorem Channel.rank_lt_four (x : Channel) : x.rank < 4 := by
  unfold Channel.rank
  split
  · exact Nat.zero_lt_succ 3
  · exact Fin.isLt _

theorem Drive.below_four (d : Drive) (f : Fin 3) : d.below f 4 = d.feeds[f].admitted :=
  List.filter_eq_self.2 fun c _ => decide_eq_true d.chans[c].rank_lt_four

/-- A lowered budget sheds the victims of the whole admitted list (R113); the old budgets have no part in it. -/
theorem Drive.shedDown_sheds (h : d.FeedsSound (e.withBudgets b).conf) (f : Fin 3) (fuel : Nat) :
    Drive.ShedsOf e.conf .budget (victimsOf (fun c => d.chans[c].rank) (fun c => d.chans[c].reservation) fuel
      (d.feeds[f].committed - e.conf.budgets[f]) (d.below f 4)) d (Drive.shedDown e f fuel d) := by
  induction fuel generalizing d with
  | zero => rfl
  | succ fuel ih =>
    by_cases hfit : d.feeds[f].committed ≤ e.conf.budgets[f]
    · rw [Nat.sub_eq_zero_of_le hfit, victimsOf_enough]
      exact if_pos hfit
    by_cases hnil : d.below f 4 = []
    · rw [hnil, victimsOf_nil, Drive.shedDown, if_neg hfit, ← Drive.below_four, hnil]
      rfl
    obtain ⟨v, hmem, hv⟩ := lastOfLowest_of_ne_nil (fun c => d.chans[c].rank) hnil
    obtain ⟨hadm, -⟩ := Drive.mem_below hmem
    have hon : e.feedOf v = f := (((h.admitted f).2 v).1 hadm).1
    have hstep : Drive.shedDown e f (fuel + 1) d = Drive.shedDown e f fuel (d.shed e v .budget) := by
      rw [Drive.below_four] at hv
      simp only [Drive.shedDown, if_neg hfit, hv]
    rw [victimsOf_cons (Nat.sub_ne_zero_of_lt (Nat.not_le.1 hfit)) hv, hstep]
    have hrest := ih (h.shed_admitted .budget hadm).1
    rw [Drive.shed_withBudgets, Drive.victimsOf_shed hon, Drive.shed_committed hon, Nat.sub_right_comm] at hrest
    exact ⟨_, d.shed_shedOf e v .budget, hrest⟩

/-- Along an admitted list its places rise. -/
theorem places_rise {l : List Ch} (hn : l.Nodup) : l.Pairwise (fun x y => l.idxOf x < l.idxOf y) := by
  rw [List.pairwise_iff_getElem]
  intro i j hi hj hij
  rw [hn.idxOf_getElem i hi, hn.idxOf_getElem j hj]
  exact hij

/-- The victims that a shedding takes from the channels below a class are the first in the victim order (R109). -/
theorem Drive.FeedsSound.victimsFor {x : Configuration} (h : d.FeedsSound x) (f : Fin 3) {bound short : Nat}
    (hs : short ≤ ((d.below f bound).map (fun c => d.chans[c].reservation)).sum) :
    d.VictimsFor f bound short (victimsOf (fun c => d.chans[c].rank) (fun c => d.chans[c].reservation)
      d.feeds[f].admitted.length short (d.below f bound)) := by
  obtain ⟨hnodup, -⟩ := h.admitted f
  have hspec := victimsOf_among (rank := fun c => d.chans[c].rank) (res := fun c => d.chans[c].reservation)
    (place := fun c => d.feeds[f].admitted.idxOf c) (fuel := d.feeds[f].admitted.length) (short := short)
    ((places_rise hnodup).filter (fun c => decide (d.chans[c].rank < bound)))
  exact {
    among := fun v hv => Drive.mem_below (hspec.among v hv)
    inOrder := hspec.inOrder
    first := fun c hc hr hn => hspec.first c (List.mem_filter.2 ⟨hc, decide_eq_true hr⟩) hn
    enough := victimsOf_releases (hnodup.filter _) (List.length_filter_le _ _) hs
    noMore := hspec.noMore }

end
end Sys2Proof.Machine
end

section
/-!
PROOFS. SET BUDGET and SET SUPPLY LIMITS (R112, R113, R119).
-/

namespace Sys2Proof.Machine

theorem exec_setBudget (h : Header) (feed : Byte) (budget : Word16) (s : State) :
    exec (.setBudget h feed budget) s = .next (request .setBudget h (unlessStoring (setBudgetBody feed budget)) s) := rfl

theorem exec_setSupplyLimits (h : Header) (uv recovery : Word16) (s : State) :
    exec (.setSupplyLimits h uv recovery) s =
      .next (request .setSupplyLimits h (unlessStoring (setSupplyLimitsBody uv recovery)) s) := rfl

section
variable {s : State} {d d' : Drive} {e : Env} {f : Fin 3} {c : Ch} {b : Vector Nat 3} {feed : Byte} {budget : Word16}
  {x : Configuration} {cause : ShedCause}

/-! ### Sheds down to a budget (R113) -/

theorem Drive.shedDown_fits (h : d.feeds[f].committed ≤ e.conf.budgets[f]) (fuel : Nat) :
    Drive.shedDown e f fuel d = d := by
  cases fuel with
  | zero => rfl
  | succ fuel => exact if_pos h

/-- A channel still driven after the sheds is as it was. -/
theorem Drive.shedDown_driven (fuel : Nat) (hd : (Drive.shedDown e f fuel d).chans[c].state.driven = true) :
    (Drive.shedDown e f fuel d).chans[c] = d.chans[c] := by
  refine Drive.shedDown_induct (e := e) (f := f)
    (P := fun d' => d'.chans[c].state.driven = true → d'.chans[c] = d.chans[c]) (fun d' v ih _ => ?_) fuel d
    (fun _ => rfl) hd
  rw [Drive.shed_chan_at]
  split
  · exact fun h => absurd h (by exact Bool.false_ne_true)
  · exact ih

/-- The budgets have no part in sheds. -/
theorem Drive.ShedsOf.of_budgets {victims : List Ch}
    (h : Drive.ShedsOf { x with budgets := b } cause victims d d') : Drive.ShedsOf x cause victims d d' := by
  induction victims generalizing d with
  | nil => exact h
  | cons v vs ih =>
    obtain ⟨d1, hshed, hrest⟩ := h
    exact ⟨d1, hshed, ih hrest⟩

/-! ### SET BUDGET (R112) -/

/-- The part with the budget of a feed set. -/
def State.withBudget (s : State) (f : Fin 3) (n : Nat) : State :=
  { s with conf := { s.conf with budgets := s.conf.budgets.set f n } }

theorem State.withBudget_budget (s : State) (f : Fin 3) (n : Nat) :
    (s.withBudget f n).env.conf.budgets[f] = n := Vector.getElem_set_self _

/-- What a new budget makes of the drive side. -/
def State.budgeted (s : State) (f : Fin 3) (n : Nat) : Drive :=
  if s.conf.budgets[f] < n then s.drive.pass (s.withBudget f n).env f
  else if n < s.conf.budgets[f] then
    Drive.shedDown (s.withBudget f n).env f s.drive.feeds[f].admitted.length s.drive
  else s.drive

theorem setBudgetBody_badValue (h : 3 ≤ feed.toNat ∨ 4000 < budget.toNat) :
    setBudgetBody feed budget s = (s, refuse .badValue) := by
  unfold setBudgetBody
  cases hf : feedOfByte feed with
  | none => rfl
  | some fd =>
    have hlt : 4000 < budget.toNat := h.resolve_left fun hge => by
      rw [feedOfByte_of_ge hge] at hf
      cases hf
    exact if_pos hlt

theorem setBudgetBody_takes (hf : feed.toNat = f.val) (hb : budget.toNat ≤ 4000) :
    setBudgetBody feed budget s = ({ s.withBudget f budget.toNat with drive := s.budgeted f budget.toNat },
      taken (twoBytes budget.toNat ++ twoBytes (s.budgeted f budget.toNat).feeds[f].committed ++
        [BitVec.ofNat 8 (s.budgeted f budget.toNat).feeds[f].queue.length])) := by
  obtain ⟨fd, hfd, rfl⟩ := feedOfByte_of_eq hf
  simp only [setBudgetBody, hfd, maxBudget, if_neg (Nat.not_lt.2 hb), numWord_eq_twoBytes, wordBytes_eq_twoBytes]
  rfl

/-- A lowered budget is reached, by the victims of the admitted list and by no others (R113). -/
theorem State.budgeted_lowered {n : Nat} (h : s.FeedsSound) (hn : n < s.conf.budgets[f]) :
    (s.budgeted f n).feeds[f].committed ≤ n ∧
    (∃ victims, s.drive.VictimsFor f 4 (s.drive.feeds[f].committed - n) victims ∧
      Drive.ShedsOf s.conf .budget victims s.drive (s.budgeted f n)) := by
  have heq : s.budgeted f n =
      Drive.shedDown (s.withBudget f n).env f s.drive.feeds[f].admitted.length s.drive := by
    rw [State.budgeted, if_neg (Nat.not_lt.2 (Nat.le_of_lt hn)), if_pos hn]
  have hsound : s.drive.FeedsSound ((s.withBudget f n).env.withBudgets s.conf.budgets).conf := h
  have hreach := (hsound.shedDown s.conf.budgets f _ (Nat.le_refl _)).2
  have hsheds := Drive.shedDown_sheds hsound f s.drive.feeds[f].admitted.length
  have hshort : s.drive.feeds[f].committed - n ≤
      ((s.drive.below f 4).map (fun c => s.drive.chans[c].reservation)).sum := by
    rw [Drive.below_four, ← h.committed_admitted f]
    exact Nat.sub_le _ _
  rw [State.withBudget_budget] at hreach hsheds
  rw [heq]
  exact ⟨hreach, _, Drive.FeedsSound.victimsFor h f hshort, hsheds.of_budgets⟩

/-! ### SET SUPPLY LIMITS (R119) -/

theorem setSupplyLimitsBody_badValue {uv recovery : Word16}
    (h : uv.toNat < 100 ∨ 300 < uv.toNat ∨ recovery.toNat < uv.toNat + 5 ∨ 350 < recovery.toNat) :
    setSupplyLimitsBody uv recovery s = (s, refuse .badValue) := by
  unfold setSupplyLimitsBody
  by_cases hu : uv.toNat < 100 ∨ 300 < uv.toNat
  · exact if_pos hu
  · rw [if_neg hu]
    exact if_pos (by tauto)

theorem setSupplyLimitsBody_takes {uv recovery : Word16} (h100 : 100 ≤ uv.toNat) (h300 : uv.toNat ≤ 300)
    (hgap : uv.toNat + 5 ≤ recovery.toNat) (h350 : recovery.toNat ≤ 350) :
    setSupplyLimitsBody uv recovery s =
      ({ s with conf := { s.conf with uv := uv.toNat, recovery := recovery.toNat } },
        taken (twoBytes uv.toNat ++ twoBytes recovery.toNat)) := by
  rw [setSupplyLimitsBody, if_neg (by omega), if_neg (by omega), wordBytes_eq_twoBytes, wordBytes_eq_twoBytes]

end

/-- Settles O44: the value checks, then the drive side by how the budget moves. -/
theorem budgetAndSupplyLimits : Obligations.BudgetAndSupplyLimits := by
  intro h feed budget uv recovery s a hw
  refine ⟨fun hbad => congrArg Host.Outcome.next (a.unlessStoring_refuses hw (setBudgetBody_badValue hbad)),
    fun f hf hb => ?budget,
    fun hbad => congrArg Host.Outcome.next (a.unlessStoring_refuses hw (setSupplyLimitsBody_badValue hbad)),
    fun h100 h300 hgap h350 => congrArg Host.Outcome.next
      (a.unlessStoring_takes hw (by simp [twoBytes_length]) (setSupplyLimitsBody_takes h100 h300 hgap h350))⟩
  intro conf
  refine ⟨_, congrArg Host.Outcome.next (a.unlessStoring_takes hw (by simp [twoBytes_length])
    (setBudgetBody_takes hf hb)), rfl, fun hr => ?raised, fun he => ?same, fun hl hfit => ?fits, fun hl hsound => ?lowered⟩
  case raised => exact if_pos hr
  case same => exact (if_neg (by omega)).trans (if_neg (by omega))
  case fits =>
    refine (if_neg (by omega)).trans ((if_pos hl).trans (Drive.shedDown_fits ?_ _))
    rw [State.withBudget_budget]
    exact hfit
  case lowered =>
    obtain ⟨hreach, hvictims⟩ := State.budgeted_lowered hsound hl
    refine ⟨hreach, hvictims, fun c hd => ?_⟩
    have heq : s.budgeted f budget.toNat =
        Drive.shedDown (s.withBudget f budget.toNat).env f s.drive.feeds[f].admitted.length s.drive :=
      (if_neg (by omega)).trans (if_pos hl)
    rw [State.endFrame_drive] at hd ⊢
    show (s.budgeted f budget.toNat).chans[c] = _
    rw [heq]
    exact Drive.shedDown_driven _ (by rw [← heq]; exact hd)

end Sys2Proof.Machine
end

section
/-!
PROOFS. The walk of an admission pass and the visit of an entry (R107 to R109).
-/

namespace Sys2Proof.Machine

section
variable {d : Drive} {e : Env} {f : Fin 3} {c : Ch} {x : Entry} {need bound fuel : Nat}

/-! ### What sheds and admissions leave of a driven channel -/

theorem Drive.letIn_rank (d : Drive) (e : Env) (x : Entry) (c : Ch) :
    (d.letIn e x).chans[c].rank = d.chans[c].rank := by
  rw [Channel.rank, (d.letIn_keeps e x c).2.1]
  rfl

theorem Drive.letIn_driven (hd : d.chans[c].state.driven = true) (e : Env) (x : Entry) :
    (d.letIn e x).chans[c].state.driven = true := by
  by_cases hc : c = x.ch
  · subst hc
    unfold Drive.letIn
    split
    · rw [Drive.admitFresh_chan_at, if_pos rfl]
      split <;> rfl
    · rw [Drive.admitUpgrade_chan_at, if_pos rfl]
      exact hd
  · rw [Drive.letIn_chan_ne d e x hc]
    exact hd

/-- An admission puts nothing in a queue. -/
theorem Drive.mem_queue_of_letIn {y : Entry} (hy : y ∈ (d.letIn e x).feeds[f].queue) : y ∈ d.feeds[f].queue := by
  by_cases hf : f = e.feedOf x.ch
  · subst hf
    unfold Drive.letIn at hy
    split at hy
    · rw [Drive.admitFresh_feed_at, if_pos rfl] at hy
      exact (List.mem_filter.1 hy).1
    · rw [Drive.admitUpgrade_feed_at, if_pos rfl] at hy
      exact (List.mem_filter.1 hy).1
  · rwa [Drive.letIn_feed_ne d e x hf] at hy

/-- A driven channel that every entry of the queue is at or below. -/
def Drive.Outranks (d : Drive) (f : Fin 3) (c : Ch) : Prop :=
  d.chans[c].state.driven = true ∧ ∀ x ∈ d.feeds[f].queue, d.chans[x.ch].rank ≤ d.chans[c].rank

/-- A pass sheds no channel that no entry stands above (R108). -/
theorem Drive.Outranks.pass (h : d.Outranks f c) (e : Env) : (d.pass e f).Outranks f c := by
  refine Drive.pass_induct (P := fun d' => d'.Outranks f c) (fun d' v x ⟨hd, hq⟩ hv hx hlt => ⟨?driven, fun y hy => ?queue⟩)
    (fun d' x ⟨hd, hq⟩ _ _ _ => ⟨Drive.letIn_driven hd e x, fun y hy => ?letIn⟩) d h
  case driven =>
    have hne : c ≠ v := by
      rintro rfl
      exact absurd (hq x hx) (Nat.not_le.2 hlt)
    rw [Drive.shed_chan_at, if_neg hne]
    exact hd
  case queue =>
    rw [Drive.shed_rank, Drive.shed_rank]
    rw [Drive.shed_feed_at] at hy
    split at hy
    · dsimp only at hy
      rcases mem_queueJoin.1 hy with rfl | hy
      · exact (Nat.le_of_lt hlt).trans (hq x hx)
      · exact hq y (List.mem_filter.1 hy).1
    · exact hq y hy
  case letIn =>
    rw [Drive.letIn_rank, Drive.letIn_rank]
    exact hq y (Drive.mem_queue_of_letIn hy)

/-! ### The visit of one entry (R108) -/

theorem Drive.visit_low (hlow : e.low = true) (hr : d.chans[x.ch].rank ≤ 1) : d.visit e f x = d :=
  if_pos ⟨hlow, hr⟩

theorem Drive.visit_fits (hlow : e.low = false ∨ 2 ≤ d.chans[x.ch].rank) (hfit : d.needed e x ≤ d.free e f) :
    d.visit e f x = d.letIn e x := by
  refine (if_neg fun h => ?_).trans (if_pos hfit)
  rcases hlow with hl | hl
  · exact absurd (h.1.symm.trans hl) (by decide)
  · exact absurd h.2 (Nat.not_le.2 hl)

/-- An entry that cannot be admitted stays, and nothing is shed for it. -/
theorem Drive.visit_stays (h : d.available e f d.chans[x.ch].rank < d.needed e x) : d.visit e f x = d := by
  have hfree : ¬ d.needed e x ≤ d.free e f :=
    Nat.not_le.2 (Nat.lt_of_le_of_lt (Nat.le_add_right _ _) h)
  unfold Drive.visit
  dsimp only
  rw [if_neg hfree, if_neg (Nat.not_le.2 h), ite_self]

/-- What is available to an entry is so after each shed for it. -/
theorem Drive.available_shed {v : Ch} (h : d.FeedsSound e.conf) (hv : v ∈ d.below f bound) :
    (d.shed e v .budget).available e f bound = d.available e f bound := by
  obtain ⟨hadm, -⟩ := Drive.mem_below hv
  have hon : e.feedOf v = f := (((h.admitted f).2 v).1 hadm).1
  have hsum := sum_filter_ne (l := d.below f bound) (fun c => d.chans[c].reservation) (((h.admitted f).1).filter _) hv
  have hrest : ((d.below f bound).filter (fun z => z ≠ v)).map
      (fun c => (d.shed e v .budget).chans[c].reservation) =
      ((d.below f bound).filter (fun z => z ≠ v)).map (fun c => d.chans[c].reservation) :=
    List.map_congr_left fun z hz => Drive.shed_reservation_ne (of_decide_eq_true (List.mem_filter.1 hz).2) _
  rw [Drive.available, Drive.available, h.shed_free .budget hadm, Drive.below_shed hon, hrest, ← hsum, Nat.add_assoc]

/-- The sheds for an entry make the room that is available to it. -/
theorem Drive.shedFor_frees (h : d.FeedsSound e.conf) (hfuel : (d.below f bound).length ≤ fuel)
    (hneed : need ≤ d.available e f bound) : need ≤ (Drive.shedFor e f bound need fuel d).free e f := by
  induction fuel generalizing d with
  | zero =>
    rw [Drive.available, List.length_eq_zero_iff.1 (Nat.le_zero.1 hfuel)] at hneed
    exact hneed
  | succ fuel ih =>
    by_cases hfree : need ≤ d.free e f
    · rw [Drive.shedFor, if_pos hfree]
      exact hfree
    by_cases hnil : d.below f bound = []
    · rw [Drive.available, hnil] at hneed
      exact absurd hneed hfree
    obtain ⟨v, hmem, hv⟩ := lastOfLowest_of_ne_nil (fun c => d.chans[c].rank) hnil
    obtain ⟨hadm, -⟩ := Drive.mem_below hmem
    have hon : e.feedOf v = f := (((h.admitted f).2 v).1 hadm).1
    have hstep : Drive.shedFor e f bound need (fuel + 1) d =
        Drive.shedFor e f bound need fuel (d.shed e v .budget) := by
      simp only [Drive.shedFor, if_neg hfree, hv]
    rw [hstep]
    refine ih (h.shed_admitted .budget hadm).1 ?_ (by rw [Drive.available_shed h hmem]; exact hneed)
    rw [Drive.below_shed hon]
    exact Nat.le_of_lt_succ (Nat.lt_of_lt_of_le (length_filter_ne_lt hmem) hfuel)

/-- An entry that lower classes can make room for is admitted after the sheds of the first of them (R109). -/
theorem Drive.visit_preempts (h : d.FeedsSound e.conf) (hlow : e.low = false ∨ 2 ≤ d.chans[x.ch].rank)
    (hfree : d.free e f < d.needed e x) (hav : d.needed e x ≤ d.available e f d.chans[x.ch].rank) :
    ∃ (victims : List Ch) (d' : Drive),
      d.VictimsFor f d.chans[x.ch].rank (d.needed e x - d.free e f) victims ∧
      Drive.ShedsOf e.conf .budget victims d d' ∧ d.visit e f x = d'.letIn e x := by
  have hroom := Drive.shedFor_frees (fuel := d.feeds[f].admitted.length) h (List.length_filter_le _ _) hav
  have hshort : d.needed e x - d.free e f ≤
      ((d.below f d.chans[x.ch].rank).map (fun c => d.chans[c].reservation)).sum := by
    rw [Drive.available] at hav
    omega
  refine ⟨_, _, h.victimsFor f hshort, Drive.shedFor_sheds h f d.chans[x.ch].rank (d.needed e x) _, ?_⟩
  refine (if_neg fun h => ?_).trans ((if_neg (Nat.not_le.2 hfree)).trans ((if_pos hav).trans (if_pos hroom)))
  rcases hlow with hl | hl
  · exact absurd (h.1.symm.trans hl) (by decide)
  · exact absurd h.2 (Nat.not_le.2 hl)

/-! ### The walk (R107) -/

theorem Drive.passLoop_stays (h : ∀ x ∈ d.feeds[f].queue, d.visit e f x = d) (fuel : Nat) (seen : List Ch) :
    Drive.passLoop e f fuel seen d = d := by
  induction fuel generalizing seen with
  | zero => rfl
  | succ fuel ih =>
    unfold Drive.passLoop
    split
    · rfl
    · rw [h _ (List.mem_of_find?_eq_some ‹_›)]
      exact ih _

/-- A list of sixteen different channels holds them all. -/
theorem mem_of_sixteen {seen : List Ch} (hn : seen.Nodup) (hl : seen.length = 16) (c : Ch) : c ∈ seen := by
  have hcard : seen.toFinset.card = Fintype.card Ch := by
    rw [List.toFinset_card_of_nodup hn, hl]
    rfl
  rw [← List.mem_toFinset, (Finset.card_eq_iff_eq_univ _).1 hcard]
  exact Finset.mem_univ c

/-- Sixteen visits, each of another channel, are all that a pass can make. -/
theorem Drive.passLoop_walks (d : Drive) (e : Env) (f : Fin 3) (fuel : Nat) (seen : List Ch) (hn : seen.Nodup)
    (hl : seen.length + fuel = 16) : Drive.Walk e f seen d (Drive.passLoop e f fuel seen d) := by
  induction fuel generalizing d seen with
  | zero => exact .done fun x _ => mem_of_sixteen hn hl x.ch
  | succ fuel ih =>
    unfold Drive.passLoop
    split
    · rename_i hnone
      refine .done fun x hx => ?_
      simpa using List.find?_eq_none.1 hnone x hx
    · rename_i x hsome
      obtain ⟨hx, ahead, behind, hq, hahead⟩ := List.find?_eq_some_iff_append.1 hsome
      have hseen : x.ch ∉ seen := by simpa using hx
      refine .visit hq (fun y hy => by simpa using hahead y hy) hseen (ih _ _ (List.nodup_cons.2 ⟨hseen, hn⟩) ?_)
      rw [List.length_cons]
      omega

theorem Drive.pass_walks (d : Drive) (e : Env) (f : Fin 3) : Drive.Walk e f [] d (d.pass e f) :=
  d.passLoop_walks e f 16 [] List.nodup_nil rfl

end

/-- Settles O46: what no pass sheds, the pass that changes nothing, the walk, and the outcomes of a visit. -/
theorem passPreemptsLowerClassesOnly : Obligations.PassPreemptsLowerClassesOnly := by
  intro d e f
  refine ⟨fun c hq hd => (Drive.Outranks.pass ⟨hd, hq⟩ e).1, fun hstay => Drive.passLoop_stays (fun x hx => ?stays) 16 [],
    d.pass_walks e f, fun x hx hsound => ?visit⟩
  case stays =>
    rcases hstay x hx with ⟨hlow, hr⟩ | hno
    · exact Drive.visit_low hlow hr
    · exact Drive.visit_stays hno
  case visit =>
    intro y cfg free available need
    have hneed : d.needed e x = need := by
      obtain ⟨ch, kind⟩ := x
      cases kind <;> rfl
    refine ⟨fun hlow hr => Drive.visit_low hlow hr, fun hlow => ⟨fun hfit => ?fits, fun hfree hav => ?preempts,
      fun hno => ?unable⟩⟩
    case fits => exact Drive.visit_fits hlow (hneed ▸ hfit)
    case preempts =>
      have h := Drive.visit_preempts hsound hlow (hneed ▸ hfree) (hneed ▸ hav)
      rw [hneed] at h
      exact h
    case unable => exact Drive.visit_stays (hneed ▸ hno)

end Sys2Proof.Machine
end

section
/-!
PROOFS. VSENSE readings and the supply-low flag (R116 to R118).
-/

namespace Sys2Proof.Machine

theorem exec_supplyReading (sense : Nat) (s : State) :
    exec (.supplyReading sense) s = .next (event (supplyReading sense) s) := rfl

theorem exec_supplyRecovery (sense : Nat) (s : State) :
    exec (.supplyRecovery sense) s = .next (event (supplyRecovery sense) s) := rfl

section
variable {s : State} {d : Drive} {e : Env} {f : Fin 3} {c : Ch} {l : List Ch} {cause : ShedCause} {sense : Nat}

/-! ### Sheds of a list of channels -/

theorem Drive.sheds_shedsOf (e : Env) (cause : ShedCause) (l : List Ch) (d : Drive) :
    Drive.ShedsOf e.conf cause l d (l.foldl (fun d c => d.shed e c cause) d) := by
  induction l generalizing d with
  | nil => rfl
  | cons v l ih => exact ⟨_, d.shed_shedOf e v cause, ih _⟩

theorem Drive.sheds_rank (e : Env) (cause : ShedCause) (l : List Ch) (d : Drive) (c : Ch) :
    (l.foldl (fun d c => d.shed e c cause) d).chans[c].rank = d.chans[c].rank := by
  induction l generalizing d with
  | nil => rfl
  | cons v l ih => exact (ih _).trans (d.shed_rank e v c cause)

theorem Drive.sheds_feed_ne (hl : ∀ v ∈ l, e.feedOf v ≠ f) (cause : ShedCause) (d : Drive) :
    (l.foldl (fun d c => d.shed e c cause) d).feeds[f] = d.feeds[f] := by
  induction l generalizing d with
  | nil => rfl
  | cons v l ih =>
    refine (ih (fun w hw => hl w (List.mem_cons_of_mem _ hw)) _).trans ?_
    rw [Drive.shed_feed_at, if_neg (Ne.symm (hl v List.mem_cons_self))]

/-! ### The channels that supply-low sheds (R117) -/

/-- The admitted channels of class 0 and 1 of a feed, earliest admitted first. -/
def Drive.lowOn (d : Drive) (f : Fin 3) : List Ch :=
  d.feeds[f].admitted.filter (fun c => decide (d.chans[c].rank ≤ 1))

/-- The drive side after the sheds of a list for undervoltage. -/
def Drive.shedsLow (d : Drive) (e : Env) (l : List Ch) : Drive :=
  l.foldl (fun d c => d.shed e c .undervolt) d

theorem Drive.FeedsSound.lowOn_feed (h : d.FeedsSound e.conf) (hc : c ∈ d.lowOn f) : e.feedOf c = f :=
  (((h.admitted f).2 c).1 (List.mem_filter.1 hc).1).1

theorem Drive.FeedsSound.mem_lowOn (h : d.FeedsSound e.conf) (hd : d.chans[c].state.driven = true)
    (hr : d.chans[c].rank ≤ 1) : c ∈ d.lowOn (e.feedOf c) :=
  List.mem_filter.2 ⟨((h.admitted _).2 c).2 ⟨rfl, hd⟩, decide_eq_true hr⟩

/-- Sheds on other feeds leave a feed's low channels to be shed. -/
theorem Drive.lowOn_shedsLow (hl : ∀ v ∈ l, e.feedOf v ≠ f) (d : Drive) : (d.shedsLow e l).lowOn f = d.lowOn f := by
  have hfeed : (d.shedsLow e l).feeds[f] = d.feeds[f] := Drive.sheds_feed_ne hl .undervolt d
  have hrank (c : Ch) : (d.shedsLow e l).chans[c].rank = d.chans[c].rank := d.sheds_rank e .undervolt l c
  rw [Drive.lowOn, Drive.lowOn, hfeed]
  exact List.filter_congr fun c _ => by rw [hrank]

/-- The feeds of a list that a test selects, latest first. -/
theorem contains_selected (b0 b1 b2 : Bool) :
    let due : List (Fin 3) :=
      (if b2 then [2] else []) ++ ((if b1 then [1] else []) ++ (if b0 then [0] else []))
    due.contains 0 = b0 ∧ due.contains 1 = b1 ∧ due.contains 2 = b2 := by
  revert b0 b1 b2
  decide

/-- The sheds of R117 step 1 are those of the low channels, feed by feed; a feed is due where it had any. -/
theorem Drive.FeedsSound.shedAllLow_eq (h : d.FeedsSound e.conf) :
    (d.shedAllLow e).1 = d.shedsLow e (d.lowOn 0 ++ d.lowOn 1 ++ d.lowOn 2) ∧
    (d.shedAllLow e).2.contains 0 = !(d.lowOn 0).isEmpty ∧ (d.shedAllLow e).2.contains 1 = !(d.lowOn 1).isEmpty ∧
    (d.shedAllLow e).2.contains 2 = !(d.lowOn 2).isEmpty := by
  have hne {f g : Fin 3} (hfg : g ≠ f) : ∀ v ∈ d.lowOn g, e.feedOf v ≠ f :=
    fun v hv heq => hfg ((h.lowOn_feed hv).symm.trans heq)
  have h1 : (d.shedsLow e (d.lowOn 0)).lowOn 1 = d.lowOn 1 := Drive.lowOn_shedsLow (hne (by decide)) d
  have h2 : ((d.shedsLow e (d.lowOn 0)).shedsLow e (d.lowOn 1)).lowOn 2 = d.lowOn 2 :=
    (Drive.lowOn_shedsLow (hne (by decide)) _).trans (Drive.lowOn_shedsLow (hne (by decide)) d)
  have hstep (d' : Drive) (f : Fin 3) : d'.shedLow e f = (d'.shedsLow e (d'.lowOn f), !(d'.lowOn f).isEmpty) := rfl
  have hall : d.shedAllLow e = (d.shedsLow e (d.lowOn 0 ++ d.lowOn 1 ++ d.lowOn 2),
      (if !(d.lowOn 2).isEmpty then [2] else []) ++
        ((if !(d.lowOn 1).isEmpty then [1] else []) ++ (if !(d.lowOn 0).isEmpty then [0] else []))) := by
    simp only [Drive.shedAllLow, allFeeds, List.foldl_cons, List.foldl_nil, hstep, h1, h2]
    refine Prod.ext ?_ ?_
    · simp only [Drive.shedsLow, List.foldl_append]
    · cases (d.lowOn 0).isEmpty <;> cases (d.lowOn 1).isEmpty <;> cases (d.lowOn 2).isEmpty <;> rfl
  rw [hall]
  exact ⟨rfl, contains_selected _ _ _⟩

/-! ### A channel shed for undervoltage stays shed (R108, R117) -/

/-- A channel of class 0 or 1 that waits for budget since a shed for undervoltage. -/
structure Drive.ShedLow (d : Drive) (c : Ch) : Prop where
  rank    : d.chans[c].rank ≤ 1
  waits   : d.chans[c].state = .waiting .budget
  cause   : d.chans[c].lastShed = some .undervolt
  noted   : d.notice.changed.getLsbD c.val = true
  outside : ∀ f : Fin 3, c ∉ d.feeds[f].admitted

theorem Drive.shedsLow_within (d : Drive) (e : Env) (l : List Ch) : d.notice.Within (d.shedsLow e l).notice := by
  induction l generalizing d with
  | nil => exact .refl _
  | cons v l ih => exact (d.shed_within e v .undervolt).trans (ih _)

theorem Drive.shedsLow_shed (e : Env) (hc : c ∈ l) (d : Drive) :
    (d.shedsLow e l).chans[c].state = .waiting .budget ∧
    (d.shedsLow e l).chans[c].lastShed = some .undervolt ∧
    (d.shedsLow e l).notice.changed.getLsbD c.val = true := by
  induction l generalizing d with
  | nil => cases hc
  | cons v l ih =>
    by_cases hl : c ∈ l
    · exact ih hl _
    obtain rfl := (List.mem_cons.1 hc).resolve_right hl
    have hchan : ((d.shed e c .undervolt).shedsLow e l).chans[c] = (d.shed e c .undervolt).chans[c] :=
      (Drive.sheds_chan_at e .undervolt l _ c).2 hl
    have hself : (d.shed e c .undervolt).chans[c] =
        { d.chans[c].stopped (.waiting .budget) with lastShed := some .undervolt } :=
      (d.shed_chan_at e c c .undervolt).trans (if_pos rfl)
    have hnoted : (d.shed e c .undervolt).notice.changed.getLsbD c.val = true := by
      rw [Drive.shed_notice]
      simp [Drive.noteChanged, chBit]
    refine ⟨?_, ?_, (Drive.shedsLow_within _ e l).changed _ hnoted⟩
    · exact congrArg Channel.state (hchan.trans hself)
    · exact congrArg Channel.lastShed (hchan.trans hself)

theorem Drive.FeedsSound.shedLow_of_driven (h : d.FeedsSound e.conf) (hd : d.chans[c].state.driven = true)
    (hr : d.chans[c].rank ≤ 1) : (d.shedAllLow e).1.ShedLow c := by
  have hsound := (h.shedAllLow (k := .inner)).2
  have hmem : c ∈ d.lowOn 0 ++ d.lowOn 1 ++ d.lowOn 2 := by
    have hin := h.mem_lowOn hd hr
    generalize e.feedOf c = f at hin
    rw [List.append_assoc]
    match f with
    | 0 => exact List.mem_append_left _ hin
    | 1 => exact List.mem_append_right _ (List.mem_append_left _ hin)
    | 2 => exact List.mem_append_right _ (List.mem_append_right _ hin)
  rw [h.shedAllLow_eq.1] at hsound ⊢
  obtain ⟨hwaits, hcause, hnoted⟩ := Drive.shedsLow_shed e hmem d
  have hrank : (d.shedsLow e (d.lowOn 0 ++ d.lowOn 1 ++ d.lowOn 2)).chans[c].rank = d.chans[c].rank :=
    d.sheds_rank e .undervolt _ c
  refine ⟨hrank.trans_le hr, hwaits, hcause, hnoted, fun f hin => ?_⟩
  have hdriven := (((hsound.admitted f).2 c).1 hin).2
  rw [hwaits] at hdriven
  cases hdriven

/-- An admission puts no other channel on an admitted list. -/
theorem Drive.mem_admitted_of_letIn {x : Entry} (hin : c ∈ (d.letIn e x).feeds[f].admitted) (hc : c ≠ x.ch) :
    c ∈ d.feeds[f].admitted := by
  by_cases hf : f = e.feedOf x.ch
  · subst hf
    unfold Drive.letIn at hin
    split at hin
    · rw [Drive.admitFresh_feed_at, if_pos rfl] at hin
      exact (List.mem_append.1 hin).resolve_right fun h => hc (List.mem_singleton.1 h)
    · rwa [Drive.admitUpgrade_feed_at, if_pos rfl] at hin
  · rwa [Drive.letIn_feed_ne d e x hf] at hin

/-- No pass under supply-low sheds such a channel anew or admits it. -/
theorem Drive.ShedLow.pass (h : d.ShedLow c) (hlow : e.low = true) (f : Fin 3) : (d.pass e f).ShedLow c := by
  refine Drive.pass_induct (P := fun d' => d'.ShedLow c) (fun d' v x h hv _ _ => ?shed)
    (fun d' x h _ hr _ => ?letIn) d h
  case shed =>
    have hcv : c ≠ v := fun hcv => h.outside f (hcv ▸ hv)
    have hchan : (d'.shed e v .budget).chans[c] = d'.chans[c] := (d'.shed_chan_at e v c .budget).trans (if_neg hcv)
    refine ⟨(d'.shed_rank e v c .budget).trans_le h.rank, (congrArg Channel.state hchan).trans h.waits,
      (congrArg Channel.lastShed hchan).trans h.cause, (d'.shed_within e v .budget).changed _ h.noted, fun g hin => ?_⟩
    rw [Drive.shed_feed_at] at hin
    split at hin
    · exact h.outside g (List.mem_filter.1 hin).1
    · exact h.outside g hin
  case letIn =>
    have hcx : c ≠ x.ch := by
      rintro rfl
      exact absurd (hr hlow) (Nat.not_le.2 (Nat.lt_succ_of_le h.rank))
    have hchan := d'.letIn_chan_ne e x hcx
    exact ⟨(d'.letIn_rank e x c).trans_le h.rank, (congrArg Channel.state hchan).trans h.waits,
      (congrArg Channel.lastShed hchan).trans h.cause, (d'.letIn_within e x).changed _ h.noted,
      fun g hin => h.outside g (Drive.mem_admitted_of_letIn hin hcx)⟩

theorem Drive.ShedLow.setKind (h : d.ShedLow c) (k : NoticeKind) : (d.setKind k).ShedLow c :=
  ⟨h.rank, h.waits, h.cause, h.noted, h.outside⟩

/-! ### Passes on the feeds (log entry 16) -/

theorem Drive.passes_eq (d : Drive) (e : Env) (due : List (Fin 3)) : d.passes e due =
    (let run (f : Fin 3) (d : Drive) : Drive := if due.contains f then d.pass e f else d
     run 2 (run 1 (run 0 d))) := rfl

/-! ### The three readings -/

/-- The part after a reading is recorded. -/
def State.withSense (s : State) (sense : Nat) : State :=
  { s with supply := { s.supply with vsense := min maxVoltage sense } }

theorem supplyReading_quiet (hlow : s.supply.low = false) (h : s.conf.uv ≤ min 600 sense) :
    supplyReading sense s = s.withSense sense :=
  (if_neg (ne_true_of_eq_false hlow)).trans (if_neg (Nat.not_lt.2 h))

theorem supplyReading_sets (hlow : s.supply.low = false) (h : min 600 sense < s.conf.uv) :
    supplyReading sense s = (s.withSense sense).setLow :=
  (if_neg (ne_true_of_eq_false hlow)).trans (if_pos h)

theorem supplyReading_restarts (hlow : s.supply.low = true) (h : min 600 sense < s.conf.recovery) :
    supplyReading sense s = { s with supply := { s.supply with vsense := min 600 sense, count := 0 } } :=
  (if_pos hlow).trans (if_pos h)

theorem supplyReading_counts (hlow : s.supply.low = true) (h : s.conf.recovery ≤ min 600 sense)
    (hn : s.supply.count < 499) : supplyReading sense s =
      { s with supply := { s.supply with vsense := min 600 sense, count := s.supply.count + 1 } } :=
  (if_pos hlow).trans ((if_neg (Nat.not_lt.2 h)).trans (if_pos hn))

theorem supplyReading_clears (hlow : s.supply.low = true) (h : s.conf.recovery ≤ min 600 sense)
    (hn : 499 ≤ s.supply.count) : supplyReading sense s = (s.withSense sense).clearLow :=
  (if_pos hlow).trans ((if_neg (Nat.not_lt.2 h)).trans (if_neg (Nat.not_lt.2 hn)))

/-- The drive side that the setting of supply-low leaves, before SUPPLY is set. -/
def Drive.undervolted (d : Drive) (e : Env) : Drive := (d.shedAllLow e).1.passes e (d.shedAllLow e).2

theorem Drive.FeedsSound.undervolted_shedLow (h : d.FeedsSound e.conf) (hlow : e.low = true)
    (hd : d.chans[c].state.driven = true) (hr : d.chans[c].rank ≤ 1) : (d.undervolted e).ShedLow c :=
  Drive.passes_induct (P := fun d => d.ShedLow c) (fun _ f hd => hd.pass hlow f) _ _ (h.shedLow_of_driven hd hr)

/-- The sheds of the low channels, then a pass on each feed that had any. -/
theorem Drive.FeedsSound.undervolted_eq (h : d.FeedsSound e.conf) (passOn : Fin 3 → Drive → Drive)
    (hpass : ∀ f d', passOn f d' = if d.lowOn f = [] then d' else d'.pass e f) :
    d.undervolted e = passOn 2 (passOn 1 (passOn 0 (d.shedsLow e (d.lowOn 0 ++ d.lowOn 1 ++ d.lowOn 2)))) := by
  obtain ⟨hsheds, h0, h1, h2⟩ := h.shedAllLow_eq
  have hrun (f : Fin 3) (d' : Drive) : (if (!(d.lowOn f).isEmpty) then d'.pass e f else d') = passOn f d' := by
    rw [hpass]
    cases d.lowOn f <;> rfl
  rw [Drive.undervolted, Drive.passes_eq, hsheds]
  simp only [h0, h1, h2, hrun]

theorem State.setLow_withSense (s : State) (sense : Nat) : (s.withSense sense).setLow =
    { s with supply := ⟨true, 0, min 600 sense⟩
             drive := (s.drive.undervolted { s.env with low := true }).setKind .supply } := by
  unfold State.setLow
  rfl

end

/-- Settles O47: a reading by the flag and its level, the setting by its sheds and what the passes keep of them. -/
theorem supplyReadings : Obligations.SupplyReadings := by
  intro sense s hrun v counted
  have hexec : exec (.supplyReading sense) s = .next (supplyReading sense s) := by
    rw [exec_supplyReading, event_running hrun]
  refine ⟨fun hlow hv => ?quiet, fun hlow hv => ?sets, fun hlow hv => ?restarts,
    fun hlow hv => ⟨fun hn => ?counts, fun hn => ?clears⟩⟩
  case quiet => rw [hexec, supplyReading_quiet hlow hv]; rfl
  case restarts => rw [hexec, supplyReading_restarts hlow hv]
  case counts => rw [hexec, supplyReading_counts hlow hv hn]
  case clears =>
    intro d t
    have hreads : supplyReading sense s = t := supplyReading_clears hlow hv hn
    have hrecovers : supplyRecovery sense s = supplyReading sense s := if_pos ⟨hlow, hn, hv⟩
    exact ⟨by rw [hexec, hreads], by rw [exec_supplyRecovery, event_running hrun, hrecovers, hreads]⟩
  case sets =>
    refine ⟨_, by rw [hexec, supplyReading_sets hlow hv, State.setLow_withSense], rfl, ?kind, fun h c hd hr => ?shed,
      fun h => ?drive⟩
    case kind => simp [Drive.setKind, kindBit]
    case shed =>
      have hc := (Drive.FeedsSound.undervolted_shedLow (e := { s.env with low := true }) h rfl hd hr).setKind .supply
      exact ⟨hc.waits, hc.cause, hc.noted⟩
    case drive =>
      intro lowOn passOn
      refine ⟨_, Drive.sheds_shedsOf { s.env with low := true } .undervolt _ s.drive, ?_⟩
      rw [Drive.FeedsSound.undervolted_eq (e := { s.env with low := true }) h passOn fun _ _ => rfl]
      rfl

end Sys2Proof.Machine
end

section
/-!
PROOFS. What an admission pass does with a lone entry that fits (R58, R62, R110, R143).
-/

namespace Sys2Proof.Machine

section
variable {d d' : Drive} {e : Env} {c : Ch} {f : Fin 3} {x : Entry} {cfg : Configuration} {before : Option Cycle}
  {selection : ChSet} {start : Nat}

/-! ### The pass of a lone entry -/

/-- A lone entry that fits is admitted, and the pass is over. -/
theorem Drive.pass_lone (hq : d.feeds[f].queue = [x]) (hf : e.feedOf x.ch = f)
    (hlow : e.low = false ∨ 2 ≤ d.chans[x.ch].rank) (hfit : d.needed e x ≤ d.free e f) :
    d.pass e f = d.letIn e x := by
  subst hf
  have hempty : (d.letIn e x).feeds[e.feedOf x.ch].queue = [] := by
    unfold Drive.letIn
    split
    · rw [Drive.admitFresh_feed_at, if_pos rfl, hq]
      simp
    · rw [Drive.admitUpgrade_feed_at, if_pos rfl, hq]
      simp
  have hfind : d.feeds[e.feedOf x.ch].queue.find? (fun y => !([] : List Ch).contains y.ch) = some x := by
    rw [hq]
    rfl
  have hstep : d.pass e (e.feedOf x.ch) = Drive.passLoop e (e.feedOf x.ch) 15 [x.ch] (d.visit e (e.feedOf x.ch) x) := by
    rw [Drive.pass, Drive.passLoop, hfind]
  rw [hstep, Drive.visit_fits hlow hfit]
  refine Drive.passLoop_stays (fun y hy => ?_) 15 _
  rw [hempty] at hy
  cases hy

/-! ### The visits that follow an abandoned test (R143) -/

/-- A visit looks at the driven channels alone. -/
theorem Drive.visitFrom_congr (hd : ∀ c : Ch, d'.chans[c].state.driven = d.chans[c].state.driven)
    (hc : d'.check = d.check) (hn : d'.notice = d.notice) :
    (d'.visitFrom selection start).check = (d.visitFrom selection start).check ∧
      (d'.visitFrom selection start).notice = (d.visitFrom selection start).notice := by
  obtain ⟨chans, pairs, feeds, flash, check, notice⟩ := d'
  obtain rfl : check = d.check := hc
  obtain rfl : notice = d.notice := hn
  simp only [Drive.visitFrom, hd]
  generalize allChans.find? _ = next
  cases next <;> exact ⟨rfl, rfl⟩

theorem Drive.startInrush_chan_at (d : Drive) (e : Env) (c c' : Ch) :
    (d.startInrush e c).chans[c'] = if c' = c then d.chans[c].admitted (e.cfg c) else d.chans[c'] := by
  simp only [Drive.startInrush, Drive.syncFlash_chans, Drive.setReservation_chan_at, Drive.modChan_at,
    Drive.modFeed_chans, Drive.leaveQueue_chans]
  by_cases h : c' = c
  · simp [h, Channel.admitted]
  · simp [h]

theorem Drive.admitFresh_driven (d : Drive) (e : Env) (c c' : Ch) :
    (d.admitFresh e c).chans[c'].state.driven = (d.startInrush e c).chans[c'].state.driven := by
  rw [Drive.admitFresh_chan_at, Drive.startInrush_chan_at]
  split
  · split <;> rfl
  · rfl

/-- The channel under test becomes driven: the next member is visited (R143). -/
theorem Drive.admitFresh_visits {r : Run} (hr : d.check.run = some r) (hc : r.test.ch = c) (e : Env) :
    Drive.VisitsFrom { d.admitFresh e c with check := d.check, notice := d.notice } (d.admitFresh e c) r.selection
      (c.val + 1) := by
  have habandon : (d.startInrush e c).abandonTest c = (d.startInrush e c).visitFrom r.selection (c.val + 1) := by
    simp only [Drive.abandonTest, Drive.startInrush_check, hr]
    exact if_pos hc
  have hcheck := d.admitFresh_check e c
  have hnotice := d.admitFresh_notice e c
  rw [habandon] at hcheck hnotice
  obtain ⟨hcheck', hnotice'⟩ := Drive.visitFrom_congr (d := d.startInrush e c)
    (d' := { d.admitFresh e c with check := d.check, notice := d.notice }) (selection := r.selection)
    (start := c.val + 1) (d.admitFresh_driven e c) (d.startInrush_check e c).symm (d.startInrush_notice e c).symm
  have hvisits := Drive.visitFrom_visits { d.admitFresh e c with check := d.check, notice := d.notice } r.selection
    (c.val + 1)
  rwa [Drive.visitFrom_eq, hcheck', hnotice', ← hcheck, ← hnotice] at hvisits

/-! ### The Flash Generator at an admission (R124, R125) -/

/-- Told twice of the same members, the generator follows as if told once. -/
theorem Drive.FlashFollows.again (h : d.FlashFollows cfg before) (h' : d'.FlashFollows cfg d.flash)
    (hch : ∀ c : Ch, d'.chans[c].state.driven = d.chans[c].state.driven ∧ d'.chans[c].applied = d.chans[c].applied ∧
      d'.chans[c].openFlag = d.chans[c].openFlag) : d'.FlashFollows cfg before := by
  have hdriven (c : Ch) := (hch c).1
  have happlied (c : Ch) := (hch c).2.1
  have hopen (c : Ch) := (hch c).2.2
  unfold Drive.FlashFollows at h h' ⊢
  simp only [hdriven, happlied, hopen] at h' ⊢
  have hflash : d'.flash = d.flash := by
    by_cases hm : ∃ c : Ch, d.chans[c].state.driven = true ∧ d.chans[c].applied = .flash
    · obtain ⟨hgoes, hnormal, hfast⟩ := h.2 hm
      have hruns : ∃ cy, d.flash = some cy := by
        cases hb : before with
        | some cy => exact ⟨cy, hgoes cy hb⟩
        | none =>
          by_cases hout : ∃ c : Ch, (d.chans[c].state.driven = true ∧ d.chans[c].applied = .flash) ∧
              cfg.channels[c].outageWatch = true ∧ d.chans[c].openFlag = true
          · exact ⟨_, hfast hb hout⟩
          · exact ⟨_, hnormal hb hout⟩
      obtain ⟨cy, hcy⟩ := hruns
      rw [(h'.2 hm).1 cy hcy, hcy]
    · have hnone : ∀ c : Ch, ¬ (d.chans[c].state.driven = true ∧ d.chans[c].applied = .flash) :=
        fun c hc => hm ⟨c, hc⟩
      rw [h'.1 hnone, h.1 hnone]
  rw [hflash]
  exact h

theorem Drive.startInrush_follows (d : Drive) (e : Env) (c : Ch) :
    (d.startInrush e c).FlashFollows e.conf d.flash := by
  exact Drive.syncFlash_follows _ e

theorem Drive.admitFresh_follows (hopen : d.chans[c].openFlag = false) (e : Env) :
    (d.admitFresh e c).FlashFollows e.conf d.flash := by
  have hstart : ((d.startInrush e c).abandonTest c).FlashFollows e.conf d.flash :=
    (d.startInrush_follows e c).congr (Drive.abandonTest_chans ..) (Drive.abandonTest_flash ..)
  rw [Drive.admitFresh_eq]
  split
  · refine hstart.again ?_ fun c' => ?_
    · exact Drive.syncFlash_follows _ e
    · rw [Drive.enterOn_chan_at, Drive.abandonTest_chans]
      by_cases hc : c' = c
      · subst hc
        rw [if_pos rfl, Drive.startInrush_chan_at, if_pos rfl]
        exact ⟨rfl, rfl, hopen.symm⟩
      · rw [if_neg hc]
        exact ⟨rfl, rfl, rfl⟩
  · exact hstart

theorem Drive.admitUpgrade_follows (d : Drive) (e : Env) (c : Ch) :
    (d.admitUpgrade e c).FlashFollows e.conf d.flash := by
  exact Drive.syncFlash_follows _ e

/-- An admission concerns its channel and its feed alone. -/
theorem Drive.letIn_rest (d : Drive) (e : Env) (x : Entry) :
    (∀ c : Ch, c ≠ x.ch → (d.letIn e x).chans[c] = d.chans[c]) ∧ (d.letIn e x).pairs = d.pairs ∧
      (∀ g : Fin 3, g ≠ e.feedOf x.ch → (d.letIn e x).feeds[g] = d.feeds[g]) := by
  refine ⟨fun c hc => d.letIn_chan_ne e x hc, ?_, fun g hg => d.letIn_feed_ne e x hg⟩
  unfold Drive.letIn
  split
  · exact d.admitFresh_pairs e x.ch
  · exact d.admitUpgrade_pairs e x.ch

/-! ### The feed of a lone entry -/

theorem Drive.admitFresh_lone (hq : d.feeds[e.feedOf c].queue = [⟨c, .fresh⟩]) (hres : d.chans[c].reservation = 0) :
    (d.admitFresh e c).feeds[e.feedOf c] =
      ⟨d.feeds[e.feedOf c].committed + (if (e.cfg c).inrushWindow = 0 then
          steadyReservation (e.cfg c) (levelToApply (e.cfg c) d.chans[c].wanted) else inrushReservation (e.cfg c)),
        [], d.feeds[e.feedOf c].admitted ++ [c]⟩ := by
  rw [Drive.admitFresh_feed_at, if_pos rfl, hq, hres]
  refine FeedState.mk.injEq .. |>.mpr ⟨?_, by simp, rfl⟩
  split
  · omega
  · rfl

theorem Drive.admitUpgrade_lone (hq : d.feeds[e.feedOf c].queue = [⟨c, .upgrade⟩]) :
    (d.admitUpgrade e c).feeds[e.feedOf c] =
      { d.feeds[e.feedOf c] with
        committed := d.feeds[e.feedOf c].committed + d.needed e ⟨c, .upgrade⟩, queue := [] } := by
  rw [Drive.admitUpgrade_feed_at, if_pos rfl, hq]
  refine FeedState.mk.injEq .. |>.mpr ⟨by omega, by simp, rfl⟩

end

/-- Settles O32: the pass of a lone entry is its admission. -/
theorem admittedFreshGoesToInrush : Obligations.AdmittedFreshGoesToInrush := by
  intro d e c x cfg f inrush level steady d' free restKept hlow
  have hsteady : steadyReservation cfg level = steady := by
    show _ = match level with | .off => 0 | .steady => cfg.iNom | .flash => cfg.iNom | .dim duty => _
    cases level <;> rfl
  refine ⟨fun hq hres hfit => ?fresh, fun hq hres hfit => ?upgrade⟩
  case fresh =>
    have hd' : d' = d.admitFresh e c := Drive.pass_lone hq rfl hlow hfit
    have hrest : restKept := by
      obtain ⟨hchans, hpairs, hfeeds⟩ := d.letIn_rest e ⟨c, .fresh⟩
      exact ⟨fun c' hc => hd' ▸ hchans c' hc, hd' ▸ hpairs, fun g hg => hd' ▸ hfeeds g hg⟩
    have hchan := (d.admitFresh_chan_at e c c).trans (if_pos rfl)
    have hfeed := Drive.admitFresh_lone (e := e) hq hres
    refine ⟨hrest, ?_⟩
    rw [hd', ← hsteady]
    exact ⟨fun hopen => Drive.admitFresh_follows hopen e, fun r hr hc => Drive.admitFresh_visits hr hc e,
      Drive.admitFresh_apart,
      fun hw => ⟨hchan.trans (if_neg hw), hfeed.trans (congrArg (fun n => FeedState.mk (_ + n) _ _) (if_neg hw))⟩,
      fun hw => ⟨hchan.trans (if_pos hw), hfeed.trans (congrArg (fun n => FeedState.mk (_ + n) _ _) (if_pos hw))⟩⟩
  case upgrade =>
    have hneed : d.needed e ⟨c, .upgrade⟩ = steady - x.reservation := congrArg (fun n => n - x.reservation) hsteady
    have hd' : d' = d.admitUpgrade e c := Drive.pass_lone hq rfl hlow (hneed.trans_le hfit)
    have hrest : restKept := by
      obtain ⟨hchans, hpairs, hfeeds⟩ := d.letIn_rest e ⟨c, .upgrade⟩
      exact ⟨fun c' hc => hd' ▸ hchans c' hc, hd' ▸ hpairs, fun g hg => hd' ▸ hfeeds g hg⟩
    have hchan := (d.admitUpgrade_chan_at e c c).trans (if_pos rfl)
    refine ⟨hrest, ?_⟩
    rw [hd']
    refine ⟨d.admitUpgrade_follows e c, d.admitUpgrade_check e c, d.admitUpgrade_notice e c, ?chan, ?feed⟩
    case chan =>
      refine hchan.trans ?_
      rw [hneed, Nat.add_sub_cancel' hres]
      rfl
    case feed => rw [← hneed]; exact Drive.admitUpgrade_lone hq

end Sys2Proof.Machine
end

section
/-!
PROOFS. What a Channel Sequencer does with the pair that its list gives (R41, R42, R60 to R64).
-/

namespace Sys2Proof.Machine

section
variable {s : State} {d d' : Drive} {e : Env} {c : Ch} {wanted : Level} {cls : Option Cls} {cs : List Ch}
  {before : Option Cycle}

/-! ### The cases of a pair taken -/

/-- The level becomes OFF. -/
def Drive.ToOff (d : Drive) (c : Ch) (wanted : Level) : Prop := wanted ≠ d.chans[c].wanted ∧ wanted = .off

/-- The class of a driven channel falls to 0 or 1 under supply-low. -/
def Drive.ShedNow (d : Drive) (e : Env) (c : Ch) (cls : Option Cls) : Prop :=
  cls ≠ d.chans[c].cls ∧ d.chans[c].state.driven = true ∧ e.low = true ∧
    (cls = none ∨ cls = some 0 ∨ cls = some 1)

theorem Channel.rank_le_one (x : Channel) : x.rank ≤ 1 ↔ x.cls = none ∨ x.cls = some 0 ∨ x.cls = some 1 := by
  unfold Channel.rank
  generalize x.cls = cls
  revert cls
  decide

theorem Drive.takePair_idle (h : d.ToOff c wanted)
    (hs : d.chans[c].state = .disabled ∨ d.chans[c].state = .off) :
    d.takePair e c wanted cls = (d.record c wanted cls, false) := by
  obtain ⟨hnew, rfl⟩ := h
  simp only [Drive.takePair, decide_eq_true_eq]
  rw [if_pos ⟨hnew, trivial⟩]
  rcases hs with hs | hs <;> (simp only [hs]; rfl)

theorem Drive.takePair_goesOff (h : d.ToOff c wanted) (hd : d.chans[c].state ≠ .disabled)
    (ho : d.chans[c].state ≠ .off) : d.takePair e c wanted cls = (d.record c wanted cls).goOff e c := by
  obtain ⟨hnew, rfl⟩ := h
  simp only [Drive.takePair, decide_eq_true_eq]
  rw [if_pos ⟨hnew, trivial⟩]
  split
  · exact absurd ‹_› hd
  · exact absurd ‹_› ho
  all_goals rfl

theorem Drive.record_chan_self (d : Drive) (c : Ch) (wanted : Level) (cls : Option Cls) :
    (d.record c wanted cls).chans[c] = { d.chans[c] with wanted := wanted, cls := cls } :=
  (d.record_chan_at c c wanted cls).trans (if_pos rfl)

theorem Drive.record_state (d : Drive) (c : Ch) (wanted : Level) (cls : Option Cls) :
    (d.record c wanted cls).chans[c].state = d.chans[c].state := by
  rw [Drive.record_chan_self]

theorem Drive.shedNow_iff (d : Drive) (e : Env) (c : Ch) (wanted : Level) (cls : Option Cls) :
    d.ShedNow e c cls ↔ cls ≠ d.chans[c].cls ∧ d.chans[c].state.driven = true ∧ e.low = true ∧
      (d.record c wanted cls).chans[c].rank ≤ 1 := by
  rw [Channel.rank_le_one, Drive.record_chan_self]
  rfl

theorem Drive.takePair_sheds (h : ¬ d.ToOff c wanted) (hs : d.ShedNow e c cls) :
    d.takePair e c wanted cls = ((d.record c wanted cls).shed e c .undervolt, true) := by
  have hs' := (d.shedNow_iff e c wanted cls).1 hs
  simp only [Drive.takePair, decide_eq_true_eq]
  exact (if_neg h).trans (if_pos hs')

/-- A pair recorded, a new class in the feed's queue (R105, R106). -/
def Drive.classTaken (d : Drive) (e : Env) (c : Ch) (wanted : Level) (cls : Option Cls) : Drive × Bool :=
  if cls ≠ d.chans[c].cls then (d.record c wanted cls).classInFeed e c else (d.record c wanted cls, false)

theorem Drive.classInFeed_snd (d : Drive) (e : Env) (c : Ch) : (d.classInFeed e c).2 = true ↔
    d.chans[c].state = .waiting .budget ∨ d.chans[c].state.driven = true := by
  unfold Drive.classInFeed
  generalize d.chans[c].state = x
  split <;> simp [ChanState.driven]

theorem Drive.classTaken_fst (d : Drive) (e : Env) (c : Ch) (wanted : Level) (cls : Option Cls) :
    (d.classTaken e c wanted cls).1 =
      if cls ≠ d.chans[c].cls ∧ (d.chans[c].state = .waiting .budget ∨ d.chans[c].state = .on) then
        (d.record c wanted cls).requeue e c
      else d.record c wanted cls := by
  unfold Drive.classTaken
  by_cases hc : cls ≠ d.chans[c].cls
  · rw [if_pos hc, Drive.classInFeed_fst, Drive.record_state]
    simp only [hc, ne_eq, not_false_eq_true, true_and]
  · rw [if_neg hc, if_neg (fun h => hc h.1)]

theorem Drive.classTaken_snd (d : Drive) (e : Env) (c : Ch) (wanted : Level) (cls : Option Cls) :
    (d.classTaken e c wanted cls).2 = true ↔
      cls ≠ d.chans[c].cls ∧ (d.chans[c].state = .waiting .budget ∨ d.chans[c].state.driven = true) := by
  unfold Drive.classTaken
  by_cases hc : cls ≠ d.chans[c].cls
  · rw [if_pos hc, Drive.classInFeed_snd, Drive.record_state]
    exact (and_iff_right hc).symm
  · rw [if_neg hc]
    exact ⟨fun h => absurd h Bool.false_ne_true, fun h => absurd h.1 hc⟩

/-- The class of a pair reaches its feed, and a new level is taken in OFF and in ON. -/
theorem Drive.takePair_follows (h : ¬ d.ToOff c wanted) (hs : ¬ d.ShedNow e c cls) :
    d.takePair e c wanted cls =
      if wanted ≠ d.chans[c].wanted then
        if d.chans[c].state = .off then (d.classTaken e c wanted cls).1.switchOn e c
        else if d.chans[c].state = .on then
          (((d.classTaken e c wanted cls).1.levelInOn e c).1,
            (d.classTaken e c wanted cls).2 || ((d.classTaken e c wanted cls).1.levelInOn e c).2)
        else d.classTaken e c wanted cls
      else d.classTaken e c wanted cls := by
  have hs' := fun h => hs ((d.shedNow_iff e c wanted cls).2 h)
  simp only [Drive.takePair, decide_eq_true_eq]
  refine (if_neg h).trans ((if_neg hs').trans ?_)
  show (if wanted ≠ d.chans[c].wanted then
      match d.chans[c].state with
      | .off => (d.classTaken e c wanted cls).1.switchOn e c
      | .on => (((d.classTaken e c wanted cls).1.levelInOn e c).1,
          (d.classTaken e c wanted cls).2 || ((d.classTaken e c wanted cls).1.levelInOn e c).2)
      | .disabled | .waiting _ | .inrush | .tripped | .latched => d.classTaken e c wanted cls
    else d.classTaken e c wanted cls) = _
  refine ite_congr rfl (fun _ => ?_) fun _ => rfl
  generalize d.chans[c].state = x
  cases x <;> rfl

theorem Drive.takePair_records (h : ¬ d.ToOff c wanted) (hs : ¬ d.ShedNow e c cls)
    (hw : wanted = d.chans[c].wanted ∨ (d.chans[c].state ≠ .off ∧ d.chans[c].state ≠ .on)) :
    d.takePair e c wanted cls = d.classTaken e c wanted cls := by
  rw [Drive.takePair_follows h hs]
  rcases hw with hw | ⟨hoff, hon⟩
  · exact if_neg (not_not.2 hw)
  · rw [if_neg hoff, if_neg hon, ite_self]

theorem Drive.takePair_switchesOn (h : ¬ d.ToOff c wanted) (hs : ¬ d.ShedNow e c cls)
    (hw : wanted ≠ d.chans[c].wanted) (hoff : d.chans[c].state = .off) :
    d.takePair e c wanted cls = (d.record c wanted cls).switchOn e c := by
  have hfst : (d.classTaken e c wanted cls).1 = d.record c wanted cls := by
    rw [Drive.classTaken_fst, hoff]
    exact if_neg fun h => h.2.elim ChanState.noConfusion ChanState.noConfusion
  rw [Drive.takePair_follows h hs, if_pos hw, if_pos hoff, hfst]

theorem Drive.takePair_levels (h : ¬ d.ToOff c wanted) (hs : ¬ d.ShedNow e c cls) (hw : wanted ≠ d.chans[c].wanted)
    (hon : d.chans[c].state = .on) : d.takePair e c wanted cls =
      (((d.record c wanted cls).levelInOn e c).1,
        decide (cls ≠ d.chans[c].cls) || ((d.record c wanted cls).levelInOn e c).2) := by
  have hlevel : (d.classTaken e c wanted cls).1.levelInOn e c = (d.record c wanted cls).levelInOn e c := by
    rw [Drive.classTaken_fst]
    split
    · exact Drive.levelInOn_requeue _ e c
    · rfl
  have hdue : (d.classTaken e c wanted cls).2 = decide (cls ≠ d.chans[c].cls) := by
    rw [Bool.eq_iff_iff, Drive.classTaken_snd, decide_eq_true_iff, hon]
    exact and_iff_left (.inr rfl)
  rw [Drive.takePair_follows h hs, if_pos hw, if_neg (by rw [hon]; decide), if_pos hon, hlevel, hdue]

/-! ### Going off (R63) -/

/-- The feed of a drive side after a change of its queue alone. -/
theorem Drive.modFeed_queue {f : Fin 3} {Q : FeedState → List Entry}
    (h : d' = d.modFeed f (fun z => { z with queue := Q z })) :
    d' = { d with feeds := d.feeds.set f { d.feeds[f] with queue := d'.feeds[f].queue } } ∧
      d'.feeds[f].queue = Q d.feeds[f] := by
  have hself : (d.modFeed f (fun z => { z with queue := Q z })).feeds[f].queue = Q d.feeds[f] :=
    congrArg FeedState.queue (Vector.getElem_set_self _)
  subst h
  refine ⟨?_, hself⟩
  rw [hself]
  rfl

theorem Drive.goOff_feed_at (d : Drive) (e : Env) (c : Ch) (g : Fin 3) :
    (d.goOff e c).1.feeds[g] =
      if g = e.feedOf c then d.feeds[e.feedOf c].without c d.chans[c].reservation else d.feeds[g] := by
  unfold Drive.goOff
  dsimp only
  rw [Drive.releasePair_feeds, Drive.undrive_feed_at, Drive.modChan_feeds, Drive.modChan_at, if_pos rfl]
  split
  · subst g; rfl
  · rfl

theorem Drive.goOff_follows (h : d.flash = before) (e : Env) (c : Ch) :
    (d.goOff e c).1.FlashFollows e.conf before := by
  unfold Drive.goOff
  refine Drive.FlashFollows.congr ?_ (Drive.releasePair_chans ..) (Drive.releasePair_flash ..)
  exact Drive.undrive_follows ((Drive.modChan_flash ..).trans h) e c .off

theorem Drive.goOff_pairs (d : Drive) (e : Env) (c : Ch) : (d.goOff e c).1.pairs = (d.releasePair e c).pairs := by
  unfold Drive.goOff
  refine Drive.releasePair_pairs_congr ?_ e c
  exact Drive.undrive_pairs ..

theorem Drive.goOff_check (d : Drive) (e : Env) (c : Ch) : (d.goOff e c).1.check = d.check :=
  (Drive.releasePair_check ..).trans (Drive.undrive_check ..)

/-- The channel that its wanted level takes to OFF: its retries and its last fault given up, marked hot where it leaves
a fault above T_cool. -/
def Channel.wentOff (x : Channel) (hot : Prop) [Decidable hot] : Channel :=
  { x.stopped .off with
    retries := 0, lastFault := none, retryTimer := none,
    cooling := x.cooling || decide ((x.state = .tripped ∨ x.state = .latched) ∧ hot) }

theorem Drive.goOff_switchedOff (d : Drive) (e : Env) (c : Ch) (wanted : Level) (cls : Option Cls) :
    d.SwitchedOff e.conf c
      (Channel.wentOff { d.chans[c] with wanted := wanted, cls := cls }
        (64 * e.conf.channels[c].iRate ^ 2 < e.monitors[c].heat))
      ((d.record c wanted cls).goOff e c).1 := by
  refine .of_parts (fun c' => ?chan) (fun g => ?feed) (Drive.goOff_check ..)
    (Drive.goOff_follows (Drive.record_flash ..) e c)
  case chan =>
    rw [Drive.goOff_chan_at, Drive.record_chan_self, Env.hot_eq, Channel.coolingOnLeave_eq]
    split
    · rfl
    · rename_i hc
      rw [Drive.record_chan_at, if_neg hc]
  case feed => rw [Drive.goOff_feed_at, Drive.record_chan_self, Drive.record_feeds]

/-! ### Changes of the queue (R105) -/

theorem Drive.rejoin_eq (d : Drive) (e : Env) (c : Ch) (k : EntryKind) :
    (d.leaveQueue e c).joinQueue e ⟨c, k⟩ = d.modFeed (e.feedOf c) (fun z =>
      { z with queue := queueJoin (fun y => d.chans[y].rank) ⟨c, k⟩ (z.queue.filter (fun y => y.ch ≠ c)) }) :=
  Drive.modFeed_modFeed ..

/-- The channel's only entry moves to the end of its class group. -/
theorem Drive.requeue_moves {q : Entry} (hq : q ∈ d.feeds[e.feedOf c].queue) (hc : q.ch = c)
    (hu : ∀ q' ∈ d.feeds[e.feedOf c].queue, q'.ch = c → q' = q) :
    d.requeue e c = d.modFeed (e.feedOf c) (fun z =>
      { z with queue := queueJoin (fun y => d.chans[y].rank) q (z.queue.filter (fun y => y.ch ≠ c)) }) := by
  rcases d.requeue_cases e c with ⟨hnone, -⟩ | ⟨k, hk, h⟩
  · exact absurd hc (hnone q hq)
  · rw [h, Drive.rejoin_eq, hu _ hk rfl]

theorem Drive.requeue_stays (h : ∀ q ∈ d.feeds[e.feedOf c].queue, q.ch ≠ c) : d.requeue e c = d := by
  rcases d.requeue_cases e c with ⟨-, hstay⟩ | ⟨k, hk, -⟩
  · exact hstay
  · exact absurd rfl (h _ hk)

/-! ### A new level in ON (R61) -/

/-- A drive side changed in one channel, one feed and the Flash Generator. -/
theorem Drive.eq_of_parts {y : Channel} {f : Fin 3} {z : FeedState}
    (hchans : ∀ c' : Ch, d'.chans[c'] = if c' = c then y else d.chans[c'])
    (hfeeds : ∀ g : Fin 3, d'.feeds[g] = if g = f then z else d.feeds[g]) (hpairs : d'.pairs = d.pairs)
    (hcheck : d'.check = d.check) (hnotice : d'.notice = d.notice) :
    d' = { d with chans := d.chans.set c y, feeds := d.feeds.set f z, flash := d'.flash } := by
  have hc := vector_eq_set hchans
  have hf := vector_eq_set hfeeds
  obtain ⟨chans, pairs, feeds, flash, check, notice⟩ := d'
  dsimp only at hc hf hpairs hcheck hnotice ⊢
  rw [hc, hf, hpairs, hcheck, hnotice]

/-- The steady reservation of a channel's wanted level. -/
def Drive.steady (d : Drive) (e : Env) (c : Ch) : Nat :=
  steadyReservation (e.cfg c) (levelToApply (e.cfg c) d.chans[c].wanted)

theorem Drive.levelInOn_snd (d : Drive) (e : Env) (c : Ch) :
    (d.levelInOn e c).2 = decide (d.steady e c ≠ d.chans[c].reservation) := by
  unfold Drive.levelInOn
  dsimp only
  split
  · rename_i hle
    exact decide_eq_decide.2 ⟨Nat.ne_of_lt, Nat.lt_of_le_of_ne hle⟩
  · rename_i hlt
    exact (decide_eq_true (Ne.symm (Nat.ne_of_lt (Nat.not_le.1 hlt)))).symm

/-- A level that needs no more is applied at once, and the rest of the reservation given up. -/
theorem Drive.levelInOn_applies (h : d.steady e c ≤ d.chans[c].reservation) :
    (d.levelInOn e c).1 = { d with
      chans := d.chans.set c { d.chans[c].apply (levelToApply (e.cfg c) d.chans[c].wanted) with
        upgrade := false, reservation := d.steady e c }
      feeds := d.feeds.set (e.feedOf c) { d.feeds[e.feedOf c] with
        committed := d.feeds[e.feedOf c].committed + d.steady e c - d.chans[c].reservation
        queue := d.feeds[e.feedOf c].queue.filter (fun q => q.ch ≠ c) }
      flash := (d.levelInOn e c).1.flash } ∧
    (d.levelInOn e c).1.FlashFollows e.conf d.flash := by
  have heq : (d.levelInOn e c).1 = (((d.leaveQueue e c).modChan c (fun x =>
      { x.apply (levelToApply (e.cfg c) d.chans[c].wanted) with upgrade := false })).setReservation e c
        (d.steady e c)).syncFlash e :=
    congrArg Prod.fst (if_pos h)
  refine ⟨Drive.eq_of_parts (fun c' => ?chan) (fun g => ?feed) ?_ ?_ ?_, ?follows⟩
  case chan =>
    rw [heq, Drive.syncFlash_chans, Drive.setReservation_chan_at, Drive.modChan_at, Drive.modChan_at, if_pos rfl]
    split <;> rfl
  case feed =>
    rw [heq, Drive.syncFlash_feeds, Drive.setReservation_feed_at, Drive.modChan_feeds, Drive.modChan_at, if_pos rfl,
      Drive.leaveQueue_feed_at]
    split
    · subst g; rfl
    · rfl
  case follows =>
    rw [heq]
    exact Drive.syncFlash_follows _ e
  all_goals
    rw [heq]
    simp

/-- A level that needs more waits for it as an upgrade. -/
theorem Drive.levelInOn_raises (h : d.chans[c].reservation < d.steady e c) :
    (d.levelInOn e c).1 = (d.modChan c (fun x => { x with upgrade := true })).modFeed (e.feedOf c) (fun z =>
      { z with queue := queueJoin (fun y => d.chans[y].rank) ⟨c, .upgrade⟩ (z.queue.filter (fun y => y.ch ≠ c)) }) := by
  have heq : (d.levelInOn e c).1 =
      ((d.modChan c (fun x => { x with upgrade := true })).leaveQueue e c).joinQueue e ⟨c, .upgrade⟩ :=
    congrArg Prod.fst (if_neg (Nat.not_le.2 h))
  have hrank : (fun y : Ch => (d.modChan c (fun x => { x with upgrade := true })).chans[y].rank) =
      fun y => d.chans[y].rank := by
    funext y
    rw [Drive.modChan_at]
    split
    · subst y; rfl
    · rfl
  rw [heq, Drive.rejoin_eq, hrank]

/-! ### The hand-over (R42) -/

theorem Drive.takePair_same (d : Drive) (e : Env) (c : Ch) :
    d.takePair e c d.chans[c].wanted d.chans[c].cls = (d, false) := by
  rw [Drive.takePair_records (fun h => h.1 rfl) (fun h => h.1 rfl) (.inl rfl), Drive.classTaken,
    if_neg (not_not.2 rfl), Drive.record_self]

/-- Pairs that are held already change nothing. -/
theorem Drive.takePairs_same (e : Env) (pair : Ch → Level × Option Cls)
    (h : ∀ c ∈ cs, (d.chans[c].wanted, d.chans[c].cls) = pair c) :
    d.takePairs e (cs.map (fun c => (c, pair c))) = d := by
  unfold Drive.takePairs
  suffices hfold : (cs.map (fun c => (c, pair c))).foldl (fun (acc : Drive × List (Fin 3)) n =>
      ((acc.1.takePair e n.1 n.2.1 n.2.2).1,
        if (acc.1.takePair e n.1 n.2.1 n.2.2).2 then e.feedOf n.1 :: acc.2 else acc.2)) (d, []) = (d, []) by
    dsimp only
    rw [hfold]
    exact d.passes_nil e
  induction cs with
  | nil => rfl
  | cons c cs ih =>
    have hc : d.takePair e c (pair c).1 (pair c).2 = (d, false) := by
      rw [← h c List.mem_cons_self]
      exact d.takePair_same e c
    rw [List.map_cons, List.foldl_cons]
    dsimp only
    rw [hc]
    exact ih fun c' hc' => h c' (List.mem_cons_of_mem _ hc')

theorem Drive.takePairs_one (d : Drive) (e : Env) (c : Ch) (pair : Level × Option Cls) :
    d.takePairs e [(c, pair)] =
      if (d.takePair e c pair.1 pair.2).2 then (d.takePair e c pair.1 pair.2).1.pass e (e.feedOf c)
      else (d.takePair e c pair.1 pair.2).1 := by
  unfold Drive.takePairs
  simp only [List.foldl_cons, List.foldl_nil]
  split
  · exact Drive.passes_one ..
  · exact Drive.passes_nil ..

theorem State.winnerPair_empty (h : s.lists[c] = []) : s.winnerPair c = (.off, none) := by
  rw [State.winnerPair_eq, h]
  rfl

theorem State.winnerPair_head {y : Handle} {x : Demand} {time : Option Nat} (hy : s.lists[c].head? = some y)
    (hx : s.records[y] = .live x time) : s.winnerPair c = (x.level, some x.cls) := by
  rw [State.winnerPair_eq, hy]
  exact congrArg Record.shownPair hx

end

/-- Settles O26: the hand-over by the pairs of its channels, the taking of a pair by what it changes. -/
theorem unchangedPairIsNotHandedOn : Obligations.UnchangedPairIsNotHandedOn := by
  refine ⟨fun s cs h => ?unchanged, fun s c => ⟨State.winnerPair_empty, fun y d time => State.winnerPair_head, ?one⟩,
    fun d e c wanted cls hw => ?taken⟩
  case unchanged =>
    have hdrive := Drive.takePairs_same s.env s.winnerPair h
    show { s with drive := _ } = s
    rw [hdrive]
  case one =>
    intro r
    exact congrArg (fun d => { s with drive := d }) (s.drive.takePairs_one s.env c (s.winnerPair c))
  case taken =>
    intro x y cfg f put rank others taken newLevel newClass toOff shedNow recorded
    refine ⟨fun h hs => Drive.takePair_idle h hs, fun h hd ho => ?goesOff, fun h hs => ?sheds,
      fun h hs => ⟨fun hl => ?records, fun hl ho => Drive.takePair_switchesOn h hs hl ho, fun hl hon => ?levels⟩⟩
    case goesOff =>
      intro hot
      have ht : taken = (d.record c wanted cls).goOff e c := Drive.takePair_goesOff h hd ho
      obtain ⟨heq, hflash⟩ := d.goOff_switchedOff e c wanted cls
      have hnotice : ((d.record c wanted cls).goOff e c).1.notice = d.notice := Drive.goOff_notice ..
      have hpairs : ((d.record c wanted cls).goOff e c).1.pairs = (d.releasePair e c).pairs :=
        (Drive.goOff_pairs ..).trans (Drive.releasePair_pairs_congr (Drive.record_pairs ..) e c)
      rw [hnotice] at heq
      rw [ht]
      refine ⟨?released, heq, hflash, fun p => ?pair⟩
      case released =>
        show decide ((d.record c wanted cls).chans[c].reservation ≠ 0) = _
        rw [Drive.record_chan_self]
      case pair =>
        rw [hpairs]
        split
        · exact Drive.releasePair_held hw ‹_›
        · exact Drive.releasePair_kept hw ‹_›
    case sheds =>
      have ht : taken = ((d.record c wanted cls).shed e c .undervolt, true) := Drive.takePair_sheds h hs
      rw [ht]
      exact ⟨rfl, Drive.shed_shedOf _ e c .undervolt⟩
    case records =>
      have ht : taken = d.classTaken e c wanted cls :=
        Drive.takePair_records h hs (hl.imp_left not_not.1)
      have hfst := d.classTaken_fst e c wanted cls
      have hsnd := d.classTaken_snd e c wanted cls
      rw [← ht] at hfst hsnd
      refine ⟨fun q hq hc hu hn hst => ?moves, fun hno => ?stays, hsnd⟩
      case moves =>
        rw [if_pos ⟨hn, hst⟩, Drive.requeue_moves (d := d.record c wanted cls) hq hc hu] at hfst
        obtain ⟨heq, hqueue⟩ := Drive.modFeed_queue hfst
        exact ⟨heq, hqueue ▸ joinedInClass rank q others⟩
      case stays =>
        rw [hfst]
        split
        · rename_i hst
          refine Drive.requeue_stays ?_
          rcases hno with hno | hno | hno
          · exact hno
          · exact absurd hst.1 hno
          · exact absurd hst.2 (not_or.2 hno)
        · rfl
    case levels =>
      intro level steady
      have hsteady : (d.record c wanted cls).steady e c = steady := by
        rw [Drive.steady, Drive.record_chan_self]
        show steadyReservation cfg level =
          match level with | .off => 0 | .steady => cfg.iNom | .flash => cfg.iNom | .dim duty => _
        cases level <;> rfl
      have hheld : (d.record c wanted cls).chans[c].reservation = x.reservation := by rw [Drive.record_chan_self]
      have ht : taken = (((d.record c wanted cls).levelInOn e c).1,
          decide (cls ≠ d.chans[c].cls) || ((d.record c wanted cls).levelInOn e c).2) :=
        Drive.takePair_levels h hs hl hon
      rw [Drive.levelInOn_snd, hsteady, hheld] at ht
      rw [ht]
      refine ⟨fun hle => ⟨?due, ?applies⟩, fun hlt => ⟨?dueMore, ?raises⟩⟩
      case due =>
        rw [Bool.or_eq_true, decide_eq_true_iff, decide_eq_true_iff]
        exact or_congr_right ⟨Nat.lt_of_le_of_ne hle, Nat.ne_of_lt⟩
      case applies =>
        have happlies := Drive.levelInOn_applies (d := d.record c wanted cls) (by rw [hsteady, hheld]; exact hle)
        have hset (z : Channel) : (d.record c wanted cls).chans.set c z = d.chans.set c z := Vector.set_set ..
        rw [hsteady, hheld, hset, Drive.record_chan_self] at happlies
        exact happlies
      case dueMore =>
        rw [Bool.or_eq_true, decide_eq_true_iff, decide_eq_true_iff]
        exact .inr (Nat.ne_of_gt hlt)
      case raises =>
        have hraises := Drive.levelInOn_raises (d := d.record c wanted cls) (by rw [hsteady, hheld]; exact hlt)
        have hmod : (d.record c wanted cls).modChan c (fun x => { x with upgrade := true }) =
            put { y with upgrade := true } := Drive.modChan_modChan ..
        rw [hmod] at hraises
        obtain ⟨heq, hqueue⟩ := Drive.modFeed_queue hraises
        exact ⟨heq, hqueue ▸ joinedInClass rank ⟨c, .upgrade⟩ others⟩

end Sys2Proof.Machine
end

section
/-!
PROOFS. READ INTERLOCK and SET INTERLOCK (R78, R79).
-/

namespace Sys2Proof.Machine

section
variable {d : Drive} {e : Env} {p q : PairNo} {a b c v : Ch} {f : Fin 3} {x : Channel} {start : Nat} {old : PairConfig}

/-! ### The holder that SET INTERLOCK sets (R78) -/

theorem ChanState.claims_iff {x : ChanState} : x.claims = true ↔ x = .waiting .budget ∨ x = .tripped := by
  rcases x with _ | _ | (_ | _ | _) | _ | _ | _ | _ <;> simp [ChanState.claims]

theorem Drive.holderFor_driven_left (ha : d.chans[a].state.driven = true) : d.holderFor a b = .a := if_pos ha

theorem Drive.holderFor_driven_right (ha : ¬ d.chans[a].state.driven = true) (hb : d.chans[b].state.driven = true) :
    d.holderFor a b = .b := (if_neg ha).trans (if_pos hb)

/-- The channel claims the pair while neither member is driven. -/
def Drive.Claims (d : Drive) (c : Ch) : Prop :=
  d.chans[c].state = .waiting .budget ∨ d.chans[c].state = .tripped

theorem Drive.holderFor_undriven (ha : ¬ d.chans[a].state.driven = true) (hb : ¬ d.chans[b].state.driven = true) :
    (d.Claims a → (d.Claims b → a ≤ b) → d.holderFor a b = .a) ∧
    (d.Claims b → (d.Claims a → b < a) → d.holderFor a b = .b) ∧
    (¬ d.Claims a → ¬ d.Claims b → d.holderFor a b = .none) := by
  have heq : d.holderFor a b =
      if d.chans[a].state.claims = true ∧ (d.chans[b].state.claims = true → a ≤ b) then .a
      else if d.chans[b].state.claims = true then .b else .none := by
    refine (if_neg ha).trans ((if_neg hb).trans ?_)
    cases d.chans[a].state.claims <;> cases d.chans[b].state.claims <;> simp
  have hclaims (c : Ch) : d.Claims c ↔ d.chans[c].state.claims = true := ChanState.claims_iff.symm
  simp only [hclaims, heq]
  exact ⟨fun hca hle => if_pos ⟨hca, hle⟩,
    fun hcb hlt => (if_neg fun h => absurd (h.2 hcb) (not_le.2 (hlt h.1))).trans (if_pos hcb),
    fun hca hcb => (if_neg fun h => hca h.1).trans (if_neg hcb)⟩

/-- The member that the arbiter grants when the new holder is none. -/
def Drive.granted (d : Drive) (e : Env) (p : PairNo) : Option Ch :=
  if e.conf.pairs[p].enabled = true ∧ d.newHolder e p = .none then
    d.arbiterChoice e.conf.pairs[p].a e.conf.pairs[p].b
  else none

/-- The holder after the arbiter has acted. -/
def Drive.finalHolder (d : Drive) (e : Env) (p : PairNo) : Holder :=
  ((d.granted e p).map (e.sideOf p)).getD (d.newHolder e p)

/-- The channel is a member of the pair as it is set. -/
def Env.Member (e : Env) (p : PairNo) (c : Ch) : Prop :=
  e.conf.pairs[p].enabled = true ∧ (c = e.conf.pairs[p].a ∨ c = e.conf.pairs[p].b)

/-- A member in WAITING(BUDGET) whose partner is made the holder. -/
def Drive.Displaced (d : Drive) (e : Env) (p : PairNo) (c : Ch) : Prop :=
  e.conf.pairs[p].enabled = true ∧ d.chans[c].state = .waiting .budget ∧
    ((d.newHolder e p = .b ∧ c = e.conf.pairs[p].a) ∨ (d.newHolder e p = .a ∧ c = e.conf.pairs[p].b))

theorem Drive.Displaced.member (h : d.Displaced e p c) : e.Member p c := by
  obtain ⟨he, -, ⟨-, hc⟩ | ⟨-, hc⟩⟩ := h
  · exact ⟨he, .inl hc⟩
  · exact ⟨he, .inr hc⟩

/-- The arbiter grants a member that waits, where nobody is made the holder. -/
theorem Drive.granted_waits (h : d.granted e p = some c) :
    e.Member p c ∧ d.chans[c].state.waitsForPair = true ∧ d.newHolder e p = .none := by
  unfold Drive.granted at h
  split at h
  · rename_i hn
    obtain ⟨hmember, hwaits⟩ := Drive.arbiterChoice_waits h
    exact ⟨⟨hn.1, hmember⟩, ChanState.waitsForPair_of_waitStart hwaits, hn.2⟩
  · cases h

/-! ### The pair's own change and the arbiter's grant -/

/-- SET INTERLOCK's change of the pair with the arbiter's grant, before the former members go on. -/
def Drive.settled (d : Drive) (e : Env) (p : PairNo) : Drive × List (Fin 3) :=
  if e.conf.pairs[p].enabled = true ∧ d.newHolder e p = .none then (d.pairHandled e p).arbitrate e p
  else (d.pairHandled e p, [])

/-- The drive side with the pair's new holder. -/
def Drive.withHolder (d : Drive) (e : Env) (p : PairNo) : Drive := d.modPair p (fun _ => ⟨d.newHolder e p, none⟩)

theorem Drive.pairHandled_idle (h : ¬ (e.conf.pairs[p].enabled = true ∧ d.newHolder e p ≠ .none)) :
    d.pairHandled e p = d.withHolder e p := by
  have hb : ¬ (e.conf.pairs[p].enabled = true ∧ d.newHolder e p = .b) :=
    fun hb => h ⟨hb.1, by rw [hb.2]; exact Holder.noConfusion⟩
  have ha : ¬ (e.conf.pairs[p].enabled = true ∧ d.newHolder e p = .a) :=
    fun ha => h ⟨ha.1, by rw [ha.2]; exact Holder.noConfusion⟩
  exact (if_neg ha).trans (if_neg hb)

theorem Drive.pairHandled_left (he : e.conf.pairs[p].enabled = true) (ha : d.newHolder e p = .a) :
    d.pairHandled e p = (d.withHolder e p).displace e e.conf.pairs[p].b := by
  have hb : ¬ (e.conf.pairs[p].enabled = true ∧ d.newHolder e p = .b) := by rw [ha]; exact fun h => nomatch h.2
  exact (if_pos ⟨he, ha⟩).trans (congrArg (fun d' : Drive => d'.displace e e.conf.pairs[p].b) (if_neg hb))

theorem Drive.pairHandled_right (he : e.conf.pairs[p].enabled = true) (hb : d.newHolder e p = .b) :
    d.pairHandled e p = (d.withHolder e p).displace e e.conf.pairs[p].a := by
  have ha : ¬ (e.conf.pairs[p].enabled = true ∧ d.newHolder e p = .a) := by rw [hb]; exact fun h => nomatch h.2
  exact (if_neg ha).trans (if_pos ⟨he, hb⟩)

/-- The new holder displaces its partner, or nobody. -/
theorem Drive.pairHandled_cases (d : Drive) (e : Env) (p : PairNo) :
    (d.pairHandled e p = d.withHolder e p ∧ ∀ c, ¬ d.Displaced e p c) ∨
    ∃ v, (∀ c, d.Displaced e p c ↔ c = v ∧ d.chans[c].state = .waiting .budget) ∧
      d.pairHandled e p = (d.withHolder e p).displace e v := by
  by_cases he : e.conf.pairs[p].enabled = true
  · cases hh : d.newHolder e p with
    | none => exact .inl ⟨Drive.pairHandled_idle fun h => h.2 hh, fun c hc => by
        obtain ⟨-, -, ⟨hb, -⟩ | ⟨ha, -⟩⟩ := hc
        · rw [hh] at hb; cases hb
        · rw [hh] at ha; cases ha⟩
    | a =>
      refine .inr ⟨_, fun c => ⟨fun ⟨_, hs, hm⟩ => ⟨?_, hs⟩, fun ⟨hc, hs⟩ => ⟨he, hs, .inr ⟨hh, hc⟩⟩⟩,
        Drive.pairHandled_left he hh⟩
      exact (hm.resolve_left fun h => by rw [hh] at h; cases h.1).2
    | b =>
      refine .inr ⟨_, fun c => ⟨fun ⟨_, hs, hm⟩ => ⟨?_, hs⟩, fun ⟨hc, hs⟩ => ⟨he, hs, .inl ⟨hh, hc⟩⟩⟩,
        Drive.pairHandled_right he hh⟩
      exact (hm.resolve_right fun h => by rw [hh] at h; cases h.1).2
  · exact .inl ⟨Drive.pairHandled_idle fun h => he h.1, fun c hc => he hc.1⟩

theorem Drive.pairHandled_displaced (h : d.Displaced e p c) :
    (d.pairHandled e p).chans[c] = { d.chans[c] with state := .waiting (.interlock e.now) } := by
  rcases d.pairHandled_cases e p with ⟨-, hno⟩ | ⟨v, hv, heq⟩
  · exact absurd h (hno c)
  · obtain ⟨rfl, hs⟩ := (hv c).1 h
    rw [heq, Drive.displace_chan_at]
    exact if_pos ⟨rfl, hs⟩

theorem Drive.pairHandled_kept (h : ¬ d.Displaced e p c) : (d.pairHandled e p).chans[c] = d.chans[c] := by
  rcases d.pairHandled_cases e p with ⟨heq, -⟩ | ⟨v, hv, heq⟩
  · rw [heq]; rfl
  · rw [heq, Drive.displace_chan_at]
    refine if_neg fun hc => ?_
    obtain ⟨rfl, hs⟩ := hc
    exact h ((hv c).2 ⟨rfl, hs⟩)

theorem Drive.settled_cases (d : Drive) (e : Env) (p : PairNo) :
    (d.granted e p = none ∧ d.settled e p = (d.pairHandled e p, [])) ∨
    ∃ c, d.granted e p = some c ∧ d.pairHandled e p = d.withHolder e p ∧
      d.settled e p = (((d.withHolder e p).modPair p (fun x => { x with holder := e.sideOf p c })).joinFresh e c,
        [e.feedOf c]) := by
  unfold Drive.granted Drive.settled
  by_cases hn : e.conf.pairs[p].enabled = true ∧ d.newHolder e p = .none
  · have hidle : d.pairHandled e p = d.withHolder e p := Drive.pairHandled_idle fun h => h.2 hn.2
    rw [if_pos hn, if_pos hn, hidle]
    have hchoice : (d.withHolder e p).arbiterChoice e.conf.pairs[p].a e.conf.pairs[p].b =
        d.arbiterChoice e.conf.pairs[p].a e.conf.pairs[p].b := Drive.arbiterChoice_modPair ..
    cases hc : d.arbiterChoice e.conf.pairs[p].a e.conf.pairs[p].b with
    | none => exact .inl ⟨rfl, Drive.arbitrate_idle (hchoice.trans hc)⟩
    | some c => exact .inr ⟨c, rfl, rfl, Drive.arbitrate_grants (hchoice.trans hc)⟩
  · rw [if_neg hn, if_neg hn]
    exact .inl ⟨rfl, rfl⟩

theorem Drive.settled_pairs (d : Drive) (e : Env) (p q : PairNo) :
    (d.settled e p).1.pairs[q] = if q = p then ⟨d.finalHolder e p, none⟩ else d.pairs[q] := by
  rcases d.settled_cases e p with ⟨hg, heq⟩ | ⟨c, hg, -, heq⟩
  · rw [heq, Drive.finalHolder, hg]
    exact (congrArg (fun ps : Vector PairState 8 => ps[q]) (d.pairHandled_pairs e p)).trans (d.modPair_at p q _)
  · rw [heq, Drive.finalHolder, hg, Drive.joinFresh_pairs, Drive.withHolder, Drive.modPair_modPair]
    exact d.modPair_at p q _

theorem Drive.settled_granted (h : d.granted e p = some c) : (d.settled e p).1.chans[c].state = .waiting .budget := by
  rcases d.settled_cases e p with ⟨hg, -⟩ | ⟨c', hg, -, heq⟩
  · rw [h] at hg; cases hg
  · obtain rfl : c = c' := Option.some.inj (h.symm.trans hg)
    rw [heq, Drive.joinFresh_chan_at, if_pos rfl]

/-- A channel that is not granted the pair is as the pair's own change leaves it. -/
theorem Drive.settled_chan (h : d.granted e p ≠ some c) :
    (d.settled e p).1.chans[c] = (d.pairHandled e p).chans[c] := by
  rcases d.settled_cases e p with ⟨-, heq⟩ | ⟨c', hg, hidle, heq⟩
  · rw [heq]
  · have hc : c ≠ c' := fun hc => h (hc ▸ hg)
    rw [heq, Drive.joinFresh_chan_at, if_neg hc, hidle]
    rfl

/-! ### Channels that no pass can reach -/

/-- The channel stands in no queue and on no admitted list. -/
def Drive.Apart (d : Drive) (c : Ch) : Prop :=
  ∀ f : Fin 3, (∀ y ∈ d.feeds[f].queue, y.ch ≠ c) ∧ c ∉ d.feeds[f].admitted

/-- The channel is as given, and no pass can reach it. -/
def Drive.Rests (d : Drive) (c : Ch) (x : Channel) : Prop := d.chans[c] = x ∧ d.Apart c

theorem Drive.Apart.congr {d' : Drive} (h : d.Apart c) (hf : d'.feeds = d.feeds) : d'.Apart c := by
  unfold Drive.Apart
  rw [hf]
  exact h

theorem Drive.Apart.joinFresh (h : d.Apart c) (hv : c ≠ v) (e : Env) : (d.joinFresh e v).Apart c := by
  intro f
  rw [Drive.joinFresh_feed_at]
  split
  · refine ⟨fun y hy => ?_, (h f).2⟩
    dsimp only at hy
    rcases mem_queueJoin.1 hy with rfl | hy
    · exact hv.symm
    · exact (h f).1 y hy
  · exact h f

theorem Drive.Rests.joinFresh (h : d.Rests c x) (hv : c ≠ v) (e : Env) : (d.joinFresh e v).Rests c x :=
  ⟨by rw [Drive.joinFresh_chan_at, if_neg hv]; exact h.1, h.2.joinFresh hv e⟩

theorem Drive.Rests.leavePair (h : d.Rests c x) (hv : c ≠ v) (e : Env) : (d.leavePair e v).1.Rests c x := by
  unfold Drive.leavePair
  split
  · exact h.joinFresh hv e
  · exact h

theorem Drive.Rests.pass (h : d.Rests c x) (e : Env) (f : Fin 3) : (d.pass e f).Rests c x := by
  refine Drive.pass_induct (P := fun d' => d'.Rests c x) (fun d' v y ⟨hx, ha⟩ hv _ _ => ?shed)
    (fun d' y ⟨hx, ha⟩ hy _ _ => ?letIn) d h
  case shed =>
    have hcv : c ≠ v := fun hcv => (ha f).2 (hcv ▸ hv)
    refine ⟨((d'.shed_chan_at e v c .budget).trans (if_neg hcv)).trans hx, fun g => ?_⟩
    rw [Drive.shed_feed_at]
    split
    · refine ⟨fun z hz => ?_, fun hin => (ha g).2 (List.mem_filter.1 hin).1⟩
      dsimp only at hz
      rcases mem_queueJoin.1 hz with rfl | hz
      · exact hcv.symm
      · exact (ha g).1 z (List.mem_filter.1 hz).1
    · exact ha g
  case letIn =>
    have hcy : c ≠ y.ch := ((ha f).1 y hy).symm
    exact ⟨(d'.letIn_chan_ne e y hcy).trans hx, fun g => ⟨fun z hz => (ha g).1 z (Drive.mem_queue_of_letIn hz),
      fun hin => (ha g).2 (Drive.mem_admitted_of_letIn hin hcy)⟩⟩

theorem Drive.Rests.passes (h : d.Rests c x) (e : Env) (due : List (Fin 3)) : (d.passes e due).Rests c x :=
  Drive.passes_induct (P := fun d' => d'.Rests c x) (fun _ f hd => hd.pass e f) due d h

/-- A channel in WAITING that has no entry is apart. -/
theorem Drive.FeedsSound.apart {cfg : Configuration} (h : d.FeedsSound cfg) (hd : d.chans[c].state.driven = false)
    (hb : d.chans[c].state ≠ .waiting .budget) : d.Apart c := by
  refine fun f => ⟨h.not_mem_queue (Channel.entryKind_of_undriven hd hb) f, fun hin => ?_⟩
  exact absurd (hd.symm.trans (((h.admitted f).2 c).1 hin).2) Bool.false_ne_true

/-- A displaced channel has left its queue. -/
theorem Drive.FeedsSound.displaced_rests (h : d.FeedsSound e.conf) (hc : d.Displaced e p c) :
    (d.pairHandled e p).Rests c { d.chans[c] with state := .waiting (.interlock e.now) } := by
  refine ⟨Drive.pairHandled_displaced hc, fun f => ?_⟩
  have hbudget : d.chans[c].state = .waiting .budget := hc.2.1
  rcases d.pairHandled_cases e p with ⟨-, hno⟩ | ⟨v, hv, heq⟩
  · exact absurd hc (hno c)
  obtain ⟨rfl, -⟩ := (hv c).1 hc
  have hmove : (d.withHolder e p).displace e c = ((d.withHolder e p).leaveQueue e c).modChan c
      (fun x => { x with state := .waiting (.interlock e.now) }) := if_pos hbudget
  have hfeed : (d.pairHandled e p).feeds[f] = ((d.withHolder e p).leaveQueue e c).feeds[f] := by
    rw [heq, hmove]
    rfl
  have hout : c ∉ d.feeds[f].admitted := fun hin => by
    have hd := (((h.admitted f).2 c).1 hin).2
    rw [hbudget] at hd
    cases hd
  rw [hfeed, Drive.leaveQueue_feed_at]
  split
  · exact ⟨fun y hy => by simpa using (List.mem_filter.1 hy).2, hout⟩
  · rename_i hf
    refine ⟨fun y hy hyc => hf ?_, hout⟩
    subst hyc
    exact ((h.queue f y).1 hy).1.symm

/-! ### Members that went on stay past the interlock test -/

theorem Drive.pass_pastTest2 (h : d.chans[c].state.pastTest2 = true) (e : Env) (f : Fin 3) :
    (d.pass e f).chans[c].state.pastTest2 = true := by
  refine Drive.pass_induct (P := fun d' => d'.chans[c].state.pastTest2 = true) (fun d' v y hd _ _ _ => ?shed)
    (fun d' y hd _ _ _ => ?letIn) d h
  case shed =>
    rw [Drive.shed_chan_at]
    split
    · rfl
    · exact hd
  case letIn =>
    unfold Drive.letIn
    split
    · rw [Drive.admitFresh_chan_at]
      split
      · split <;> rfl
      · exact hd
    · rw [Drive.admitUpgrade_chan_at]
      split
      · subst c; exact hd
      · exact hd

theorem Drive.passes_pastTest2 (h : d.chans[c].state.pastTest2 = true) (e : Env) (due : List (Fin 3)) :
    (d.passes e due).chans[c].state.pastTest2 = true :=
  Drive.passes_induct (P := fun d' => d'.chans[c].state.pastTest2 = true)
    (fun _ f hd => Drive.pass_pastTest2 hd e f) due d h

theorem Drive.leavePair_pastTest2 (h : d.chans[c].state.pastTest2 = true) (e : Env) (v : Ch) :
    (d.leavePair e v).1.chans[c].state.pastTest2 = true := by
  unfold Drive.leavePair
  split
  · rw [Drive.joinFresh_chan_at]
    split
    · rfl
    · exact h
  · exact h

/-! ### Former members go on -/

/-- A former member that is none any more goes on. -/
def Drive.leaveFormer (d : Drive) (e : Env) (p : PairNo) (old : PairConfig) (c : Ch) : Drive × List (Fin 3) :=
  if old.enabled && !(e.conf.pairs[p].enabled &&
    (decide (c = e.conf.pairs[p].a) || decide (c = e.conf.pairs[p].b))) then d.leavePair e c else (d, [])

theorem Drive.leaveFormer_member (h : e.Member p v) (d : Drive) (old : PairConfig) :
    d.leaveFormer e p old v = (d, []) := by
  refine if_neg ?_
  have hm : (e.conf.pairs[p].enabled &&
      (decide (v = e.conf.pairs[p].a) || decide (v = e.conf.pairs[p].b))) = true := by
    rw [Bool.and_eq_true, Bool.or_eq_true, decide_eq_true_iff, decide_eq_true_iff]
    exact h
  rw [hm, Bool.not_true, Bool.and_false]
  exact Bool.false_ne_true

theorem Drive.leaveFormer_leaves (ho : old.enabled = true) (h : ¬ e.Member p v) (d : Drive) :
    d.leaveFormer e p old v = d.leavePair e v := by
  refine if_pos ?_
  rw [ho, Bool.true_and, Bool.not_eq_true', Bool.eq_false_iff]
  intro hm
  rw [Bool.and_eq_true, Bool.or_eq_true, decide_eq_true_iff, decide_eq_true_iff] at hm
  exact h hm

theorem Drive.leaveFormer_disabled (ho : ¬ old.enabled = true) (d : Drive) (v : Ch) :
    d.leaveFormer e p old v = (d, []) := by
  refine if_neg ?_
  rw [Bool.eq_false_iff.2 ho, Bool.false_and]
  exact Bool.false_ne_true

theorem Drive.leaveFormer_cases (d : Drive) (e : Env) (p : PairNo) (old : PairConfig) (v : Ch) :
    d.leaveFormer e p old v = (d, []) ∨
      (old.enabled = true ∧ ¬ e.Member p v ∧ d.leaveFormer e p old v = d.leavePair e v) := by
  by_cases ho : old.enabled = true
  · by_cases hm : e.Member p v
    · exact .inl (Drive.leaveFormer_member hm d old)
    · exact .inr ⟨ho, hm, Drive.leaveFormer_leaves ho hm d⟩
  · exact .inl (Drive.leaveFormer_disabled ho d v)

theorem Drive.leavePair_idle (h : ¬ d.chans[v].state.waitsForPair = true) (e : Env) : d.leavePair e v = (d, []) :=
  if_neg h

theorem Drive.leavePair_goesOn (h : d.chans[v].state.waitsForPair = true) (e : Env) :
    (d.leavePair e v).1.chans[v].state.pastTest2 = true := by
  rw [Drive.leavePair, if_pos h, Drive.joinFresh_chan_at, if_pos rfl]
  rfl

theorem Drive.leavePair_chan_ne (h : c ≠ v) (d : Drive) (e : Env) : (d.leavePair e v).1.chans[c] = d.chans[c] := by
  unfold Drive.leavePair
  split
  · rw [Drive.joinFresh_chan_at, if_neg h]
  · rfl

theorem Drive.leaveFormer_pairs (d : Drive) (e : Env) (p : PairNo) (old : PairConfig) (v : Ch) :
    (d.leaveFormer e p old v).1.pairs = d.pairs := by
  rcases d.leaveFormer_cases e p old v with h | ⟨-, -, h⟩
  · rw [h]
  · rw [h]
    unfold Drive.leavePair
    split <;> rfl

theorem Drive.leaveFormer_chan_ne (h : c ≠ v) (d : Drive) (e : Env) (p : PairNo) (old : PairConfig) :
    (d.leaveFormer e p old v).1.chans[c] = d.chans[c] := by
  rcases d.leaveFormer_cases e p old v with heq | ⟨-, -, heq⟩
  · rw [heq]
  · rw [heq, Drive.leavePair_chan_ne h]

theorem Drive.leaveFormer_pastTest2 (h : d.chans[c].state.pastTest2 = true) (e : Env) (p : PairNo) (old : PairConfig)
    (v : Ch) : (d.leaveFormer e p old v).1.chans[c].state.pastTest2 = true := by
  rcases d.leaveFormer_cases e p old v with heq | ⟨-, -, heq⟩
  · rw [heq]; exact h
  · rw [heq]; exact Drive.leavePair_pastTest2 h e v

theorem Drive.Rests.leaveFormer (h : d.Rests c x) (hm : e.Member p c) (old : PairConfig) (v : Ch) :
    (d.leaveFormer e p old v).1.Rests c x := by
  rcases d.leaveFormer_cases e p old v with heq | ⟨-, hno, heq⟩
  · rw [heq]; exact h
  · rw [heq]
    refine h.leavePair ?_ e
    rintro rfl
    exact hno hm

/-! ### The whole of SET INTERLOCK -/

/-- The stages of SET INTERLOCK before its passes. -/
def Drive.regrouped (d : Drive) (e : Env) (p : PairNo) (old : PairConfig) : Drive :=
  (((d.settled e p).1.leaveFormer e p old old.a).1.leaveFormer e p old old.b).1

theorem Drive.setPair_stages (d : Drive) (e : Env) (p : PairNo) (old : PairConfig) :
    d.setPair e p old = (d.regrouped e p old).passes e ((d.settled e p).2 ++
      ((d.settled e p).1.leaveFormer e p old old.a).2 ++
      (((d.settled e p).1.leaveFormer e p old old.a).1.leaveFormer e p old old.b).2) := rfl

theorem Drive.setPair_pairs (d : Drive) (e : Env) (p q : PairNo) (old : PairConfig) :
    (d.setPair e p old).pairs[q] = if q = p then ⟨d.finalHolder e p, none⟩ else d.pairs[q] := by
  rw [Drive.setPair_stages, ← Drive.settled_pairs]
  refine congrArg (fun ps : Vector PairState 8 => ps[q]) ?_
  refine (Drive.passes_induct (P := fun d' => d'.pairs = (d.regrouped e p old).pairs)
    (fun d' f h => (d'.pass_pairs e f).trans h) _ _ rfl).trans ?_
  rw [Drive.regrouped, Drive.leaveFormer_pairs, Drive.leaveFormer_pairs]

theorem Drive.setPair_rests (h : (d.settled e p).1.Rests c x) (hm : e.Member p c) (old : PairConfig) :
    (d.setPair e p old).Rests c x :=
  ((h.leaveFormer hm old old.a).leaveFormer hm old old.b).passes e _

theorem Drive.setPair_pastTest2 (h : (d.settled e p).1.chans[c].state.pastTest2 = true) (old : PairConfig) :
    (d.setPair e p old).chans[c].state.pastTest2 = true :=
  Drive.passes_pastTest2 (Drive.leaveFormer_pastTest2 (Drive.leaveFormer_pastTest2 h e p old old.a) e p old old.b) e _

/-- What is no member keeps its state until the former members go on. -/
theorem Drive.settled_outsider (h : ¬ e.Member p c) : (d.settled e p).1.chans[c] = d.chans[c] := by
  rw [Drive.settled_chan fun hg => h (Drive.granted_waits hg).1]
  exact Drive.pairHandled_kept fun hd => h hd.member

/-- A former member that waits for the pair goes on. -/
theorem Drive.setPair_former (ho : old.enabled = true) (hc : c = old.a ∨ c = old.b) (hm : ¬ e.Member p c)
    (hw : d.chans[c].state.waitsForPair = true) : (d.setPair e p old).chans[c].state.pastTest2 = true := by
  have hsettled : (d.settled e p).1.chans[c] = d.chans[c] := Drive.settled_outsider hm
  refine Drive.passes_pastTest2 (d := d.regrouped e p old) ?_ e _
  by_cases ha : c = old.a
  · subst ha
    refine Drive.leaveFormer_pastTest2 ?_ e p old old.b
    rw [Drive.leaveFormer_leaves ho hm]
    exact Drive.leavePair_goesOn (by rw [hsettled]; exact hw) e
  · obtain rfl := hc.resolve_left ha
    rw [Drive.regrouped, Drive.leaveFormer_leaves ho hm]
    exact Drive.leavePair_goesOn (by rw [Drive.leaveFormer_chan_ne ha, hsettled]; exact hw) e

/-- With nobody waiting for the pair, nobody goes on and no pass runs. -/
theorem Drive.setPair_quiet (hq : ∀ c, (old.enabled = true ∧ (c = old.a ∨ c = old.b)) ∨ e.Member p c →
    ¬ d.chans[c].state.waitsForPair = true) : d.setPair e p old = d.pairHandled e p := by
  have hsettled : d.settled e p = (d.pairHandled e p, []) := by
    rcases d.settled_cases e p with ⟨-, heq⟩ | ⟨c, hg, -, -⟩
    · exact heq
    · obtain ⟨hmember, hwaits, -⟩ := Drive.granted_waits hg
      exact absurd hwaits (hq c (.inr hmember))
  have hformer (v : Ch) (hv : v = old.a ∨ v = old.b) :
      (d.pairHandled e p).leaveFormer e p old v = (d.pairHandled e p, []) := by
    rcases (d.pairHandled e p).leaveFormer_cases e p old v with heq | ⟨ho, hm, heq⟩
    · exact heq
    · rw [heq]
      refine Drive.leavePair_idle ?_ e
      rw [Drive.pairHandled_kept fun hd => hm hd.member]
      exact hq v (.inl ⟨ho, hv⟩)
  rw [Drive.setPair_stages, Drive.regrouped, hsettled, hformer old.a (.inl rfl)]
  dsimp only
  rw [hformer old.b (.inr rfl)]
  exact Drive.passes_nil ..

/-! ### Who holds the pair at the end -/

theorem Drive.finalHolder_set (h : d.newHolder e p ≠ .none) : d.finalHolder e p = d.newHolder e p := by
  rw [Drive.finalHolder, Drive.granted, if_neg fun hn => h hn.2]
  rfl

theorem Drive.finalHolder_arbiter (he : e.conf.pairs[p].enabled = true) (hn : d.newHolder e p = .none) :
    d.finalHolder e p =
      ((d.arbiterChoice e.conf.pairs[p].a e.conf.pairs[p].b).map (e.sideOf p)).getD .none := by
  rw [Drive.finalHolder, Drive.granted, if_pos ⟨he, hn⟩, hn]

theorem Drive.finalHolder_disabled (he : ¬ e.conf.pairs[p].enabled = true) : d.finalHolder e p = .none := by
  rw [Drive.finalHolder, Drive.granted, if_neg fun hn => he hn.1]
  exact if_neg he

/-- A channel that is not granted the pair rests where the pair's own change leaves it so. -/
theorem Drive.settled_rests (h : (d.pairHandled e p).Rests c x) (hg : d.granted e p ≠ some c) :
    (d.settled e p).1.Rests c x := by
  rcases d.settled_cases e p with ⟨-, heq⟩ | ⟨c', hc', hidle, heq⟩
  · rw [heq]; exact h
  · rw [hidle] at h
    have hrests : ((d.withHolder e p).modPair p (fun x => { x with holder := e.sideOf p c' })).Rests c x :=
      ⟨h.1, h.2.congr rfl⟩
    rw [heq]
    exact hrests.joinFresh (fun hc => hg (hc ▸ hc')) e

theorem Drive.Apart.pairHandled (h : d.Apart c) (e : Env) (p : PairNo) : (d.pairHandled e p).Apart c := by
  rcases d.pairHandled_cases e p with ⟨heq, -⟩ | ⟨v, -, heq⟩
  · rw [heq]; exact h.congr rfl
  · rw [heq]
    unfold Drive.displace
    split
    · refine fun f => ?_
      rw [Drive.modChan_feeds, Drive.leaveQueue_feed_at]
      split
      · exact ⟨fun y hy => (h f).1 y (List.mem_filter.1 hy).1, (h f).2⟩
      · exact h f
    · exact h.congr rfl

/-- A member that waits for budget without becoming the holder waits for the pair from now on. -/
theorem Drive.FeedsSound.setPair_displaced (h : d.FeedsSound e.conf) (hc : d.Displaced e p c) (old : PairConfig) :
    (d.setPair e p old).Rests c { d.chans[c] with state := .waiting (.interlock e.now) } := by
  refine Drive.setPair_rests (Drive.settled_rests (h.displaced_rests hc) fun hg => ?_) hc.member old
  have hwaits := (Drive.granted_waits hg).2.1
  rw [hc.2.1] at hwaits
  cases hwaits

/-- A member that waits for the pair without being granted it waits on. -/
theorem Drive.FeedsSound.setPair_waits (h : d.FeedsSound e.conf) (hm : e.Member p c)
    (hc : d.chans[c].state = .waiting (.interlock start)) (hg : d.granted e p ≠ some c) (old : PairConfig) :
    (d.setPair e p old).Rests c d.chans[c] := by
  have happart : d.Apart c := h.apart (by rw [hc]; rfl) (by rw [hc]; exact fun h => nomatch h)
  have hnot : ¬ d.Displaced e p c := fun hd => by
    have hbudget := hd.2.1
    rw [hc] at hbudget
    cases hbudget
  exact Drive.setPair_rests (Drive.settled_rests ⟨Drive.pairHandled_kept hnot, happart.pairHandled e p⟩ hg) hm old

theorem Drive.setPair_granted (h : d.granted e p = some c) (old : PairConfig) :
    (d.setPair e p old).chans[c].state.pastTest2 = true :=
  Drive.setPair_pastTest2 (by rw [Drive.settled_granted h]; rfl) old

end
end Sys2Proof.Machine
end

section
/-!
PROOFS. The checks, the answer and the whole of SET INTERLOCK (R78, R79).
-/

namespace Sys2Proof.Machine

theorem exec_setInterlock (h : Header) (pair enabled a b : Byte) (s : State) :
    exec (.setInterlock h pair enabled a b) s =
      .next (request .setInterlock h (unlessStoring (setInterlockBody pair enabled a b)) s) := rfl

theorem exec_readInterlock (h : Header) (pair : Byte) (s : State) :
    exec (.readInterlock h pair) s = .next (reading .readInterlock h (pairAnswer pair) s) := rfl

section
variable {s : State} {d : Drive} {e : Env} {p : PairNo} {ca cb c : Ch} {pair enabled a b : Byte} {cfg : Configuration}
  {sa sb start : Nat}

/-! ### The checks (R78) -/

/-- The channel is a member of an enabled pair other than the one given. -/
def MemberElsewhere (x : Configuration) (p : PairNo) (c : Ch) : Prop :=
  ∃ q : PairNo, q ≠ p ∧ x.pairs[q].enabled = true ∧ (x.pairs[q].a = c ∨ x.pairs[q].b = c)

theorem inOtherPair_iff : inOtherPair cfg p c = true ↔ MemberElsewhere cfg p c := by
  simp only [inOtherPair, List.any_eq_true, Bool.and_eq_true, Bool.or_eq_true, decide_eq_true_eq, and_assoc]
  exact ⟨fun ⟨q, _, h⟩ => ⟨q, h⟩, fun ⟨q, h⟩ => ⟨q, mem_allPairs q, h⟩⟩

theorem setInterlockBody_outOfRange (h : 8 ≤ pair.toNat ∨ 16 ≤ a.toNat ∨ 16 ≤ b.toNat) :
    setInterlockBody pair enabled a b s = (s, refuse .badValue) := by
  unfold setInterlockBody
  split
  · rename_i p ca cb hp ha hb
    exfalso
    rcases h with h | h | h
    · rw [pairOfByte, numOf_of_ge h] at hp; cases hp
    · rw [chOf, numOf_of_ge h] at ha; cases ha
    · rw [chOf, numOf_of_ge h] at hb; cases hb
  · rfl

/-- The part with a pair's settings written. -/
def State.withPair (s : State) (p : PairNo) (x : PairConfig) : State :=
  { s with conf := { s.conf with pairs := s.conf.pairs.set p x } }

/-- SET INTERLOCK of numbers in range, check by check. -/
theorem setInterlockBody_inRange (hp : pair.toNat = p.val) (ha : a.toNat = ca.val) (hb : b.toNat = cb.val)
    (enabled : Byte) (s : State) : setInterlockBody pair enabled a b s =
      if yes enabled = true ∧ ca = cb then (s, refuse .badValue)
      else if yes enabled = true ∧ (inOtherPair s.conf p ca = true ∨ inOtherPair s.conf p cb = true) then
        (s, refuse .badValue)
      else if yes enabled = true ∧ s.drive.chans[ca].state.driven = true ∧ s.drive.chans[cb].state.driven = true then
        (s, refuse .wrongState)
      else
        ({ s.withPair p ⟨yes enabled, ca, cb⟩ with
            drive := s.drive.setPair (s.withPair p ⟨yes enabled, ca, cb⟩).env p s.conf.pairs[p] },
          taken (pairItems { s.withPair p ⟨yes enabled, ca, cb⟩ with
            drive := s.drive.setPair (s.withPair p ⟨yes enabled, ca, cb⟩).env p s.conf.pairs[p] } p)) := by
  simp only [setInterlockBody, pairOfByte, chOf, numOf_of_lt p hp, numOf_of_lt ca ha, numOf_of_lt cb hb]
  rfl

/-! ### The holder by the states of the members -/

theorem Drive.newHolder_eq (he : e.conf.pairs[p] = ⟨true, ca, cb⟩) (d : Drive) :
    d.newHolder e p = d.holderFor ca cb := by
  rw [Drive.newHolder, he]
  rfl

theorem Drive.finalHolder_of_holderFor {x : Holder} (he : e.conf.pairs[p] = ⟨true, ca, cb⟩)
    (hx : d.holderFor ca cb = x) (hn : x ≠ .none) : d.finalHolder e p = x := by
  have hnew := (d.newHolder_eq he).trans hx
  rw [Drive.finalHolder_set (hnew ▸ hn), hnew]

theorem Drive.finalHolder_free (he : e.conf.pairs[p] = ⟨true, ca, cb⟩) (hx : d.holderFor ca cb = .none) :
    d.finalHolder e p = ((d.arbiterChoice ca cb).map (e.sideOf p)).getD .none := by
  rw [Drive.finalHolder_arbiter (by rw [he]) ((d.newHolder_eq he).trans hx), he]

theorem Drive.finalHolder_chosen (he : e.conf.pairs[p] = ⟨true, ca, cb⟩) (hx : d.holderFor ca cb = .none)
    (hc : d.arbiterChoice ca cb = some c) : d.finalHolder e p = e.sideOf p c := by
  rw [Drive.finalHolder_free he hx, hc]
  rfl

theorem Env.sideOf_left (he : e.conf.pairs[p] = ⟨true, ca, cb⟩) : e.sideOf p ca = .a := Env.sideOf_a (by rw [he])

theorem Env.sideOf_right (he : e.conf.pairs[p] = ⟨true, ca, cb⟩) (hab : ca ≠ cb) : e.sideOf p cb = .b :=
  Env.sideOf_b (by rw [he]) (by rw [he]; exact hab)

theorem ChanState.waitStart_of_waits {x : ChanState} (h : x.waitsForPair = true) :
    ∃ start, x.waitStart = some start := by
  rcases x with _ | _ | (_ | start | _) | _ | _ | _ | _
  case waiting.interlock => exact ⟨start, rfl⟩
  all_goals cases h

theorem ChanState.waitStart_of_not_waits {x : ChanState} (h : ¬ x.waitsForPair = true) : x.waitStart = none :=
  ChanState.waitStart_eq_none.2 fun start hx => h (by rw [hx]; rfl)

/-- A channel that is made the holder by its state does not wait for the pair. -/
theorem Drive.holderFor_not_waiting (hc : d.chans[c].state = .waiting (.interlock start)) :
    (ca = c → d.holderFor ca cb ≠ .a) ∧ (cb = c → d.holderFor ca cb ≠ .b) := by
  refine ⟨?_, ?_⟩
  · rintro rfl h
    unfold Drive.holderFor at h
    simp only [hc] at h
    split at h
    · cases ‹_ = true›
    · split at h
      · cases h
      · cases hb : d.chans[cb].state.claims <;> rw [hb] at h <;> cases h
  · rintro rfl h
    unfold Drive.holderFor at h
    simp only [hc] at h
    split at h
    · cases h
    · split at h
      · cases ‹_ = true›
      · cases ha : d.chans[ca].state.claims <;> rw [ha] at h <;> cases h

/-- The channel is the member on a side. -/
def OnSide (ca cb c : Ch) (side : Holder) : Prop := (c = ca ∧ side = .a) ∨ (c = cb ∧ side = .b)

theorem Env.member_of_onSide {side : Holder} (he : e.conf.pairs[p] = ⟨true, ca, cb⟩) (hs : OnSide ca cb c side) :
    e.Member p c := by
  rw [Env.Member, he]
  exact ⟨rfl, hs.imp And.left And.left⟩

theorem Env.sideOf_onSide {side : Holder} (he : e.conf.pairs[p] = ⟨true, ca, cb⟩) (hab : ca ≠ cb)
    (hs : OnSide ca cb c side) : e.sideOf p c = side := by
  rcases hs with ⟨rfl, rfl⟩ | ⟨rfl, rfl⟩
  · exact Env.sideOf_left he
  · exact Env.sideOf_right he hab

/-- A waiting member becomes the holder exactly by the arbiter's grant. -/
theorem Drive.finalHolder_granted {side : Holder} (he : e.conf.pairs[p] = ⟨true, ca, cb⟩) (hab : ca ≠ cb)
    (hs : OnSide ca cb c side) (hc : d.chans[c].state = .waiting (.interlock start)) :
    d.finalHolder e p = side ↔ d.granted e p = some c := by
  obtain ⟨hleft, hright⟩ := Drive.holderFor_not_waiting (ca := ca) (cb := cb) hc
  have hside := Env.sideOf_onSide he hab hs
  unfold Drive.finalHolder
  cases hg : d.granted e p with
  | none =>
    refine ⟨fun h => absurd ((d.newHolder_eq he).symm.trans h) ?_, fun h => nomatch h⟩
    rcases hs with ⟨rfl, rfl⟩ | ⟨rfl, rfl⟩
    · exact hleft rfl
    · exact hright rfl
  | some c' =>
    refine ⟨fun h => ?_, fun h => Option.some.inj h ▸ hside⟩
    have hmember := (Drive.granted_waits hg).1.2
    rw [he] at hmember
    have hside' : OnSide ca cb c' (e.sideOf p c') := by
      rcases hmember with rfl | rfl
      · exact .inl ⟨rfl, Env.sideOf_left he⟩
      · exact .inr ⟨rfl, Env.sideOf_right he hab⟩
    rw [show e.sideOf p c' = side from h] at hside'
    rcases hs with ⟨rfl, rfl⟩ | ⟨rfl, rfl⟩
    · exact congrArg some (hside'.resolve_right fun h => nomatch h.2).1
    · exact congrArg some (hside'.resolve_left fun h => nomatch h.2).1

/-- A member in WAITING(BUDGET) that is not the holder at the end is displaced. -/
theorem Drive.displaced_of_finalHolder {side : Holder} (he : e.conf.pairs[p] = ⟨true, ca, cb⟩)
    (hs : OnSide ca cb c side) (hc : d.chans[c].state = .waiting .budget) (hh : d.finalHolder e p ≠ side) :
    d.Displaced e p c := by
  have hnew := d.newHolder_eq he
  have hset : d.newHolder e p ≠ .none := fun hnone => by
    obtain ⟨ha, hb⟩ := Drive.holderFor_eq_none (hnew.symm.trans hnone)
    have hpast : d.chans[c].state.pastTest2 = true := by rw [hc]; rfl
    rcases hs with ⟨rfl, -⟩ | ⟨rfl, -⟩
    · exact Bool.false_ne_true (ha.symm.trans hpast)
    · exact Bool.false_ne_true (hb.symm.trans hpast)
  rw [Drive.finalHolder_set hset] at hh
  refine ⟨by rw [he], hc, ?_⟩
  rw [he]
  rcases hs with ⟨hca, rfl⟩ | ⟨hcb, rfl⟩
  · refine .inl ⟨?_, hca⟩
    cases h : d.newHolder e p with
    | none => exact absurd h hset
    | a => exact absurd h hh
    | b => rfl
  · refine .inr ⟨?_, hcb⟩
    cases h : d.newHolder e p with
    | none => exact absurd h hset
    | a => rfl
    | b => exact absurd h hh

/-! ### The answers (R79) -/

/-- The items of READ INTERLOCK in the layout of R79. -/
theorem pairItems_eq (s : State) (p : PairNo) : pairItems s p =
    [yesShown s.conf.pairs[p].enabled, BitVec.ofNat 8 s.conf.pairs[p].a.val, BitVec.ofNat 8 s.conf.pairs[p].b.val,
     (match s.drive.pairs[p].holder with | .none => 0x00#8 | .a => 0x01#8 | .b => 0x02#8),
     BitVec.ofNat 8 (s.drive.pairs[p].dead.getD 0),
     yesShown s.drive.chans[s.conf.pairs[p].a].state.waitsForPair,
     yesShown s.drive.chans[s.conf.pairs[p].b].state.waitsForPair] := by
  unfold pairItems
  dsimp only
  generalize s.drive.pairs[p].holder = holder
  cases holder <;> rfl

theorem pairAnswer_outOfRange (h : 8 ≤ pair.toNat) : pairAnswer pair s = refuse .badValue := by
  simp only [pairAnswer, pairOfByte, numOf_of_ge h]

theorem pairAnswer_of_eq (h : pair.toNat = p.val) : pairAnswer pair s = taken (pairItems s p) := by
  simp only [pairAnswer, pairOfByte, numOf_of_lt p h]

end

/-- Settles O34: the checks in order, the holder by the states of the members, and the moves of the members. -/
theorem interlockRequests : Obligations.InterlockRequests := by
  intro h pair enabled a b s items refused
  have hitems (x : State) (p : PairNo) : pairItems x p = items x p := pairItems_eq x p
  refine ⟨fun acc => ⟨fun hp => ?outOfRange, fun p hp => ?shown⟩, fun sup hw => ⟨fun hbad => ?range,
    fun p ca cb hp ha hb => ?inRange⟩⟩
  case outOfRange => exact congrArg Host.Outcome.next (reading_refuses acc rfl (pairAnswer_outOfRange hp))
  case shown =>
    exact congrArg Host.Outcome.next (reading_takes acc rfl (Nat.le_of_ble_eq_true rfl)
      ((pairAnswer_of_eq hp).trans (congrArg taken (hitems s p))))
  case range => exact congrArg Host.Outcome.next (sup.unlessStoring_refuses hw (setInterlockBody_outOfRange hbad))
  case inRange =>
    intro elsewhere driven claims waits since before old member
    have hbody := setInterlockBody_inRange hp ha hb enabled s
    have hyes : yes enabled = true ↔ enabled ≠ 0#8 := yes_eq_true
    refine ⟨fun hen hno => ?badValue, fun hen hab hea heb hda hdb => ?wrongState, fun hok => ?taken⟩
    case badValue =>
      refine congrArg Host.Outcome.next (sup.unlessStoring_refuses hw ?_)
      rw [hbody]
      by_cases hab : ca = cb
      · exact if_pos ⟨hyes.2 hen, hab⟩
      · refine (if_neg fun h => hab h.2).trans (if_pos ⟨hyes.2 hen, ?_⟩)
        rw [inOtherPair_iff, inOtherPair_iff]
        exact hno.resolve_left hab
    case wrongState =>
      refine congrArg Host.Outcome.next (sup.unlessStoring_refuses hw ?_)
      rw [hbody, if_neg fun h => hab h.2, if_neg, if_pos ⟨hyes.2 hen, hda, hdb⟩]
      rw [inOtherPair_iff, inOtherPair_iff]
      exact fun h => h.2.elim hea heb
    case taken =>
      have hfree (hen : enabled ≠ 0#8) := hok.resolve_left hen
      have htaken : setInterlockBody pair enabled a b s =
          ({ s.withPair p ⟨yes enabled, ca, cb⟩ with
              drive := s.drive.setPair (s.withPair p ⟨yes enabled, ca, cb⟩).env p old },
            taken (items { s.withPair p ⟨yes enabled, ca, cb⟩ with
              drive := s.drive.setPair (s.withPair p ⟨yes enabled, ca, cb⟩).env p old } p)) := by
        rw [hbody, if_neg, if_neg, if_neg, hitems]
        · rintro ⟨hen, hdriven⟩
          obtain ⟨-, -, -, hboth⟩ := hfree (hyes.1 hen)
          exact hboth hdriven
        · rw [inOtherPair_iff, inOtherPair_iff]
          rintro ⟨hen, helse⟩
          obtain ⟨-, hea, heb, -⟩ := hfree (hyes.1 hen)
          exact helse.elim hea heb
        · exact fun h => (hfree (hyes.1 h.1)).1 h.2
      have hset : (s.withPair p ⟨yes enabled, ca, cb⟩).env.conf.pairs[p] = ⟨yes enabled, ca, cb⟩ :=
        Vector.getElem_set_self _
      generalize he : (s.withPair p ⟨yes enabled, ca, cb⟩).env = e at htaken hset
      have hpairs (q : PairNo) := s.drive.setPair_pairs e p q old
      have hself := (hpairs p).trans (if_pos rfl)
      have hholder : (s.drive.setPair e p old).pairs[p].holder = s.drive.finalHolder e p := by rw [hself]
      have hnew (hen : enabled ≠ 0#8) : e.conf.pairs[p] = ⟨true, ca, cb⟩ := by rw [hset, hyes.2 hen]
      refine ⟨_, congrArg Host.Outcome.next (sup.unlessStoring_takes hw (Nat.le_of_ble_eq_true rfl) htaken), rfl, ?dead,
        fun q hq => (hpairs q).trans (if_neg hq), fun hen => ?disabled, fun hen => ?holder, fun hsound => ?moves⟩
      case dead => exact congrArg PairState.dead hself
      case disabled =>
        refine hholder.trans (Drive.finalHolder_disabled ?_)
        rw [hset]
        exact fun h => hyes.1 h hen
      case holder =>
        obtain ⟨hab, -, -, hboth⟩ := hfree hen
        have hpair := hnew hen
        have hleft (hx : s.drive.holderFor ca cb = .a) := hholder.trans (Drive.finalHolder_of_holderFor hpair hx nofun)
        have hright (hx : s.drive.holderFor ca cb = .b) := hholder.trans (Drive.finalHolder_of_holderFor hpair hx nofun)
        refine ⟨fun hda => hleft (Drive.holderFor_driven_left hda),
          fun hdb => hright (Drive.holderFor_driven_right (fun hda => hboth ⟨hda, hdb⟩) hdb), fun hda hdb => ?_⟩
        obtain ⟨hclaimsA, hclaimsB, hfreed⟩ := Drive.holderFor_undriven hda hdb
        refine ⟨fun hca hlt => hleft (hclaimsA hca fun hcb => le_of_lt (hlt hcb)),
          fun hcb hlt => hright (hclaimsB hcb hlt), fun hca hcb => ?free⟩
        case free =>
          have hx : s.drive.holderFor ca cb = .none := hfreed hca hcb
          have hidle := hholder.trans (Drive.finalHolder_free hpair hx)
          have hchosen {c : Ch} (hc : s.drive.arbiterChoice ca cb = some c) :=
            hholder.trans (Drive.finalHolder_chosen hpair hx hc)
          have hsideA := Env.sideOf_left hpair
          have hsideB := Env.sideOf_right hpair hab
          refine ⟨fun hwa hwb => ?nobody, fun hwa hwb => ?left, fun hwa hwb => ?right,
            fun sa sb hsa hsb => ⟨fun hba => ?first, fun hbb => ?second⟩⟩
          case nobody =>
            rw [Drive.arbiterChoice_idle (ChanState.waitStart_of_not_waits hwa)
              (ChanState.waitStart_of_not_waits hwb)] at hidle
            exact hidle
          case left =>
            obtain ⟨sa, hsa⟩ := ChanState.waitStart_of_waits hwa
            exact (hchosen (Drive.arbiterChoice_left hsa (ChanState.waitStart_of_not_waits hwb))).trans hsideA
          case right =>
            obtain ⟨sb, hsb⟩ := ChanState.waitStart_of_waits hwb
            exact (hchosen (Drive.arbiterChoice_right (ChanState.waitStart_of_not_waits hwa) hsb)).trans hsideB
          case first =>
            exact (hchosen (Drive.arbiterChoice_first (ChanState.waitStart_eq_some.2 hsa)
              (ChanState.waitStart_eq_some.2 hsb) hba)).trans hsideA
          case second =>
            exact (hchosen (Drive.arbiterChoice_second (ChanState.waitStart_eq_some.2 hsa)
              (ChanState.waitStart_eq_some.2 hsb) hbb)).trans hsideB
      case moves =>
        have hf : s.drive.FeedsSound e.conf := by
          rw [← he]
          exact Drive.FeedsSound.conf_mono hsound rfl fun _ => Nat.le_refl _
        have hnow : e.now = s.now := by rw [← he]; rfl
        have hmember (c : Ch) : e.Member p c ↔ member c := by
          rw [Env.Member, hset]
          exact and_congr_left' hyes
        refine ⟨fun c side hen hs => ⟨fun hc hh => ?displaced, fun start hc => ⟨fun hh => ?granted, fun hh => ?waits⟩⟩,
          fun c ho hc hm hwc => Drive.setPair_former ho hc (fun hme => hm ((hmember c).1 hme)) hwc,
          fun hquiet c hc => ?quiet⟩
        case displaced =>
          have hdisplaced := Drive.displaced_of_finalHolder (hnew hen) hs hc fun hx => hh (hholder.trans hx)
          obtain ⟨hchan, hapart⟩ := hf.setPair_displaced hdisplaced old
          refine ⟨(congrArg Channel.state hchan).trans ?_, fun g => (hapart g).1⟩
          rw [hnow]
        case granted =>
          exact Drive.setPair_granted ((Drive.finalHolder_granted (hnew hen) (hfree hen).1 hs hc).1
            (hholder.symm.trans hh)) old
        case waits =>
          have hnot : s.drive.granted e p ≠ some c := fun hg =>
            hh (hholder.trans ((Drive.finalHolder_granted (hnew hen) (hfree hen).1 hs hc).2 hg))
          obtain ⟨hchan, -⟩ := hf.setPair_waits (Env.member_of_onSide (hnew hen) hs) hc hnot old
          exact (congrArg Channel.state hchan).trans hc
        case quiet =>
          have hstay : s.drive.setPair e p old = s.drive.pairHandled e p := Drive.setPair_quiet fun c hcc =>
            hquiet c (hcc.imp_right (hmember c).1)
          show (s.drive.setPair e p old).chans[c] = _
          rw [hstay]
          exact Drive.pairHandled_kept fun hd => hc.elim (fun hm => hm ((hmember c).1 hd.member)) fun hn => hn hd.2.1

end Sys2Proof.Machine
end

section
/-!
PROOFS. The frame of the Control Link: its CRC, its reading back, and its bits on the pins (R147, R149, R151, R153).
-/

namespace Sys2Proof.Machine

theorem exec_csnFall (s : State) : exec .csnFall s =
    .next { s with
      link := { s.link with csn := if s.inReset then .lowUncounted else .frame s.link.response .start } } := rfl

section
variable {bytes body : List Byte} {bits : List Bool} {n : Nat} {kind : Byte} {h : Header} {k : Kind} {i : Instr}
  {s : State} {r : Response}

/-! ### The bits of a frame, most significant bit of each byte first -/

/-- Bit `n` of a frame in the order of the wire. -/
def bitAt (bytes : List Byte) (n : Nat) : Bool := (byteAt bytes (n / 8)).getLsbD (7 - n % 8)

theorem bitAt_in_byte (bytes : List Byte) (n : Nat) {j : Nat} (hj : j < 8) :
    bitAt bytes (8 * n + j) = (byteAt bytes n).getLsbD (7 - j) := by
  rw [bitAt, show (8 * n + j) / 8 = n by omega, show (8 * n + j) % 8 = j by omega]

/-- The bits of one byte more follow those before it. -/
theorem range_bits_succ (bytes : List Byte) (n : Nat) :
    (List.range (8 * (n + 1))).map (bitAt bytes) =
      (List.range (8 * n)).map (bitAt bytes) ++ (List.range 8).map (fun j => (byteAt bytes n).getLsbD (7 - j)) := by
  rw [Nat.mul_succ, List.range_add, List.map_append, List.map_map]
  refine congrArg _ (List.map_congr_left fun j hj => ?_)
  exact bitAt_in_byte bytes n (List.mem_range.1 hj)

/-! ### The CRC register, bit by bit (R149) -/

theorem crcBit_eq (r : Byte) (bit : Bool) :
    crcBit r bit = if r.getLsbD 7 = bit then r <<< 1 else (r <<< 1) ^^^ 0x2F#8 := by
  rw [crcBit, BitVec.msb_eq_getLsbD_last]
  simp only [beq_iff_eq]

theorem crc_of_bits (bytes : List Byte) (r : Byte) (n : Nat) :
    ((List.range (8 * n)).map (bitAt bytes)).foldl crcBit r = ((List.range n).map (byteAt bytes)).foldl crcByte r := by
  induction n with
  | zero => rfl
  | succ n ih =>
    rw [range_bits_succ, List.foldl_append, ih, List.range_succ (n := n), List.map_append, List.foldl_append]
    rfl

theorem range_byteAt (hn : n ≤ bytes.length) : (List.range n).map (byteAt bytes) = bytes.take n := by
  refine List.ext_getElem (by simp [hn]) fun j h1 h2 => ?_
  have hj : j < bytes.length := by
    have := List.length_map (as := List.range n) (byteAt bytes) ▸ h1
    rw [List.length_range] at this
    omega
  simp [byteAt, hj]

/-! ### Bytes and two-byte values at their places (R151, R153) -/

theorem headerOf_headerByte (h : Header) : headerOf (headerByte h) = h := by
  obtain ⟨slot, tag⟩ := h
  simp only [headerOf, headerByte, Header.mk.injEq]
  refine ⟨?_, ?_⟩
  · ext i hi
    rw [BitVec.getElem_extractLsb', BitVec.getLsbD_append (x := slot) (y := tag), if_neg (by omega),
      Nat.add_sub_cancel_left, BitVec.getLsbD_eq_getElem hi]
  · ext i hi
    rw [BitVec.getElem_extractLsb', BitVec.getLsbD_append (x := slot) (y := tag), Nat.zero_add, if_pos hi,
      BitVec.getLsbD_eq_getElem hi]

theorem hiByte_append_loByte (w : Word16) : hiByte w ++ loByte w = w :=
  BitVec.extractLsb'_append_extractLsb' (w := 8) (len := 8) (x := w)

theorem frameOf_length (kind : Byte) (h : Header) (body : List Byte) : (frameOf kind h body).length = 20 := by
  simp [frameOf, fillTo]

theorem byteAt_frameOf_kind (kind : Byte) (h : Header) (body : List Byte) : byteAt (frameOf kind h body) 0 = kind := rfl

theorem byteAt_frameOf_header (kind : Byte) (h : Header) (body : List Byte) :
    byteAt (frameOf kind h body) 1 = headerByte h := rfl

/-! ### Reading a frame back (R151, R154) -/

theorem kindOfByte_code (k : Kind) : kindOfByte k.code = some k := by cases k <;> rfl

/-- A frame that `frameOf` writes has an agreeing CRC. -/
theorem frameOf_wellFormed (kind : Byte) (h : Header) (body : List Byte) :
    crc8 ((frameOf kind h body).take 19) = byteAt (frameOf kind h body) 19 := by
  have hform := Laws.frameOf_crc kind h body
  have hlen : ((frameOf kind h body).take 19).length = 19 := by simp [frameOf_length]
  generalize hf : (frameOf kind h body).take 19 = front at hform hlen
  rw [hform, byteAt, List.getD_eq_getElem?_getD, List.getElem?_append_right (by omega), hlen]
  rfl

theorem decodeFrame_unknown (hk : kindOfByte kind = none) (h : Header) (body : List Byte) :
    decodeFrame 160 (frameOf kind h body) = .unknownKindFrame kind h := by
  rw [decodeFrame, if_neg (not_not.2 rfl), if_neg (not_not.2 (frameOf_wellFormed kind h body)), byteAt_frameOf_kind,
    byteAt_frameOf_header, headerOf_headerByte]
  simp only [hk]

theorem decodeFrame_request (hk : kindOfByte kind = some k) (h : Header) (body : List Byte) :
    decodeFrame 160 (frameOf kind h body) = requestOf k (frameOf kind h body) := by
  rw [decodeFrame, if_neg (not_not.2 rfl), if_neg (not_not.2 (frameOf_wellFormed kind h body)), byteAt_frameOf_kind]
  simp only [hk]

/-- Request by request, the parameters stand where the reading looks for them, and two bytes make their word again. -/
theorem requestOf_frameOf (hi : requestParts i = some (k, h, body)) : requestOf k (frameOf k.code h body) = i := by
  cases i <;> cases hi <;>
    simp [requestOf, levelAt, wordAt, byteAt, frameOf, fillTo, levelBytes, wordBytes, headerOf_headerByte,
      hiByte_append_loByte]

/-- What has a frame is a frame of unknown kind or a request. -/
theorem encodeFrame_cases (h : encodeFrame i = some bytes) :
    (∃ kind h, i = .unknownKindFrame kind h ∧ bytes = frameOf kind h []) ∨
    ∃ k h body, requestParts i = some (k, h, body) ∧ bytes = frameOf k.code h body := by
  unfold encodeFrame at h
  split at h
  · exact .inl ⟨_, _, rfl, (Option.some.inj h).symm⟩
  · obtain ⟨⟨k, hd, body⟩, hparts, heq⟩ := Option.map_eq_some_iff.1 h
    exact .inr ⟨k, hd, body, hparts, heq.symm⟩

theorem encodeFrame_frameOf (h : encodeFrame i = some bytes) : ∃ kind hd body, bytes = frameOf kind hd body := by
  rcases encodeFrame_cases h with ⟨kind, hd, -, heq⟩ | ⟨k, hd, body, -, heq⟩
  · exact ⟨_, _, _, heq⟩
  · exact ⟨_, _, _, heq⟩

theorem decodeFrame_encodeFrame (hw : i.wellFormed = true) (h : encodeFrame i = some bytes) :
    decodeFrame 160 bytes = i := by
  rcases encodeFrame_cases h with ⟨kind, hd, rfl, rfl⟩ | ⟨k, hd, body, hparts, rfl⟩
  · exact decodeFrame_unknown (Option.isNone_iff_eq_none.1 hw) hd []
  · exact (decodeFrame_request (kindOfByte_code k) hd body).trans (requestOf_frameOf hparts)

/-! ### The frame assembler (R147) -/

/-- The assembler after a run of bits, one rising and one falling edge for each. -/
def Assembler.clock (a : Assembler) (bits : List Bool) : Assembler := bits.foldl (fun a b => (a.rise b).fall) a

theorem Assembler.clock_start (bits : List Bool) :
    Assembler.start.clock bits = ⟨bits.length, bits.length, bits.take 160⟩ := by
  induction bits using List.reverseRecOn with
  | nil => rfl
  | append_singleton bits b ih =>
    have hstep : Assembler.start.clock (bits ++ [b]) = ((Assembler.start.clock bits).rise b).fall := by
      rw [Assembler.clock, List.foldl_append]
      rfl
    rw [hstep, ih, Assembler.rise, Assembler.fall, List.length_append]
    refine Assembler.mk.injEq .. |>.mpr ⟨rfl, rfl, ?_⟩
    show (if bits.length < 160 then bits.take 160 ++ [b] else bits.take 160) = _
    by_cases hn : bits.length < 160
    · rw [if_pos hn, List.take_of_length_le (Nat.le_of_lt hn), List.take_of_length_le]
      rw [List.length_append]
      exact hn
    · rw [if_neg hn, List.take_append_of_le_length (Nat.not_lt.1 hn)]

/-- Eight bits of a byte, most significant first, make the byte. -/
theorem byteOfBits_bits (b : Byte) : byteOfBits ((List.range 8).map (fun j => b.getLsbD (7 - j))) = b := by
  revert b
  decide

/-- The bits of 20 bytes make these bytes. -/
theorem Assembler.bytes_of_bits (hl : bytes.length = 20) (rises falls : Nat) :
    Assembler.bytes ⟨rises, falls, (List.range 160).map (bitAt bytes)⟩ = bytes := by
  have hbyte (n : Nat) (hn : n < 20) :
      byteOfBits ((((List.range 160).map (bitAt bytes)).drop (8 * n)).take 8) = byteAt bytes n := by
    have hbits : (((List.range 160).map (bitAt bytes)).drop (8 * n)).take 8 =
        (List.range 8).map (fun j => (byteAt bytes n).getLsbD (7 - j)) := by
      refine List.ext_getElem (by simp; omega) fun j hj hj' => ?_
      have hj8 : j < 8 := by simpa using hj'
      simp [bitAt_in_byte bytes n hj8]
    rw [hbits, byteOfBits_bits]
  have hcount : ((List.range 160).map (bitAt bytes)).length / 8 = 20 := by simp
  rw [Assembler.bytes, hcount, List.map_congr_left fun n hn => hbyte n (List.mem_range.1 hn),
    range_byteAt (Nat.le_of_eq hl.symm), List.take_of_length_le (Nat.le_of_eq hl)]

/-! ### The pins (R147) -/

/-- The part with a frame in progress. -/
def State.inProgress (s : State) (r : Response) (a : Assembler) : State :=
  { s with link := { s.link with csn := .frame r a } }

/-- The edges of a run of bits change the frame in progress alone. -/
theorem State.clocked (hr : s.inReset = false) (r : Response) (a : Assembler) (bits : List Bool) :
    bits.foldl (fun x b => (x.sckRise b).sckFall) (s.inProgress r a) = s.inProgress r (a.clock bits) := by
  induction bits generalizing a with
  | nil => rfl
  | cons b bits ih =>
    have hstep : ((s.inProgress r a).sckRise b).sckFall = s.inProgress r ((a.rise b).fall) := by
      simp [State.sckRise, State.sckFall, State.inFrame, State.inProgress, hr]
    rw [List.foldl_cons, hstep, ih]
    rfl

theorem State.sdo_inProgress (hr : s.inReset = false) (r : Response) (a : Assembler) :
    (s.inProgress r a).sdo = some (decide (a.falls < 160) && bitAt r.bytes a.falls) := by
  have hbit : sdoBit r a.falls = (decide (a.falls < 160) && bitAt r.bytes a.falls) := by
    unfold sdoBit
    split
    · rename_i h; rw [decide_eq_true h, Bool.true_and]; rfl
    · rename_i h; rw [decide_eq_false h, Bool.false_and]
  rw [← hbit]
  exact if_neg (ne_true_of_eq_false hr)

end

/-- Settles O4: the CRC bit by bit, the reading back of what `frameOf` writes, and the assembler after a run of bits. -/
theorem frameOfRequestReadsBack : Obligations.FrameOfRequestReadsBack := by
  unfold Obligations.FrameOfRequestReadsBack
  intro bitOf shifted
  have hshifted : shifted = crcBit := funext fun r => funext fun b => (crcBit_eq r b).symm
  refine ⟨fun i bytes hw h => ?read, fun s hr => ?clocked⟩
  case read =>
    obtain ⟨kind, hd, body, heq⟩ := encodeFrame_frameOf h
    have hlen : bytes.length = 20 := heq ▸ frameOf_length kind hd body
    refine ⟨hlen, ?_, decodeFrame_encodeFrame hw h⟩
    have hcrc : crc8 (bytes.take 19) = byteAt bytes 19 := heq ▸ frameOf_wellFormed kind hd body
    rw [← hcrc, hshifted, crc8, ← range_byteAt (by omega)]
    exact (crc_of_bits bytes 0xFF#8 19).symm
  case clocked =>
    have hfall : exec .csnFall s = .next (s.inProgress s.link.response .start) := by
      rw [exec_csnFall, if_neg (ne_true_of_eq_false hr)]
      rfl
    refine ⟨_, hfall, ?_⟩
    intro clocked
    have hclocked (bits : List Bool) :
        clocked bits = s.inProgress s.link.response ⟨bits.length, bits.length, bits.take 160⟩ := by
      rw [← Assembler.clock_start]
      exact State.clocked hr ..
    refine ⟨fun i bytes hw h => ?frame, fun bits => ⟨fun hne => ?discard, ?sdo, ?kept⟩⟩
    case frame =>
      obtain ⟨kind, hd, body, heq⟩ := encodeFrame_frameOf h
      have hlen : bytes.length = 20 := heq ▸ frameOf_length kind hd body
      have hbits : ((List.range 160).map (bitOf bytes)).length = 160 := by simp
      rw [hclocked, hbits, List.take_of_length_le (Nat.le_of_eq hbits)]
      show some (decodeFrame 160 (Assembler.bytes ⟨160, 160, (List.range 160).map (bitAt bytes)⟩)) = some i
      rw [Assembler.bytes_of_bits hlen, decodeFrame_encodeFrame hw h]
    case discard =>
      rw [hclocked]
      exact congrArg some (if_pos hne)
    case sdo =>
      rw [hclocked]
      exact State.sdo_inProgress hr ..
    case kept =>
      rw [hclocked]
      rfl

end Sys2Proof.Machine
end
